-- ==== Sys2Proof/Word.lean ====
section
/-! DEFINITION. The words the TC3816 works with: lines of page memory, keys, tags, serials, planes. -/

namespace Sys2Proof

/-- One byte of a line. -/
abbrev Byte := BitVec 8

/-- A line of page memory, 64 bytes (overview 3.1). Byte `i` of the line is bits `8 i` to `8 i + 7`,
so a little-endian field at byte offset `o` (R186) is the run of bits that starts at `8 o`. -/
abbrev Line := BitVec 512

/-- The 64 byte enables of a write, bit `i` for byte `i` (section 1.1). -/
abbrev ByteMask := BitVec 64

/-- A job key, 128 bits (R22). -/
abbrev Key := BitVec 128

/-- A cartridge serial number (R141). -/
abbrev Serial := BitVec 64

/-- A 16-byte nonce of a cartridge exchange (R148, R153). -/
abbrev Nonce := BitVec 128

/-- A plane, 0 = C, 1 = M, 2 = Y, 3 = K, and the cartridge slot that serves it (overview 3.3). -/
abbrev Plane := Fin 4

/-- A set of planes, C in bit 0 to K in bit 3 (R186). -/
abbrev PlaneSet := BitVec 4

/-- A tag of a cartridge exchange (R148, R153), told by what made it: a keyed function under a secret over the content
of the constructor, or none of them, and then by its 16 bytes (R148; PRESUMED for R153). A tag is then that of one
content, and its check succeeds exactly when the content is unaltered (R1). R1 names four keyed functions, and R153
does not say which of them makes the two tags of a debit: each has a constructor of its own, beside the answer tag's.
DESIGN CHOICE (log entry 5). -/
inductive LineTag where
  | answer (secret : BitVec 256) (nonce : Nonce) (serial : Serial) (plane : Plane) (remaining : Nat)
  | amount (secret : BitVec 256) (serial : Serial) (amount : Nat) (nonce : Nonce)
  | confirmation (secret : BitVec 256) (serial : Serial) (nonce : Nonce) (amount remaining : Nat)
  | other (bytes : BitVec 128)
  deriving DecidableEq, Repr

/-- Replace one element of a table. -/
def put {α : Type} {n : Nat} (v : Vector α n) (i : Fin n) (x : α) : Vector α n :=
  v.set i.val x i.isLt

end Sys2Proof
end

