-- ==== Sys2Proof/Syntax.lean ====
section
/-! DEFINITION. The commands of the TC3816: one constructor for each row of spec/opcode_table.json.
A command is an event at the part. What arrives from outside with the event is the command's operand.
An order command is the execution of the entry at the head of the order queue (R167): its arguments are
the bytes of that entry (R165, R187), which the state holds, so it carries no operand (DESIGN CHOICE, log entry 1). -/

namespace Sys2Proof

/-- The direction of a line request; a write carries its byte mask and data (section 1.1). -/
inductive Access where
  | read
  | write (mask : ByteMask) (data : Line)
  deriving DecidableEq, Repr

/-- A line request as the controller presents it (section 1.1). -/
structure LineReq where
  tag : Fin 64
  line : Nat
  access : Access
  deriving DecidableEq, Repr

/-- The answer a cartridge gives to a proof (R148, phase 3). -/
structure ProofAnswer where
  serial : Serial
  plane : Plane
  remaining : BitVec 32
  tag : LineTag
  deriving DecidableEq, Repr

/-- The confirmation a cartridge gives to a debit (R153, phase 3). -/
structure DebitConfirmation where
  remaining : BitVec 32
  tag : LineTag
  deriving DecidableEq, Repr

/-- The commands, in the order of the table. -/
inductive Instr where
  /-- COLD_RESET, with the strap levels it samples (R4, R20). -/
  | coldReset (memsize : Fin 4) (ctlpos : Fin 2)
  /-- LINE_REQUEST: a request arrives (R5). -/
  | lineRequest (tag : Fin 64) (line : Nat) (access : Access)
  /-- RING_HEADER_WRITE: a write to control line 1 arrives (R181). -/
  | ringHeaderWrite (tag : Fin 64) (mask : ByteMask) (data : Line)
  /-- ORDER_TAKE: a full-line write to a line of the order window arrives (R165). -/
  | orderTake (tag : Fin 64) (window : Nat) (data : Line)
  /-- UPSTREAM_GRANT: the memory port grants the oldest upstream line (R18). -/
  | upstreamGrant
  /-- MERGE_READ_ISSUE: a merge entry leaves ORDERING (R49). -/
  | mergeReadIssue (entry : Fin 8)
  /-- MERGE_READ_GRANT: the port grants a merge's read (R49). -/
  | mergeReadGrant
  /-- MERGE_WRITEBACK_ACCEPT: memory accepts a merge's write-back (R50). -/
  | mergeWritebackAccept
  /-- REGION_REMOVE_ATTEMPT of a region slot (R11). -/
  | regionRemoveAttempt (slot : Fin 32)
  /-- JOB_CLOSE_COMPLETION of a job slot (R37, R38). -/
  | jobCloseCompletion (slot : Fin 16)
  /-- SIDE_MARK: the engine's mark (R100). -/
  | sideMark
  /-- METERS_SWITCH: the pending copy becomes live (R89). -/
  | metersSwitch
  /-- PRESENCE_ASSERT: a slot's presence input is asserted (R142). -/
  | presenceAssert (slot : Plane)
  /-- PRESENCE_DEASSERT: a slot's presence input is deasserted (R144). -/
  | presenceDeassert (slot : Plane)
  /-- SETTLING_TIMER_EXPIRY of a slot (R143). -/
  | settlingTimerExpiry (slot : Plane)
  /-- CHALLENGE_WRITE_END, with whether every byte was acknowledged (R148). -/
  | challengeWriteEnd (acknowledged : Bool)
  /-- ANSWER_ADDRESS_ACK: the cartridge acknowledges its address in the wait (R148, R153). -/
  | answerAddressAck
  /-- ANSWER_WAIT_EXPIRY: the answer-wait timer expires (R148, R153). -/
  | answerWaitExpiry
  /-- ANSWER_READ_END: the proof answer, or none when a byte was not delivered (R148, R149). -/
  | answerReadEnd (answer : Option ProofAnswer)
  /-- RETRY_TIMER_EXPIRY of a slot (R151). -/
  | retryTimerExpiry (slot : Plane)
  /-- AMOUNT_WRITE_END, with whether every byte was acknowledged (R153). -/
  | amountWriteEnd (acknowledged : Bool)
  /-- CONFIRMATION_READ_END: the confirmation, or none when a byte was not delivered (R153). -/
  | confirmationReadEnd (confirmation : Option DebitConfirmation)
  /-- RETURN_ACCEPT: memory accepts the return in flight (R179). -/
  | returnAccept
  /-- HEADER_REWRITE_GRANT: the part's own header rewrite is granted (R181). -/
  | headerRewriteGrant
  /-- SUMMARY_REWRITE_GRANT: the waiting summary rewrite is granted (R182). -/
  | summaryRewriteGrant
  /-- SOURCE_SET executed (R8). -/
  | sourceSet
  /-- REGION_DEFINE executed (R10). -/
  | regionDefine
  /-- REGION_REMOVE executed (R11). -/
  | regionRemove
  /-- REGION_QUERY executed (R12). -/
  | regionQuery
  /-- JOB_OPEN executed (R26, R27). -/
  | jobOpen
  /-- JOB_RELEASE executed (R28). -/
  | jobRelease
  /-- JOB_SEAL executed (R29). -/
  | jobSeal
  /-- JOB_KEY_EXPORT executed (R30). -/
  | jobKeyExport
  /-- JOB_QUERY executed (R31). -/
  | jobQuery
  /-- JOB_CLOSE executed (R34). -/
  | jobClose
  /-- METERS_FLUSH executed (R77). -/
  | metersFlush
  /-- CURVE_LOAD executed (R83). -/
  | curveLoad
  /-- FACTORS_LOAD executed (R84). -/
  | factorsLoad
  /-- CLASSES_LOAD executed (R85). -/
  | classesLoad
  /-- PRICES_LOAD executed (R86). -/
  | pricesLoad
  /-- METERS_APPLY without the now option executed (R87). -/
  | metersApply
  /-- METERS_APPLY with the now option executed (R88). -/
  | metersApplyNow
  /-- METERS_QUERY executed (R92). -/
  | metersQuery
  /-- SIDE_BEGIN executed (R97, R99). -/
  | sideBegin
  /-- SIDE_CANCEL executed (R113). -/
  | sideCancel
  /-- SIDE_JAM executed (R115). -/
  | sideJam
  /-- READOUT_POLICY executed (R107). -/
  | readoutPolicy
  /-- ACCOUNT_OPEN executed (R125). -/
  | accountOpen
  /-- ACCOUNT_CREDIT executed (R126). -/
  | accountCredit
  /-- ACCOUNT_SET executed (R127). -/
  | accountSet
  /-- ACCOUNT_SUSPEND executed (R128). -/
  | accountSuspend
  /-- ACCOUNT_RESUME executed (R128). -/
  | accountResume
  /-- ACCOUNT_REMOVE executed (R129). -/
  | accountRemove
  /-- ACCOUNT_QUERY executed (R130). -/
  | accountQuery
  /-- COUNTERS_QUERY executed (R133). -/
  | countersQuery
  /-- ACCOUNTS_EXPORT executed (R134). -/
  | accountsExport
  /-- RESTORE_BEGIN executed (R136). -/
  | restoreBegin
  /-- RESTORE_ACCOUNT with kind USER executed (R137). -/
  | restoreAccountUser
  /-- RESTORE_ACCOUNT with kind RETIRED executed (R137). -/
  | restoreAccountRetired
  /-- RESTORE_METERS executed (R137). -/
  | restoreMeters
  /-- RESTORE_END executed (R138). -/
  | restoreEnd
  /-- RESTORE_ABANDON executed (R139). -/
  | restoreAbandon
  /-- CARTRIDGE_PROBE executed (R160). -/
  | cartridgeProbe
  /-- CARTRIDGE_QUERY executed (R161). -/
  | cartridgeQuery
  /-- TONER_POLICY executed (R162). -/
  | tonerPolicy
  /-- NOTICES_ACK executed (R172). -/
  | noticesAck
  /-- NOTICES_ENABLE executed (R173). -/
  | noticesEnable
  /-- PART_RESET executed (R174). -/
  | partReset
  /-- BAD_ORDER: an entry whose kind names no order is executed (R168). -/
  | badOrder
  /-- RESET_EVENT: the warm reset takes place (R175). -/
  | resetEvent
  deriving DecidableEq, Repr

end Sys2Proof
end

