-- ==== Sys2Proof/Decode.lean ====
section
/-! DEFINITION. Commands spelled by a word of the table. No row of spec/opcode_table.json gives bits: the
commands of the TC3816 are events at its pins, its channel and its queue of orders, and have no encoding. -/

namespace Sys2Proof

/-- The command that a word of the table spells: none, since no row gives bits. -/
def decodeTableWord (_nbits _w : Nat) : Option Instr := none

end Sys2Proof
end

