-- ==== Sys2Proof/Config.lean ====
section
/-! DEFINITION. What a part fixes once and what the manual leaves open: the line cipher and the key wrap
(R1), the two fuse values, the random source, and the flag bytes that are neither 0 nor 1. Each is a constant with no
body, so no statement can rest on a value of it. -/

namespace Sys2Proof.Config

/-- The line cipher (R1, R43): for each key and offset a permutation of the lines; enciphering applies it and
deciphering applies its inverse, so that deciphering under the same key and offset gives the line back. DESIGN CHOICE
(log entry 5). -/
opaque lineCipher : Key → Nat → Equiv.Perm Line

/-- The key wrap's keyed permutation of 40-byte blocks under the device key (R1, R25). DESIGN CHOICE
(log entry 5). -/
opaque wrapCipher : BitVec 256 → Equiv.Perm (BitVec 320)

/-- The fresh values of the key wrap, one for each draw from the random source (R25). DESIGN CHOICE (log entry 5). -/
opaque freshValue : Equiv.Perm (BitVec 64)

/-- The random source: the 128 bits of its n-th draw, for job keys (R27) and nonces (R148, R153). DESIGN
CHOICE (log entry 15). -/
opaque randomBits : Nat → BitVec 128

/-- The 256-bit device key, a fuse value (overview 1.3). DESIGN CHOICE (log entry 15). -/
opaque deviceKey : BitVec 256

/-- The 256-bit cartridge family secret, a fuse value (overview 1.3). DESIGN CHOICE (log entry 15). -/
opaque familySecret : BitVec 256

/-- What a flag byte other than 0 and 1 is taken for, which R186 does not state: a free value (DESIGN CHOICE, log
entry 6). -/
opaque oddFlag : Byte → Bool

end Sys2Proof.Config
end

