-- ==== Sys2Proof/Machine/State.lean ====
section
/-! DEFINITION. The state of the TC3816, block by block, as plain data; the reasons a step can stop; and the
state after a cold reset. A field that is the model's own, not the manual's, says so. -/

namespace Sys2Proof.Machine

/-- What stops the part. The manual gives it no machine stop: every request is answered (R3) and every
order ends with a result (R170), so no meaning raises this (DEDUCED, log entry 12). Safe: nothing is cut short by it. -/
inductive Fault where
  /-- Raised by no meaning; it is here because the outcome of a step names a type of faults. Safe. -/
  | unreachable
  deriving DecidableEq, Repr

/-- Why a command is rejected. -/
inductive Refusal where
  /-- Raised by exec for a command that has no meaning yet; safe. No arm of this model raises it. -/
  | notModelled (mnemonic : String)
  deriving DecidableEq, Repr

/-! ### Names with codes (R186) -/

/-- The class of a source tag (section 1.5). -/
inductive SourceClass where
  | intake | pipe | readout | general
  deriving DecidableEq, Repr

/-- The state of a region record (R9). -/
inductive RegionState where
  | live | orphan
  deriving DecidableEq, Repr

/-- The kind of a region with the fields that only a BAND has (R9). -/
inductive RegionKind where
  | priv
  | band (plane : Plane) (depth rowLength : Nat)
  deriving DecidableEq, Repr

/-- The kind of a job (R22). -/
inductive JobKind where
  | scan | copy | print
  deriving DecidableEq, Repr

/-- The state of a job slot that is not FREE (section 2.2). -/
inductive JobState where
  | active | closing
  deriving DecidableEq, Repr

/-- The release state of a job (section 2.5). -/
inductive Release where
  | sealed | released
  deriving DecidableEq, Repr

/-- The mode of a side (R95). -/
inductive SideMode where
  | mono | colour | auto
  deriving DecidableEq, Repr

/-- The face of a side (R95). -/
inductive Face where
  | simplex | front | back
  deriving DecidableEq, Repr

/-- The state of a side record (section 6.1). -/
inductive SideState where
  | admitted | metering | settled
  deriving DecidableEq, Repr

/-- How a side ended (R95). -/
inductive SideOutcome where
  | complete | short | jammed | voided
  deriving DecidableEq, Repr

/-- The pricing class of a side (R72). -/
inductive SideClass where
  | mono | colour
  deriving DecidableEq, Repr

/-- The tier of a side (R73). -/
inductive Tier where
  | light | standard | heavy
  deriving DecidableEq, Repr

/-- The state of a user record (R120). -/
inductive UserState where
  | active | suspended
  deriving DecidableEq, Repr

/-- The verdict on a cartridge slot (section 8.2). -/
inductive Verdict where
  | unknown | genuine | doubtful | unproven | rejected
  deriving DecidableEq, Repr

/-- What a cartridge slot is doing on the cartridge line (R141). -/
inductive Exchange where
  | idle | settling | probe | debit | retryWait
  deriving DecidableEq, Repr

/-- The outcome of a proof attempt (R145). -/
inductive ProofOutcome where
  | pass | fail | silent | rejected
  deriving DecidableEq, Repr

/-- The reasons of a refused order, in code order (R170, R188). -/
inductive Reason where
  | badOrder | badArg
  | busy | full | noSlot | inUse | duplicate
  | noJob | noUser | noRegion | noSide | noCartridge | noPending | noRestore
  | jobState | userState | slotState | isSealed | notPermitted | sequence
  | range | overlap | geometry | mismatch | noBands
  | colourDenied | toner | quota
  | badWrap | badTag
  | superseded | removed | reset
  deriving DecidableEq, Repr

/-- The status of a response (section 1.8). -/
inductive Status where
  | okay | withheld | refused
  deriving DecidableEq, Repr

/-! ### Requests in the part (Chapters 1 and 3) -/

/-- The place of a request, fixed at arrival (R5). A region is named by its slot and by the number of its
record, so that a record defined later in the same slot is not taken for it. -/
inductive Place where
  | beyond
  | control (line : Nat)
  | region (slot : Fin 32) (uid : Nat)
  | plain
  deriving DecidableEq, Repr

/-- What a request in a bound region carries from its arrival (R40, R43). -/
structure Cipher where
  job : Fin 16
  key : Key
  offset : Nat
  deriving DecidableEq, Repr

/-- What a metered read carries from its arrival (R40, R59): the number of the side record that was
METERING, or none. -/
structure Readout where
  plane : Plane
  depth : Nat
  side : Option Nat
  deriving DecidableEq, Repr

/-- How a blanked read is counted (R103, R104). -/
inductive BlankCount where
  /-- In the METERING side's blanked-lines count and the device meter of blanked lines. -/
  | sideAndDevice
  /-- In the device meter of blanked lines alone. -/
  | device
  /-- In the device meter of unattributed lines of the plane, with UNATTRIBUTED. -/
  | strict (plane : Plane)
  deriving DecidableEq, Repr

/-- The treatment of a request (section 1.3), with what R40 fixes with it. -/
inductive Treatment where
  | pass
  | rawRead
  | rawWrite
  | encipherWrite (c : Cipher)
  | decipherRead (c : Cipher)
  | decipherAndMeter (c : Cipher) (r : Readout)
  | merge (c : Cipher)
  | meter (r : Readout)
  | blank (count : BlankCount)
  | withhold
  | refuse
  | orderTake
  | headerWrite
  deriving DecidableEq, Repr

/-- A classified request. `id` is its arrival number, the model's own; the data of an enciphering write is
the ciphertext (R44). `queued` is set once it has waited in a same-line queue, for the drain of R58; it is the model's
own too (DESIGN CHOICE, log entry 11). -/
structure Req where
  id : Nat
  tag : Fin 64
  cls : SourceClass
  line : Nat
  access : Access
  place : Place
  treatment : Treatment
  queued : Bool := false
  deriving DecidableEq, Repr

/-- A response: its status and, for a read, the line (section 1.1). -/
structure Answer where
  status : Status
  data : Option Line
  deriving DecidableEq, Repr

/-- A request that has no returned response yet; the answer is present once it is ready (R3). -/
structure Outstanding where
  id : Nat
  tag : Fin 64
  answer : Option Answer
  deriving DecidableEq, Repr

/-- A response that was returned to the controller. -/
structure Response where
  id : Nat
  tag : Fin 64
  answer : Answer
  deriving DecidableEq, Repr

/-- The channel front (R3, R20). -/
structure ChannelFront where
  /-- Requests presented while the front accepts none; they wait on the channel (R20, R58). -/
  waiting : List LineReq
  /-- The number of the next arrival; the model's own. -/
  nextId : Nat
  /-- Requests not answered yet, in order of arrival (R3). -/
  outstanding : List Outstanding
  /-- The responses returned so far, oldest first; the model's own record of the channel's output
  (DESIGN CHOICE, log entry 11). -/
  returned : List Response
  /-- Order-take writes waiting for a queue place, and the later writes to their lines, in order of arrival (R51,
  R166). -/
  heldOrders : List Req
  /-- The summary line has been written and accepted since the cold reset (R20). -/
  summaryWritten : Bool
  /-- The ring header has been written and accepted since the cold reset (R20). -/
  headerWritten : Bool
  deriving DecidableEq, Repr

/-- A region record (R9). `uid` numbers the records as they are defined; it is the model's own
(DESIGN CHOICE, log entry 11). -/
structure Region where
  uid : Nat
  state : RegionState
  base : Nat
  size : Nat
  kind : RegionKind
  job : Option (Fin 16)
  refusals : Nat
  deriving DecidableEq, Repr

/-- The classifier (R4, R7, R9). -/
structure Classifier where
  memsize : Fin 4
  ctlpos : Fin 2
  /-- The memory size in lines (R4). -/
  memLines : Nat
  /-- The first line of the control area (R4). -/
  controlBase : Nat
  sources : Vector SourceClass 64
  regions : Vector (Option Region) 32
  /-- The number of the next region record; the model's own. -/
  nextUid : Nat
  deriving DecidableEq, Repr

/-- The phase of a merge-table entry (R49). -/
inductive MergePhase where
  | ordering | reading | writing
  deriving DecidableEq, Repr

/-- An occupied merge-table entry (R47). The originating write carries the line address, the region record,
the job slot, the cipher offset, the overlay with its enables and the source tag. -/
structure MergeEntry where
  req : Req
  phase : MergePhase
  merged : Option Line
  deriving DecidableEq, Repr

/-- The same-line queue of a line on which a merge claim exists (R52). -/
structure SameLine where
  line : Nat
  queue : List Req
  deriving DecidableEq, Repr

/-- The line protection unit (Chapter 3). -/
structure Protection where
  table : Vector (Option MergeEntry) 8
  waitList : List Req
  queues : List SameLine
  deriving DecidableEq, Repr

/-- The owners that offer returns, in rotation order (R180). -/
inductive Owner where
  | sideList | orderTaker | snapshots
  deriving DecidableEq, Repr

/-- A line of the part's own stream (section 1.9). A header or summary rewrite carries its content from its
grant (R181, R182). -/
inductive OwnLine where
  | mergeRead (entry : Fin 8)
  | mergeWrite (entry : Fin 8)
  | ret (owner : Owner) (line : Line)
  | header
  | summary
  deriving DecidableEq, Repr

/-- The two streams of the memory port (R17). -/
inductive Stream where
  | upstream | own
  deriving DecidableEq, Repr

/-- The memory port: both streams in order of readiness, and the arbiter's position (R17). -/
structure Port where
  upstream : List Req
  own : List OwnLine
  last : Stream
  deriving DecidableEq, Repr

/-! ### Jobs (Chapter 2) -/

/-- The record of a job slot that is not FREE (R22). The slot's number is its place in the table, its key
state is LIVE exactly while the record is present, and `key` is the key. -/
structure Job where
  state : JobState
  tag : Nat
  kind : JobKind
  owner : Fin 64
  release : Release
  key : Key
  regions : Nat
  sides : Nat
  merges : Nat
  lines : Nat
  enciphered : Nat
  settled : Nat
  closePending : Bool
  voidRequested : Bool
  deriving DecidableEq, Repr

/-! ### Coverage metering and parameters (Chapters 4 and 5) -/

/-- The metering of one plane of a side (R64). -/
structure PlaneMeter where
  sum : Nat
  pixels : Nat
  lines : Nat
  deriving DecidableEq, Repr

/-- The metering context of a side (R64); its generation is in the side record. -/
structure MeterContext where
  planes : Vector (Option PlaneMeter) 4
  signature : BitVec 32
  saturated : Bool
  deriving DecidableEq, Repr

/-- The unattributed record of a plane (R74). -/
structure Unattributed where
  sum : Nat
  tally : Nat
  saturated : Bool
  deriving DecidableEq, Repr

/-- The figures of a closed side (R69). A plane outside the plane set has 0. -/
structure CloseFigures where
  coverage : Vector Nat 4
  draw : Vector Nat 4
  cls : SideClass
  tier : Tier
  sum : Nat
  signature : BitVec 32
  deriving DecidableEq, Repr

/-- A meter parameter set (R81). The prices stand in the order of R86. -/
structure ParamSet where
  curves : Vector (Vector Nat 17) 4
  factors : Vector Nat 4
  colourThreshold : Nat
  bound1 : Nat
  bound2 : Nat
  prices : Vector Nat 6
  mask : PlaneSet
  deriving DecidableEq, Repr

/-- The pending copy with the serial of its order (R82). -/
structure PendingCopy where
  set : ParamSet
  serial : BitVec 16
  deriving DecidableEq, Repr

/-- The meter parameter store (R82). The pending flag is set exactly while the pending copy is present, and
the staged generation is derived from the live one. -/
structure MeterStore where
  live : ParamSet
  liveGen : Nat
  staged : ParamSet
  pending : Option PendingCopy
  deriving DecidableEq, Repr

/-! ### Sides (Chapter 6) -/

/-- A side record (R95). `uid` numbers the admissions and `partsWritten` counts the parts of its SIDE return
that memory has accepted; both are the model's own (DESIGN CHOICE, log entry 11). `saturated` stands in the metering
context. -/
structure Side where
  uid : Nat
  id : Nat
  jobSlot : Fin 16
  jobTag : Nat
  userSlot : Fin 64
  userId : Nat
  mode : SideMode
  downgraded : Bool
  face : Face
  rows : Nat
  planes : PlaneSet
  expected : Vector Nat 4
  reserve : Nat
  state : SideState
  generation : Option Nat
  serials : Vector (Option Serial) 4
  context : Option MeterContext
  blanked : Nat
  figures : Option CloseFigures
  charge : Option Nat
  outcome : Option SideOutcome
  capped : Bool
  unproven : PlaneSet
  partsWritten : Nat
  deriving DecidableEq, Repr

/-- The side list (R94, R96, R107). `settledOrder` holds the numbers of the SETTLED records in the order in
which they became SETTLED (R111). -/
structure SideList where
  records : List Side
  settledOrder : List Nat
  nextId : Nat
  strict : Bool
  /-- The number of the next admission; the model's own. -/
  nextUid : Nat
  deriving DecidableEq, Repr

/-! ### Accounts (Chapter 7) -/

/-- The eight counters of a user: six class × tier, duplex-back, spoiled (R120, R188). -/
abbrev Counters := Vector Nat 8

/-- A user record (R120). The slot number is its place in the table. -/
structure User where
  id : Nat
  state : UserState
  colour : Bool
  credit : Int
  spent : Nat
  hold : Nat
  floor : Int
  warn : Int
  warned : Bool
  counters : Counters
  deriving DecidableEq, Repr

/-- The fourteen device meters (R132): the first eight mirror a user's counters. -/
structure DeviceMeters where
  sides : Counters
  unaccounted : Nat
  unattributed : Vector Nat 4
  blanked : Nat
  deriving DecidableEq, Repr

/-- The draw totals of a plane, each wrapping modulo 2^64 (R157). -/
structure DrawTotals where
  drawn : BitVec 64
  confirmed : BitVec 64
  unproven : BitVec 64
  lost : BitVec 64
  deriving DecidableEq, Repr

/-- A user record as an export copies it and a restore buffers it (R134, R137). -/
structure UserCopy where
  slot : Fin 64
  id : Nat
  state : UserState
  colour : Bool
  credit : Int
  spent : Nat
  floor : Int
  warn : Int
  counters : Counters
  deriving DecidableEq, Repr

/-- The copy an export takes (R134). -/
structure Snapshot where
  users : List UserCopy
  retired : Counters
  meters : DeviceMeters
  totals : Vector DrawTotals 4
  deriving DecidableEq, Repr

/-- The snapshot tag under a device key (R1, R134): a function of key and content with no body. DESIGN CHOICE (log entry
18). -/
opaque snapshotTag : BitVec 256 → Snapshot → BitVec 256

/-- One part of the meters record of a restore (R137, R189). -/
inductive MetersPart where
  | device (m : DeviceMeters)
  | plane (t : DrawTotals)
  deriving DecidableEq, Repr

/-- An open restore buffer (section 7.7). -/
structure RestoreBuffer where
  users : List UserCopy
  retired : Option Counters
  parts : List MetersPart
  deriving DecidableEq, Repr

/-- The account table with the device meters (R120, R132). `tagged` holds the contents whose snapshot tags the part made
or found good, each once, newest first; it is the model's own (DESIGN CHOICE, log entry 18). -/
structure AccountTable where
  users : Vector (Option User) 64
  retired : Counters
  meters : DeviceMeters
  restore : Option RestoreBuffer
  tagged : List Snapshot
  deriving DecidableEq, Repr

/-! ### Cartridges (Chapter 8) -/

/-- A cartridge slot record (R141). Its number is its place in the table. A timer that runs holds the ms it
was started with (DESIGN CHOICE, log entry 4). -/
structure CartridgeSlot where
  seated : Bool
  serial : Option Serial
  verdict : Verdict
  exchange : Exchange
  attempts : Nat
  remaining : Option Nat
  owed : Nat
  uncertain : Option Nat
  history : List Bool
  everFailed : Bool
  everSilent : Bool
  reproof : Nat
  probePending : Bool
  debitPending : Bool
  settlingTimer : Option Nat
  retryTimer : Option Nat
  answerTimer : Option Nat
  deriving DecidableEq, Repr

/-- An entry of the absent list (R154). -/
structure AbsentEntry where
  serial : Serial
  plane : Plane
  owed : Nat
  remaining : Option Nat
  uncertain : Option Nat
  deriving DecidableEq, Repr

/-- The toner policy (R162). -/
structure TonerPolicy where
  requireGenuine : PlaneSet
  interval : Nat
  threshold : Nat
  lowMark : Nat
  deriving DecidableEq, Repr

/-- What the part writes on the cartridge line: a challenge (R148) or a debit (R153). -/
inductive LineMessage where
  | challenge (nonce : Nonce)
  | debit (amount : Nat) (nonce : Nonce) (tag : LineTag)
  deriving DecidableEq, Repr

/-- The phase of an exchange (R148, R153). -/
inductive ExchangePhase where
  | write | wait | read
  deriving DecidableEq, Repr

/-- The exchange on the cartridge line: its slot, the line address of that slot, what the part wrote, and
the phase. -/
structure LineExchange where
  slot : Plane
  address : Nat
  message : LineMessage
  phase : ExchangePhase
  deriving DecidableEq, Repr

/-- The cartridge prover and the cartridge line controller (Chapter 8), with the levels of the four presence
inputs. -/
structure Cartridges where
  pins : Vector Bool 4
  slots : Vector CartridgeSlot 4
  absent : List AbsentEntry
  totals : Vector DrawTotals 4
  policy : TonerPolicy
  line : Option LineExchange
  position : Plane
  deriving DecidableEq, Repr

/-! ### Orders and returns (Chapters 9 and 10) -/

/-- An order entry (R165): the control line written, the kind, the serial and the 61 argument bytes, byte 3
of the line being the least significant byte of `args`. -/
structure OrderEntry where
  window : Nat
  kind : Byte
  serial : BitVec 16
  args : BitVec 488
  deriving DecidableEq, Repr

/-- A value of a RESULT, or a field of another return: its width in bytes and its number (R186). -/
structure Val where
  width : Nat
  value : Nat
  deriving DecidableEq, Repr

/-- A result (R170): DONE when no reason is present, REFUSED with the reason otherwise. -/
structure Result where
  serial : BitVec 16
  kind : Byte
  window : Nat
  reason : Option Reason
  values : List Val
  deriving DecidableEq, Repr

/-- The object a parked order waits on (R169), with what its completion needs: the number of sides a JOB
CLOSE voided (R36), and an export's copy, tag and the number of its returns that were accepted (R134). -/
inductive ParkObject where
  | region (slot : Fin 32)
  | job (slot : Fin 16) (voided : Nat)
  | switch
  | cartridge (slot : Plane)
  | snapshot (copy : Snapshot) (tag : BitVec 256) (written : Nat)
  deriving DecidableEq, Repr

/-- A parked order that is WAITING (R169). -/
structure ParkedOrder where
  kind : Byte
  serial : BitVec 16
  window : Nat
  object : ParkObject
  deriving DecidableEq, Repr

/-- The reset wait of a PART RESET (R174): `drained` is set from the event in which the drain is complete. -/
structure ResetWait where
  serial : BitVec 16
  window : Nat
  drained : Bool
  deriving DecidableEq, Repr

/-- The order taker (Chapter 9). `parked` holds the WAITING entries in the order in which they were parked and
`completed` the results of the COMPLETED ones in the order of their completion; the two together are the
parked-order list (R169; DESIGN CHOICE, log entry 11). `resetSequence` is what is left to write of a reset sequence
(R176). -/
structure OrderTaker where
  queue : List OrderEntry
  parked : List ParkedOrder
  completed : List Result
  holding : List Result
  resetWait : Option ResetWait
  resetSequence : List Result
  deriving DecidableEq, Repr

/-- The return writer (Chapter 10). `notices` holds the notice bits of R187 but for QUOTA_LOW, which stands
raised while a bit of the user map is set (R183). -/
structure ReturnWriter where
  writeIndex : Nat
  readIndex : Nat
  epoch : Nat
  notices : BitVec 32
  userMap : BitVec 64
  enables : BitVec 32
  position : Owner
  attention : Bool
  deriving DecidableEq, Repr

/-- The fuse values (overview 1.3). -/
structure Fuses where
  deviceKey : BitVec 256
  familySecret : BitVec 256
  deriving DecidableEq, Repr

/-- The state of the part, of the page memory behind it and of the commands that wait. -/
structure State where
  /-- Commands that are waiting, first in, first out; the model's own. -/
  pending : List Instr
  fuses : Fuses
  /-- The number of draws made from the random source; the model's own. -/
  draws : Nat
  /-- Page memory, not a part of the device (overview 3.6): byte `b` of line `n` is at address `64 n + b`. -/
  mem : List Host.Cell
  channel : ChannelFront
  classifier : Classifier
  protection : Protection
  port : Port
  jobs : Vector (Option Job) 16
  unattributed : Vector Unattributed 4
  store : MeterStore
  sides : SideList
  accounts : AccountTable
  cartridges : Cartridges
  orders : OrderTaker
  writer : ReturnWriter
  deriving DecidableEq, Repr

/-! ### Values after a cold reset -/

/-- The memory size in lines that a MEMSIZE strap gives (overview 3.1). -/
def linesOfStrap (memsize : Fin 4) : Nat := 16777216 * 2 ^ memsize.val

/-- The control base that the straps give (R4). -/
def baseOfStraps (memsize : Fin 4) (ctlpos : Fin 2) : Nat :=
  if ctlpos = 0 then 0 else linesOfStrap memsize - 512

/-- The channel front after a cold reset (R21). -/
def ChannelFront.reset : ChannelFront :=
  { waiting := [], nextId := 0, outstanding := [], returned := [], heldOrders := [],
    summaryWritten := false, headerWritten := false }

/-- The classifier after a cold reset with the given straps (R4, R21). -/
def Classifier.reset (memsize : Fin 4) (ctlpos : Fin 2) : Classifier :=
  { memsize, ctlpos, memLines := linesOfStrap memsize, controlBase := baseOfStraps memsize ctlpos,
    sources := Vector.replicate 64 .general, regions := Vector.replicate 32 none, nextUid := 0 }

/-- The line protection unit after a cold reset (R57). -/
def Protection.reset : Protection :=
  { table := Vector.replicate 8 none, waitList := [], queues := [] }

/-- The memory port after a cold reset: the position is upstream (R21), and the ring header and the summary
line wait to be written (R185), in the order R17 gives. -/
def Port.reset : Port := { upstream := [], own := [.header, .summary], last := .upstream }

/-- An unattributed record after a cold reset (R74). -/
def Unattributed.reset : Unattributed := { sum := 0, tally := 0, saturated := false }

/-- The curve after a cold reset (R81). -/
def resetCurve : Vector Nat 17 :=
  #v[0, 256, 512, 768, 1024, 1280, 1536, 1792, 2048, 2304, 2560, 2816, 3072, 3328, 3584, 3840, 4095]

/-- The parameter set after a cold reset (R81). -/
def ParamSet.reset : ParamSet :=
  { curves := Vector.replicate 4 resetCurve, factors := Vector.replicate 4 1000, colourThreshold := 10,
    bound1 := 500, bound2 := 2000, prices := Vector.replicate 6 0, mask := 0xF#4 }

/-- The meter parameter store after a cold reset (R93). -/
def MeterStore.reset : MeterStore :=
  { live := .reset, liveGen := 0, staged := .reset, pending := none }

/-- The side list after a cold reset (R119). -/
def SideList.reset : SideList :=
  { records := [], settledOrder := [], nextId := 1, strict := true, nextUid := 0 }

/-- Counters that are all 0. -/
def Counters.zero : Counters := Vector.replicate 8 0

/-- The account table after a cold reset (R140). -/
def AccountTable.reset : AccountTable :=
  { users := Vector.replicate 64 none, retired := .zero,
    meters := { sides := .zero, unaccounted := 0, unattributed := Vector.replicate 4 0, blanked := 0 },
    restore := none, tagged := [] }

/-- The record of an EMPTY slot (R141). -/
def CartridgeSlot.empty : CartridgeSlot :=
  { seated := false, serial := none, verdict := .unknown, exchange := .idle, attempts := 0,
    remaining := none, owed := 0, uncertain := none, history := [], everFailed := false,
    everSilent := false, reproof := 0, probePending := false, debitPending := false,
    settlingTimer := none, retryTimer := none, answerTimer := none }

/-- Draw totals that are all 0. -/
def DrawTotals.zero : DrawTotals := { drawn := 0, confirmed := 0, unproven := 0, lost := 0 }

/-- The cartridge prover after a cold reset (R162, R163), with presence inputs that are not asserted
(DESIGN CHOICE, log entry 8). -/
def Cartridges.reset : Cartridges :=
  { pins := Vector.replicate 4 false, slots := Vector.replicate 4 .empty, absent := [],
    totals := Vector.replicate 4 .zero,
    policy := { requireGenuine := 0, interval := 500, threshold := 4096, lowMark := 200000 },
    line := none, position := 3 }

/-- The order taker after a cold reset (R177). -/
def OrderTaker.reset : OrderTaker :=
  { queue := [], parked := [], completed := [], holding := [], resetWait := none, resetSequence := [] }

/-- The return writer after a cold reset (R185): every defined notice is enabled, QUOTA_LOW included. -/
def ReturnWriter.reset : ReturnWriter :=
  { writeIndex := 0, readIndex := 0, epoch := 0, notices := 0, userMap := 0, enables := 0x00FFFF3F#32,
    position := .snapshots, attention := false }

/-- The part right after a cold reset with the given straps, no cartridge seated, page memory with nothing
listed and no command waiting. -/
def State.afterColdReset (memsize : Fin 4) (ctlpos : Fin 2) : State :=
  { pending := [], fuses := { deviceKey := Config.deviceKey, familySecret := Config.familySecret },
    draws := 0, mem := [], channel := .reset, classifier := .reset memsize ctlpos, protection := .reset,
    port := .reset, jobs := Vector.replicate 16 none, unattributed := Vector.replicate 4 .reset,
    store := .reset, sides := .reset, accounts := .reset, cartridges := .reset, orders := .reset,
    writer := .reset }

/-- The machine after reset, with both straps at 0 (the smallest memory, the control area at line 0). DESIGN CHOICE
(log entry 8). -/
def State.reset : State := State.afterColdReset 0 0

end Sys2Proof.Machine
end

