-- ==== Sys2Proof/Machine/Ops.lean ====
section
/-! DEFINITION. The operations every block shares: bytes of a line, page memory, arithmetic and rounding (R2),
the keyed functions (R1), and updates of one record of a table. -/

namespace Sys2Proof.Machine

/-! ### Bytes of a line -/

/-- Byte `i` of a line. -/
def byteAt (l : Line) (i : Nat) : Byte := l.extractLsb' (8 * i) 8

/-- The little-endian number in the `w` bytes of a line from byte `o` on (R186). -/
def fieldAt (l : Line) (o w : Nat) : Nat := (l.extractLsb' (8 * o) (8 * w)).toNat

/-- The number whose bytes, lowest first, are `f 0` to `f (n - 1)`. -/
def numberOfBytes (f : Nat → Byte) : Nat → Nat
  | 0 => 0
  | n + 1 => numberOfBytes f n + 256 ^ n * (f n).toNat

/-- The line with the given bytes. -/
def lineOfBytes (f : Nat → Byte) : Line := BitVec.ofNat 512 (numberOfBytes f 64)

/-- The new line where the enables are on, the old line elsewhere (R46, R49). -/
def overlay (mask : ByteMask) (old new : Line) : Line :=
  lineOfBytes fun i => if mask.getLsbD i then byteAt new i else byteAt old i

/-- The mask of a full-line write. -/
def fullMask : ByteMask := BitVec.allOnes 64

/-! ### Page memory -/

/-- What a byte of page memory that nothing has written reads as. DESIGN CHOICE: 0 (log entry 2). -/
def unlisted : Byte := 0

/-- Read one byte of page memory. -/
def readByte : List Host.Cell → Nat → Byte
  | [], _ => unlisted
  | (k, b) :: rest, a => if a = k then b else readByte rest a

/-- Write one byte of page memory, keeping the canonical form. -/
def writeByte : List Host.Cell → Nat → Byte → List Host.Cell
  | [], a, b => if b = unlisted then [] else [(a, b)]
  | (k, v) :: rest, a, b =>
    if a < k then (if b = unlisted then (k, v) :: rest else (a, b) :: (k, v) :: rest)
    else if a = k then (if b = unlisted then rest else (a, b) :: rest)
    else (k, v) :: writeByte rest a b

/-- The addresses rise strictly and no entry equals what an unlisted address reads as. -/
abbrev MemoryWf (m : List Host.Cell) : Prop :=
  m.Pairwise (fun c d => c.1 < d.1) ∧ ∀ c ∈ m, c.2 ≠ unlisted

/-- Read a line of page memory. -/
def readLine (m : List Host.Cell) (n : Nat) : Line := lineOfBytes fun i => readByte m (64 * n + i)

/-- Store the first `k` bytes of a line, those whose enables are on. -/
def writeBytes (m : List Host.Cell) (n : Nat) (mask : ByteMask) (data : Line) : Nat → List Host.Cell
  | 0 => m
  | k + 1 =>
    let m' := writeBytes m n mask data k
    if mask.getLsbD k then writeByte m' (64 * n + k) (byteAt data k) else m'

/-- Store the enabled bytes of a line. -/
def writeLine (m : List Host.Cell) (n : Nat) (mask : ByteMask) (data : Line) : List Host.Cell :=
  writeBytes m n mask data 64

/-! ### Arithmetic (R2) -/

/-- `n ÷ d` rounded half to even (R2); for `d` = 0 the quotient is taken as 0. -/
def roundHalfEven (n d : Nat) : Nat :=
  let q := n / d
  let r := n % d
  if 2 * r < d then q else if d < 2 * r then q + 1 else if q % 2 = 0 then q else q + 1

/-- The largest value of a 32-bit counter. -/
def max32 : Nat := 4294967295

/-- A saturating addition: the new value, and whether the sum passed the maximum (R2). -/
def addSat (limit a d : Nat) : Nat × Bool :=
  if limit < a + d then (limit, true) else (a + d, false)

/-! ### Keyed functions (R1) -/

/-- Encipher a line under a key and an offset (R43). -/
def encipher (k : Key) (offset : Nat) (l : Line) : Line := Config.lineCipher k offset l

/-- Decipher a line under a key and an offset (R43). -/
def decipher (k : Key) (offset : Nat) (l : Line) : Line := (Config.lineCipher k offset).symm l

/-- The code of a job kind (R186). -/
def JobKind.code : JobKind → Nat
  | .scan => 0
  | .copy => 1
  | .print => 2

/-- The block that the key wrap enciphers: key, kind, fresh value, and bits that are 0. -/
def wrapBlock (fresh : BitVec 64) (key : Key) (kind : JobKind) : BitVec 320 :=
  BitVec.ofNat 320 (key.toNat * 2 ^ 192 + kind.code * 2 ^ 190 + fresh.toNat * 2 ^ 126)

/-- The key wrap of R25, with the fresh value of the n-th draw. -/
def wrapKey (deviceKey : BitVec 256) (draw : Nat) (key : Key) (kind : JobKind) : BitVec 320 :=
  Config.wrapCipher deviceKey (wrapBlock (Config.freshValue (BitVec.ofNat 64 draw)) key kind)

/-- The unwrap of R25: it yields a key exactly for the wraps made under the device key for the kind.
DESIGN CHOICE: the form of the block (log entry 5). -/
def unwrapKey (deviceKey : BitVec 256) (kind : JobKind) (wrapped : BitVec 320) : Option Key :=
  let block := (Config.wrapCipher deviceKey).symm wrapped
  let key := block.extractLsb' 192 128
  if block = wrapBlock (block.extractLsb' 126 64) key kind then some key else none

/-- The cartridge answer tag under the family secret over nonce, serial, plane and remaining (R149). -/
def answerTag (secret : BitVec 256) (nonce : Nonce) (serial : Serial) (plane : Plane) (remaining : Nat) : LineTag :=
  .answer secret nonce serial plane remaining

/-- The tag the part sends with a debit, under the family secret over serial, amount and nonce (R153). DESIGN CHOICE: a
keyed function of its own (log entry 5). -/
def amountTag (secret : BitVec 256) (serial : Serial) (amount : Nat) (nonce : Nonce) : LineTag :=
  .amount secret serial amount nonce

/-- The tag of a debit confirmation, under the family secret over serial, nonce, amount and new remaining (R153).
DESIGN CHOICE: a keyed function of its own (log entry 5). -/
def confirmationTag (secret : BitVec 256) (serial : Serial) (nonce : Nonce) (amount remaining : Nat) : LineTag :=
  .confirmation secret serial nonce amount remaining

/-- A tag that is not in use: `start` itself where it is not. -/
def freeTag (used : List (BitVec 256)) (start : BitVec 256) : BitVec 256 :=
  (((List.range (used.length + 1)).map fun i => start + BitVec.ofNat 256 i).find? fun t => decide (t ∉ used)).getD start

/-- The contents tagged so far, newest first, each with its tag: what the tag function gives, unless an earlier content
has that tag. DESIGN CHOICE (log entry 18). -/
def issuedTags (deviceKey : BitVec 256) : List Snapshot → List (BitVec 256 × Snapshot)
  | [] => []
  | c :: earlier =>
    let issued := issuedTags deviceKey earlier
    if c ∈ earlier then issued else (freeTag (issued.map Prod.fst) (snapshotTag deviceKey c), c) :: issued

/-- The snapshot tag of a content under the device key (R134). The content holds the records, and with them their
count. DESIGN CHOICE where the tag function gives the tag of an earlier content (log entry 18). -/
def snapshotTagOf (deviceKey : BitVec 256) (tagged : List Snapshot) (c : Snapshot) : BitVec 256 :=
  match (issuedTags deviceKey tagged).find? fun x => decide (x.2 = c) with
  | some x => x.1
  | none => freeTag ((issuedTags deviceKey tagged).map Prod.fst) (snapshotTag deviceKey c)

/-- The contents tagged after a content is tagged: each stands there once. -/
def addTagged (tagged : List Snapshot) (c : Snapshot) : List Snapshot :=
  if c ∈ tagged then tagged else c :: tagged

/-- The check of a snapshot tag (R138): a tag known to the part checks for its content alone (R1), and any other tag,
which a part with the same device key may have made, checks for a content that the tag function gives it. -/
def snapshotTagChecks (deviceKey : BitVec 256) (tagged : List Snapshot) (tag : BitVec 256) (c : Snapshot) : Bool :=
  match (issuedTags deviceKey tagged).lookup tag with
  | some known => decide (c = known)
  | none => decide (snapshotTag deviceKey c = tag)

/-- Draw 128 bits from the random source. -/
def drawRandom (s : State) : BitVec 128 × State :=
  (Config.randomBits s.draws, { s with draws := s.draws + 1 })

/-! ### One record of a table -/

/-- The number of bits of a plane set that are on, tested plane by plane. -/
def hasPlane (set : PlaneSet) (p : Plane) : Bool := set.getLsbD p.val

/-- Add a plane to a plane set. -/
def addPlane (set : PlaneSet) (p : Plane) : PlaneSet := set ||| (1#4 <<< p.val)

/-- All four planes, in plane order. -/
def allPlanes : List Plane := [0, 1, 2, 3]

/-- The plane set of the planes for which the test holds. -/
def planesWhere (f : Plane → Bool) : PlaneSet :=
  allPlanes.foldl (fun set p => if f p then addPlane set p else set) 0

/-- The first index, in rising order, for which the test holds. -/
def firstIndex {n : Nat} (f : Fin n → Bool) : Option (Fin n) := (List.finRange n).find? f

/-- Change the job record of a slot, if there is one. -/
def State.onJob (s : State) (i : Fin 16) (f : Job → Job) : State :=
  { s with jobs := put s.jobs i (s.jobs[i].map f) }

/-- Change the region record of a slot, if there is one. -/
def State.onRegion (s : State) (i : Fin 32) (f : Region → Region) : State :=
  { s with classifier :=
      { s.classifier with regions := put s.classifier.regions i (s.classifier.regions[i].map f) } }

/-- Change the user record of a slot, if there is one. -/
def State.onUser (s : State) (i : Fin 64) (f : User → User) : State :=
  { s with accounts := { s.accounts with users := put s.accounts.users i (s.accounts.users[i].map f) } }

/-- Change a cartridge slot record. -/
def State.onSlot (s : State) (p : Plane) (f : CartridgeSlot → CartridgeSlot) : State :=
  { s with cartridges := { s.cartridges with slots := put s.cartridges.slots p (f s.cartridges.slots[p]) } }

/-- Change the draw totals of a plane. -/
def State.onTotals (s : State) (p : Plane) (f : DrawTotals → DrawTotals) : State :=
  { s with cartridges := { s.cartridges with totals := put s.cartridges.totals p (f s.cartridges.totals[p]) } }

/-- Change the side record with the given number, if there is one. -/
def State.onSide (s : State) (uid : Nat) (f : Side → Side) : State :=
  { s with sides := { s.sides with records := s.sides.records.map fun r => if r.uid = uid then f r else r } }

/-- The side that is METERING, or none (R94: there is at most one). -/
def State.meteringSide (s : State) : Option Side :=
  s.sides.records.find? fun r => decide (r.state = .metering)

/-- The oldest ADMITTED side, or none (R94). -/
def State.oldestAdmitted (s : State) : Option Side :=
  s.sides.records.find? fun r => decide (r.state = .admitted)

/-- The job slot that is not FREE and holds the tag (R23). -/
def State.jobWithTag (s : State) (tag : Nat) : Option (Fin 16) :=
  firstIndex fun i => match s.jobs[i] with
    | some j => decide (j.tag = tag)
    | none => false

/-- The user slot that holds the user id (R120). -/
def State.userWithId (s : State) (id : Nat) : Option (Fin 64) :=
  firstIndex fun i => match s.accounts.users[i] with
    | some u => decide (u.id = id)
    | none => false

end Sys2Proof.Machine
end

