-- ==== Sys2Proof/Machine/Flags.lean ====
section
/-! DEFINITION. The flags the part raises: the notice bits (R183, R187), the saturation flags of counters, and
the attention output (R184). -/

namespace Sys2Proof.Machine

/-! ### Notices (R183, R187) -/

/-- A notice of R187 but for QUOTA_LOW, which is raised per user. -/
inductive Notice where
  | access | unaccounted | unattributed | saturation | absentDrop
  | tonerLow (p : Plane) | tonerOut (p : Plane) | verdict (p : Plane) | presence (p : Plane)
  deriving DecidableEq, Repr

/-- The bit number of a notice (R187). -/
def Notice.bit : Notice → Nat
  | .access => 0
  | .unaccounted => 1
  | .unattributed => 2
  | .saturation => 3
  | .absentDrop => 4
  | .tonerLow p => 8 + p.val
  | .tonerOut p => 12 + p.val
  | .verdict p => 16 + p.val
  | .presence p => 20 + p.val

/-- The bit of QUOTA_LOW in the enable set and the summary line (R187). -/
def quotaLowBit : BitVec 32 := 0x20#32

/-- The notice bits that NOTICES ACK can name (R172, R187). -/
def ackMask : BitVec 32 := 0x00FFFF1F#32

/-- The notice bits that NOTICES ENABLE can name (R173, R187). -/
def enableMask : BitVec 32 := 0x00FFFF3F#32

/-- Raise a notice (R183). -/
def State.raise (s : State) (n : Notice) : State :=
  { s with writer := { s.writer with notices := s.writer.notices ||| (1#32 <<< n.bit) } }

/-- Raise a notice when the condition holds. -/
def State.raiseIf (s : State) (c : Bool) (n : Notice) : State := if c then s.raise n else s

/-- Raise QUOTA_LOW for a user slot (R124, R183). -/
def State.raiseQuota (s : State) (u : Fin 64) : State :=
  { s with writer := { s.writer with userMap := s.writer.userMap ||| (1#64 <<< u.val) } }

/-- Every notice bit as the summary line shows it, QUOTA_LOW while any bit of the user map is set (R183). -/
def ReturnWriter.noticeBits (w : ReturnWriter) : BitVec 32 :=
  w.notices ||| (if w.userMap = 0 then 0 else quotaLowBit)

/-! ### The ring and attention -/

/-- The number of slots of the return ring (R178). -/
def ringSlots : Nat := 448

/-- The unread count (R179). -/
def ReturnWriter.unread (w : ReturnWriter) : Nat := (w.writeIndex + ringSlots - w.readIndex) % ringSlots

/-- The ring is full (R179). -/
def ReturnWriter.full (w : ReturnWriter) : Bool := decide ((w.writeIndex + 1) % ringSlots = w.readIndex)

/-- Attention is asserted while a return is unread or an enabled notice is set (R184). -/
def ReturnWriter.wantsAttention (w : ReturnWriter) : Bool :=
  decide (0 < w.unread) || decide (w.noticeBits &&& w.enables ≠ 0)

/-- Re-evaluate attention (R184). -/
def evaluateAttention (s : State) : State :=
  { s with writer := { s.writer with attention := s.writer.wantsAttention } }

/-! ### Counters that raise SATURATION -/

/-- Add one to a device meter held in the state, raising SATURATION when it stands at its maximum (R132). -/
def meterUp (s : State) (value : Nat) (store : Nat → State → State) : State :=
  let r := addSat max32 value 1
  (store r.1 s).raiseIf r.2 .saturation

/-- Add one to the device meter of unaccounted marks (R132). -/
def countUnaccounted (s : State) : State :=
  meterUp s s.accounts.meters.unaccounted fun v s =>
    { s with accounts := { s.accounts with meters := { s.accounts.meters with unaccounted := v } } }

/-- Add one to the device meter of blanked lines (R132). -/
def countBlanked (s : State) : State :=
  meterUp s s.accounts.meters.blanked fun v s =>
    { s with accounts := { s.accounts with meters := { s.accounts.meters with blanked := v } } }

/-- Add one to the device meter of unattributed lines of a plane (R132). -/
def countUnattributed (p : Plane) (s : State) : State :=
  meterUp s s.accounts.meters.unattributed[p] fun v s =>
    { s with accounts := { s.accounts with meters :=
        { s.accounts.meters with unattributed := put s.accounts.meters.unattributed p v } } }

/-- Add one to one of the eight device meters that mirror a user's counters (R131, R132). -/
def countSideMeter (i : Fin 8) (s : State) : State :=
  meterUp s s.accounts.meters.sides[i] fun v s =>
    { s with accounts := { s.accounts with meters :=
        { s.accounts.meters with sides := put s.accounts.meters.sides i v } } }

/-- Add one to one of the eight counters of a user (R131). -/
def countUser (u : Fin 64) (i : Fin 8) (s : State) : State :=
  match s.accounts.users[u] with
  | none => s
  | some r =>
    meterUp s r.counters[i] fun v s => s.onUser u fun r => { r with counters := put r.counters i v }

end Sys2Proof.Machine
end

