-- ==== Sys2Proof/Machine/Operands.lean ====
section
/-! DEFINITION. The operand forms: the fields of an order entry (R165, R186, R187) and the codes of the
enumerations, read and written (R186, R188). -/

namespace Sys2Proof.Machine

/-! ### Fields of an order entry; offsets are byte offsets of the order line (R187) -/

/-- The bits of the `w` bytes from byte `o` of the order line on, `o` at least 3. -/
def OrderEntry.bits (e : OrderEntry) (o w : Nat) : BitVec (8 * w) := e.args.extractLsb' (8 * (o - 3)) (8 * w)

/-- The unsigned number in the `w` bytes from byte `o` on. -/
def OrderEntry.num (e : OrderEntry) (o w : Nat) : Nat := (e.bits o w).toNat

/-- The signed number in the `w` bytes from byte `o` on. -/
def OrderEntry.int (e : OrderEntry) (o w : Nat) : Int := (e.bits o w).toInt

/-- The byte at `o`. -/
def OrderEntry.byte (e : OrderEntry) (o : Nat) : Byte := e.args.extractLsb' (8 * (o - 3)) 8

/-- A flag byte: 0 for no and 1 for yes (R186); another value is taken for what `Config.oddFlag` says:
DESIGN CHOICE (log entry 6). -/
def flagByte (b : Byte) : Bool := if b = 0 then false else if b = 1 then true else Config.oddFlag b

/-- The flag at `o`. -/
def OrderEntry.flag (e : OrderEntry) (o : Nat) : Bool := flagByte (e.byte o)

/-- The plane set in the low four bits of the byte at `o`; the other bits name no plane and are
ignored: DESIGN CHOICE (log entry 6). -/
def OrderEntry.planes (e : OrderEntry) (o : Nat) : PlaneSet := (e.byte o).extractLsb' 0 4

/-- The order entry that a line of the order window spells (R165, R187). -/
def entryOfLine (window : Nat) (l : Line) : OrderEntry :=
  { window, kind := l.extractLsb' 0 8, serial := l.extractLsb' 8 16, args := l.extractLsb' 24 488 }

/-! ### Codes read from orders -/

/-- The source class of a code (R186). -/
def SourceClass.ofCode : Nat → Option SourceClass
  | 0 => some .intake
  | 1 => some .pipe
  | 2 => some .readout
  | 3 => some .general
  | _ => none

/-- The job kind of a code (R186). -/
def JobKind.ofCode : Nat → Option JobKind
  | 0 => some .scan
  | 1 => some .copy
  | 2 => some .print
  | _ => none

/-- The side mode of a code (R186). -/
def SideMode.ofCode : Nat → Option SideMode
  | 0 => some .mono
  | 1 => some .colour
  | 2 => some .auto
  | _ => none

/-- The face of a code (R186). -/
def Face.ofCode : Nat → Option Face
  | 0 => some .simplex
  | 1 => some .front
  | 2 => some .back
  | _ => none

/-! ### Codes written in returns -/

/-- The code of a source class (R186). -/
def SourceClass.code : SourceClass → Nat
  | .intake => 0
  | .pipe => 1
  | .readout => 2
  | .general => 3

/-- The code of a region state; 0 is FREE (R186). -/
def RegionState.code : RegionState → Nat
  | .live => 1
  | .orphan => 2

/-- The code of a region kind (R186). -/
def RegionKind.code : RegionKind → Nat
  | .priv => 0
  | .band _ _ _ => 1

/-- The code of a job state; 0 is FREE (R186). -/
def JobState.code : JobState → Nat
  | .active => 1
  | .closing => 2

/-- The code of a release state (R186). -/
def Release.code : Release → Nat
  | .sealed => 0
  | .released => 1

/-- The code of a side mode (R186). -/
def SideMode.code : SideMode → Nat
  | .mono => 0
  | .colour => 1
  | .auto => 2

/-- The code of a face (R186). -/
def Face.code : Face → Nat
  | .simplex => 0
  | .front => 1
  | .back => 2

/-- The code of a side's outcome (R186). -/
def SideOutcome.code : SideOutcome → Nat
  | .complete => 0
  | .short => 1
  | .jammed => 2
  | .voided => 3

/-- The code of a side's class (R186). -/
def SideClass.code : SideClass → Nat
  | .mono => 0
  | .colour => 1

/-- The code of a tier (R186). -/
def Tier.code : Tier → Nat
  | .light => 0
  | .standard => 1
  | .heavy => 2

/-- The code of a user state (R186). -/
def UserState.code : UserState → Nat
  | .active => 0
  | .suspended => 1

/-- The code of a verdict (R186). -/
def Verdict.code : Verdict → Nat
  | .unknown => 0
  | .genuine => 1
  | .doubtful => 2
  | .unproven => 3
  | .rejected => 4

/-- The code of an exchange (R186). -/
def Exchange.code : Exchange → Nat
  | .idle => 0
  | .settling => 1
  | .probe => 2
  | .debit => 3
  | .retryWait => 4

/-- The code of a proof outcome (R186). -/
def ProofOutcome.code : ProofOutcome → Nat
  | .pass => 0
  | .fail => 1
  | .silent => 2
  | .rejected => 3

/-- The code of a reason (R188). -/
def Reason.code : Reason → Nat
  | .badOrder => 1
  | .badArg => 2
  | .busy => 3
  | .full => 4
  | .noSlot => 5
  | .inUse => 6
  | .duplicate => 7
  | .noJob => 8
  | .noUser => 9
  | .noRegion => 10
  | .noSide => 11
  | .noCartridge => 12
  | .noPending => 13
  | .noRestore => 14
  | .jobState => 15
  | .userState => 16
  | .slotState => 17
  | .isSealed => 18
  | .notPermitted => 19
  | .sequence => 20
  | .range => 21
  | .overlap => 22
  | .geometry => 23
  | .mismatch => 24
  | .noBands => 25
  | .colourDenied => 26
  | .toner => 27
  | .quota => 28
  | .badWrap => 29
  | .badTag => 30
  | .superseded => 31
  | .removed => 32
  | .reset => 33

/-! ### Values of returns (R186) -/

/-- A value of one byte. -/
def u8 (n : Nat) : Val := { width := 1, value := n }
/-- A value of two bytes. -/
def u16 (n : Nat) : Val := { width := 2, value := n }
/-- A value of four bytes. -/
def u32 (n : Nat) : Val := { width := 4, value := n }
/-- A value of eight bytes. -/
def u64 (n : Nat) : Val := { width := 8, value := n }
/-- A signed value of four bytes, in two's complement. -/
def i32 (i : Int) : Val := { width := 4, value := (BitVec.ofInt 32 i).toNat }
/-- A signed value of eight bytes, in two's complement. -/
def i64 (i : Int) : Val := { width := 8, value := (BitVec.ofInt 64 i).toNat }
/-- A flag byte. -/
def flagVal (b : Bool) : Val := u8 (if b then 1 else 0)
/-- An optional field: the flag byte, then the field, zeros when absent. -/
def optVal (width : Nat) (v : Option Nat) : List Val := [flagVal v.isSome, { width, value := v.getD 0 }]
/-- A plane set. -/
def planesVal (set : PlaneSet) : Val := u8 set.toNat

/-- The number whose bytes are the values one after another, lowest first. -/
def packVals : List Val → Nat
  | [] => 0
  | v :: rest => v.value % 256 ^ v.width + 256 ^ v.width * packVals rest

/-- The line whose bytes are the values one after another, the bytes after them 0. -/
def lineOfVals (vs : List Val) : Line := BitVec.ofNat 512 (packVals vs)

end Sys2Proof.Machine
end

