-- ==== Sys2Proof/Machine/Formats.lean ====
section
/-! DEFINITION. The lines the part writes into the control area: the return records (R188, R189), the ring
header and the summary line (R190), each as the list of its fields in byte order. -/

namespace Sys2Proof.Machine

/-- The staged generation: the live generation plus one, wrapping (R82). -/
def MeterStore.stagedGen (m : MeterStore) : Nat := (m.liveGen + 1) % 65536

/-- The staged set differs from the live set in some parameter. -/
def MeterStore.differs (m : MeterStore) : Bool := decide (m.staged ≠ m.live)

/-- The estimate of a slot: the last confirmed remaining less the owed draw, at least 0 (R141). -/
def CartridgeSlot.estimate (c : CartridgeSlot) : Option Nat := c.remaining.map fun r => r - c.owed

/-- The balance of a user (R120). -/
def User.balance (u : User) : Int := u.credit - u.spent

/-- The available balance of a user (R120). -/
def User.available (u : User) : Int := u.balance - u.hold

/-- The three first bytes of every return (R188). -/
def returnHead (kind epoch : Nat) : List Val := [u8 kind, u16 epoch]

/-- A RESULT return (R188). -/
def resultLine (epoch : Nat) (r : Result) : Line :=
  lineOfVals (returnHead 1 epoch ++
    [u16 r.serial.toNat, u8 r.kind.toNat, u8 r.window, flagVal r.reason.isSome,
      u8 (match r.reason with | some x => x.code | none => 0)] ++ r.values)

/-- The eight counters of a user, four bytes each (R188). -/
def counterVals (c : Counters) : List Val := c.toList.map u32

/-- An ACCOUNT return (R188). -/
def accountLine (epoch : Nat) (u : UserCopy) : Line :=
  lineOfVals (returnHead 3 epoch ++
    [u8 (u.slot.val + (if u.state = .suspended then 64 else 0) + (if u.colour then 128 else 0)),
      u32 u.id, i64 u.credit, u64 u.spent, i32 u.floor, i32 u.warn] ++ counterVals u.counters)

/-- A RETIRED return (R188). -/
def retiredLine (epoch : Nat) (c : Counters) : Line := lineOfVals (returnHead 4 epoch ++ counterVals c)

/-- The fourteen device meters in the order of R189. -/
def meterVals (m : DeviceMeters) : List Val :=
  counterVals m.sides ++ [u32 m.unaccounted] ++ m.unattributed.toList.map u32 ++ [u32 m.blanked]

/-- The four totals of a plane in the order of R189. -/
def totalVals (t : DrawTotals) : List Val :=
  [u64 t.drawn.toNat, u64 t.confirmed.toNat, u64 t.unproven.toNat, u64 t.lost.toNat]

/-- Part `n` of a METERS return: part 0 the device meters, part `p + 1` the totals of plane `p` (R189). -/
def metersLine (epoch : Nat) (s : Snapshot) (n : Nat) : Line :=
  lineOfVals (returnHead 5 epoch ++ [u8 n, u8 5] ++
    (if n = 0 then meterVals s.meters else totalVals s.totals[Fin.ofNat 4 (n - 1)]))

/-- The number of records of a snapshot: its users and two (R134). -/
def Snapshot.recordCount (s : Snapshot) : Nat := s.users.length + 2

/-- A SNAPSHOT return (R188). -/
def snapshotLine (epoch : Nat) (s : Snapshot) (tag : BitVec 256) : Line :=
  lineOfVals (returnHead 6 epoch ++ [u16 s.recordCount, { width := 32, value := tag.toNat }])

/-- The number of parts of a side's return (R189). -/
def Side.partCount (r : Side) : Nat := if r.context.isSome then 4 else 1

/-- The planes of a side with a recorded serial (R189). -/
def Side.serialPlanes (r : Side) : PlaneSet := planesWhere fun p => r.serials[p].isSome

/-- What part 2 or 3 of a SIDE return says of a plane: line count, expected lines, pixel count, coverage and
draw; zeros for a plane outside the plane set (R189). -/
def Side.planeVals (r : Side) (p : Plane) : List Val :=
  if hasPlane r.planes p then
    let m := (r.context.bind fun c => c.planes[p]).getD { sum := 0, pixels := 0, lines := 0 }
    [u32 m.lines, u32 r.expected[p], u32 m.pixels,
      u16 (match r.figures with | some f => f.coverage[p] | none => 0),
      u32 (match r.figures with | some f => f.draw[p] | none => 0)]
  else [u32 0, u32 0, u32 0, u16 0, u32 0]

/-- The body of part 0 of a SIDE return, from byte 7 on (R112, R189). -/
def Side.headVals (r : Side) : List Val :=
  let began := r.context.isSome
  let saturated := match r.context with | some c => c.saturated | none => false
  [u16 r.jobTag, u32 r.userId, u8 (match r.outcome with | some o => o.code | none => 0), u8 r.mode.code,
    u8 ((if r.downgraded then 1 else 0) + (if saturated then 2 else 0) + (if r.capped then 4 else 0)
      + (if began then 8 else 0)),
    u8 r.face.code, planesVal r.planes, planesVal r.unproven, u16 r.rows, u16 r.reserve,
    u16 (r.charge.getD 0), u32 r.blanked, u16 (r.generation.getD 0),
    u8 (match r.figures with | some f => f.cls.code | none => 0),
    u8 (match r.figures with | some f => f.tier.code | none => 0),
    u16 (match r.figures with | some f => f.sum | none => 0),
    u32 (match r.figures with | some f => f.signature.toNat | none => 0),
    planesVal r.serialPlanes]

/-- Part `n` of a SIDE return (R189). -/
def sideLine (epoch : Nat) (r : Side) (n : Nat) : Line :=
  lineOfVals (returnHead 2 epoch ++ [u8 n, u8 r.partCount, u16 r.id] ++
    (if n = 0 then r.headVals
     else if n = 1 then r.serials.toList.map fun x => u64 (match x with | some v => v.toNat | none => 0)
     else if n = 2 then r.planeVals 0 ++ r.planeVals 1
     else r.planeVals 2 ++ r.planeVals 3))

/-- The content of the summary line (R182, R190). -/
def summaryVals (s : State) : List Val :=
  let w := s.writer
  let estimates := allPlanes.map fun p => s.cartridges.slots[p].estimate
  [u16 w.writeIndex, u16 w.readIndex, u16 w.epoch, u8 s.sides.records.length,
    flagVal s.store.pending.isSome, u16 s.store.liveGen, u32 s.accounts.meters.unaccounted,
    u32 w.noticeBits.toNat, u64 w.userMap.toNat, u32 w.enables.toNat] ++
  (allPlanes.map fun p => u8 s.cartridges.slots[p].verdict.code) ++
  (estimates.map fun e => u32 (e.getD 0)) ++
  [planesVal (planesWhere fun p => s.cartridges.slots[p].estimate.isSome)]

/-- The summary line (R190). -/
def summaryLine (s : State) : Line := lineOfVals (summaryVals s)

/-- The ring header (R190). -/
def headerLine (s : State) : Line :=
  lineOfVals [u16 s.writer.writeIndex, u16 s.writer.readIndex, u16 ringSlots, u16 s.store.liveGen,
    u16 s.writer.epoch]

end Sys2Proof.Machine
end

