-- ==== Sys2Proof/Machine/Results.lean ====
section
/-! DEFINITION. What is common to all orders: results and the parked-order list (R169, R170), and the
responses of the channel front (R3). -/

namespace Sys2Proof.Machine

/-- The memory size and the control base, which every RESULT of REGION QUERY carries (R12). -/
def sizeVals (s : State) : List Val := [u32 s.classifier.memLines, u32 s.classifier.controlBase]

/-! ### Parked orders (R169) -/

/-- The number of entries of the parked-order list, WAITING or COMPLETED (R169). -/
def OrderTaker.parkedCount (o : OrderTaker) : Nat := o.parked.length + o.completed.length

/-- The parked-order list is full (R169). -/
def State.parkedFull (s : State) : Bool := decide (8 ≤ s.orders.parkedCount)

/-- Park an order at the tail of the list (R169). -/
def State.park (s : State) (e : OrderEntry) (o : ParkObject) : State :=
  { s with orders := { s.orders with parked :=
      s.orders.parked ++ [{ kind := e.kind, serial := e.serial, window := e.window, object := o }] } }

/-- The result of a parked order. -/
def ParkedOrder.result (p : ParkedOrder) (reason : Option Reason) (values : List Val) : Result :=
  { serial := p.serial, kind := p.kind, window := p.window, reason, values }

/-- Complete the first WAITING entry whose object meets the test: it becomes COMPLETED with its result
(R169). Without such an entry nothing changes. -/
def State.completeParked (s : State) (f : ParkObject → Bool) (reason : Option Reason)
    (values : List Val) : State :=
  match s.orders.parked.find? fun p => f p.object with
  | none => s
  | some p =>
    { s with orders :=
      { s.orders with
        parked := s.orders.parked.eraseP fun p => f p.object
        completed := s.orders.completed ++ [p.result reason values] } }

/-- Some WAITING entry's object meets the test. -/
def State.hasParked (s : State) (f : ParkObject → Bool) : Bool := s.orders.parked.any fun p => f p.object

/-- A REGION REMOVE of the slot. -/
def ParkObject.isRegion (i : Fin 32) : ParkObject → Bool
  | .region j => decide (j = i)
  | _ => false

/-- A JOB CLOSE of the slot. -/
def ParkObject.isJob (i : Fin 16) : ParkObject → Bool
  | .job j _ => decide (j = i)
  | _ => false

/-- The pending METERS APPLY. -/
def ParkObject.isSwitch : ParkObject → Bool
  | .switch => true
  | _ => false

/-- A CARTRIDGE PROBE of the slot. -/
def ParkObject.isCartridge (p : Plane) : ParkObject → Bool
  | .cartridge q => decide (q = p)
  | _ => false

/-- The ACCOUNTS EXPORT. -/
def ParkObject.isSnapshot : ParkObject → Bool
  | .snapshot _ _ _ => true
  | _ => false

/-- A restore buffer is open or an ACCOUNTS EXPORT is parked (R26, R97). -/
def State.accountsBusy (s : State) : Bool :=
  s.accounts.restore.isSome || s.hasParked ParkObject.isSnapshot

/-! ### What the execution of an order yields -/

/-- What an owning block gives back at the execution of an order (R170): DONE or REFUSED with values, or no
result yet because the order is parked. -/
inductive OrderAnswer where
  | done (values : List Val)
  | refused (reason : Reason) (values : List Val)
  | parked
  deriving DecidableEq, Repr

/-- Put a result into the result holding list (R171). -/
def State.hold (s : State) (e : OrderEntry) (reason : Option Reason) (values : List Val) : State :=
  { s with orders := { s.orders with holding := s.orders.holding ++
      [{ serial := e.serial, kind := e.kind, window := e.window, reason, values }] } }

/-- Give the executed order's own result to the holding list (R170, R171). -/
def giveAnswer (e : OrderEntry) (r : OrderAnswer × State) : State :=
  match r.1 with
  | .done values => r.2.hold e none values
  | .refused reason values => r.2.hold e (some reason) values
  | .parked => r.2

/-- Move results of COMPLETED entries into the holding list, in the order of completion, while it has room
(R169, R171). -/
def moveCompleted (s : State) : State :=
  let room := 8 - s.orders.holding.length
  { s with orders :=
    { s.orders with
      holding := s.orders.holding ++ s.orders.completed.take room
      completed := s.orders.completed.drop room } }

/-! ### Responses (R3) -/

/-- Which ready responses go out, given the tags with an earlier request that is not answered: what stays
outstanding, and what is returned, each in order of arrival (R3). -/
def releaseResponses : List Outstanding → List (Fin 64) → List Outstanding × List Response
  | [], _ => ([], [])
  | o :: rest, blocked =>
    match o.answer with
    | none =>
      let r := releaseResponses rest (o.tag :: blocked)
      (o :: r.1, r.2)
    | some a =>
      let r := releaseResponses rest blocked
      if o.tag ∈ blocked then (o :: r.1, r.2)
      else (r.1, { id := o.id, tag := o.tag, answer := a } :: r.2)

/-- Make the answer of a request ready, and return what R3 lets go. -/
def State.answer (s : State) (id : Nat) (a : Answer) : State :=
  let marked := s.channel.outstanding.map fun o => if o.id = id then { o with answer := some a } else o
  let r := releaseResponses marked []
  { s with channel :=
    { s.channel with outstanding := r.1, returned := s.channel.returned ++ r.2 } }

/-- The answer OKAY to a write. -/
def okayWrite : Answer := { status := .okay, data := none }

/-- The answer OKAY with a line. -/
def okayRead (l : Line) : Answer := { status := .okay, data := some l }

end Sys2Proof.Machine
end

