-- ==== Sys2Proof/Machine/Prover.lean ====
section
/-! DEFINITION. The cartridge prover's shared operations: verdicts (R145), pending work and the line's arbiter
(R146, R147), the absent list (R154), draw (R155 to R159), and the end of a proof attempt (R151). -/

namespace Sys2Proof.Machine

/-! ### Verdicts and pending work -/

/-- Change a slot's verdict (R145): VERDICT is raised when it changes, and debit pending is cleared when the new
verdict is not GENUINE. -/
def changeVerdict (p : Plane) (v : Verdict) (s : State) : State :=
  if s.cartridges.slots[p].verdict = v then s
  else (s.onSlot p fun c =>
    { c with verdict := v, debitPending := c.debitPending && decide (v = .genuine) }).raise (.verdict p)

/-- A request for a probe (R146). -/
def requestProbe (p : Plane) (s : State) : State :=
  let c := s.cartridges.slots[p]
  if c.seated ∧ c.verdict ≠ .rejected ∧ (c.exchange = .idle ∨ c.exchange = .debit) then
    s.onSlot p fun c => { c with probePending := true }
  else s

/-- The test of the debit threshold (R152). -/
def thresholdTest (p : Plane) (s : State) : State :=
  let c := s.cartridges.slots[p]
  if c.seated ∧ c.verdict = .genuine ∧ c.uncertain = none ∧ c.exchange ≠ .debit ∧
      s.cartridges.policy.threshold ≤ c.owed then
    s.onSlot p fun c => { c with debitPending := true }
  else s

/-! ### The cartridge line -/

/-- The line is free. -/
def freeLine (s : State) : State := { s with cartridges := { s.cartridges with line := none } }

/-- The line address of a slot's cartridge (section 8.3). -/
def lineAddress (p : Plane) : Nat := 0x28 + p.val

/-- Take the line for a slot's exchange, which begins with the write of its message (R147). -/
def takeLine (p : Plane) (m : LineMessage) (s : State) : State :=
  { s with cartridges :=
    { s.cartridges with
      line := some { slot := p, address := lineAddress p, message := m, phase := .write }
      position := p } }

/-- A proof attempt begins (R148). -/
def beginProof (p : Plane) (s : State) : State :=
  let d := drawRandom s
  takeLine p (.challenge d.1) (d.2.onSlot p fun c =>
    { c with exchange := .probe, probePending := false, attempts := c.attempts + 1 })

/-- A debit begins, its amount fixed at the owed draw (R153). -/
def beginDebit (p : Plane) (s : State) : State :=
  let c := s.cartridges.slots[p]
  let d := drawRandom s
  let tag := amountTag s.fuses.familySecret (c.serial.getD 0) c.owed d.1
  takeLine p (.debit c.owed d.1 tag) (d.2.onSlot p fun c =>
    { c with exchange := .debit, debitPending := false })

/-- The slots in the order in which the arbiter looks at them: the first after the one served last comes
first (R147). -/
def arbiterOrder (last : Plane) : List Plane := [last + 1, last + 2, last + 3, last]

/-- The slot the arbiter chooses for a probe, if one is eligible (R147). -/
def chooseProbe (s : State) : Option Plane :=
  (arbiterOrder s.cartridges.position).find? fun p =>
    decide (s.cartridges.slots[p].exchange = .idle) && s.cartridges.slots[p].probePending

/-- The slot the arbiter chooses for a debit, if one is eligible (R147). -/
def chooseDebit (s : State) : Option Plane :=
  (arbiterOrder s.cartridges.position).find? fun p =>
    decide (s.cartridges.slots[p].exchange = .idle) && s.cartridges.slots[p].debitPending

/-- The line controller chooses work when the line is free: probes before debits (R147). -/
def arbitrate (s : State) : State :=
  if s.cartridges.line.isSome then s
  else match chooseProbe s with
    | some p => beginProof p s
    | none => match chooseDebit s with
      | some p => beginDebit p s
      | none => s

/-! ### Draw totals, owed draw and the absent list -/

/-- Add to the lost total of a plane (R157). -/
def addLost (p : Plane) (d : Nat) (s : State) : State :=
  s.onTotals p fun t => { t with lost := t.lost + BitVec.ofNat 64 d }

/-- Add to the drawn total of a plane (R157). -/
def addDrawn (p : Plane) (d : Nat) (s : State) : State :=
  s.onTotals p fun t => { t with drawn := t.drawn + BitVec.ofNat 64 d }

/-- Add to the unproven total of a plane (R157). -/
def addUnproven (p : Plane) (d : Nat) (s : State) : State :=
  s.onTotals p fun t => { t with unproven := t.unproven + BitVec.ofNat 64 d }

/-- Add to the confirmed total of a plane (R157). -/
def addConfirmed (p : Plane) (d : Nat) (s : State) : State :=
  s.onTotals p fun t => { t with confirmed := t.confirmed + BitVec.ofNat 64 d }

/-- The excess of an addition that takes an owed draw past its maximum goes to lost, with SATURATION (R157). -/
def loseExcess (p : Plane) (owed d : Nat) (s : State) : State :=
  if max32 < owed + d then (addLost p (owed + d - max32) s).raise .saturation else s

/-- Add draw to a slot's owed draw (R155 case 1, R156, R157). -/
def oweSlot (p : Plane) (d : Nat) (s : State) : State :=
  let owed := s.cartridges.slots[p].owed
  thresholdTest p (loseExcess p owed d (s.onSlot p fun c => { c with owed := min max32 (owed + d) }))

/-- The entry of the absent list with a serial and a plane (R154). DEDUCED (log entry 10). -/
def State.absentEntry (s : State) (serial : Serial) (p : Plane) : Option AbsentEntry :=
  s.cartridges.absent.find? fun a => decide (a.serial = serial) && decide (a.plane = p)

/-- Add draw to the first entry of a list with the serial and plane (R155 case 2). -/
def oweEntries (serial : Serial) (p : Plane) (d : Nat) : List AbsentEntry → List AbsentEntry
  | [] => []
  | a :: rest =>
    if a.serial = serial ∧ a.plane = p then { a with owed := min max32 (a.owed + d) } :: rest
    else a :: oweEntries serial p d rest

/-- Add draw to an absent-list entry's owed draw (R155 case 2, R157). -/
def oweAbsent (a : AbsentEntry) (d : Nat) (s : State) : State :=
  loseExcess a.plane a.owed d
    { s with cartridges :=
      { s.cartridges with absent := oweEntries a.serial a.plane d s.cartridges.absent } }

/-- An entry joins the absent list; the oldest entry of a full list is dropped first (R154). An entry of another plane
with the same serial stays beside it: DESIGN CHOICE (log entry 10). -/
def joinAbsent (a : AbsentEntry) (s : State) : State :=
  match s.cartridges.absent with
  | [] => { s with cartridges := { s.cartridges with absent := [a] } }
  | old :: rest =>
    if 8 ≤ (old :: rest).length then
      (addLost old.plane old.owed
        { s with cartridges := { s.cartridges with absent := rest ++ [a] } }).raise .absentDrop
    else { s with cartridges := { s.cartridges with absent := old :: rest ++ [a] } }

/-- The serial state of a slot leaves it: with owed draw it joins the absent list, and the slot's owed draw and
uncertain debit are cleared (R144 step 4, R149 step 4, R150). -/
def stashSlot (p : Plane) (s : State) : State :=
  let c := s.cartridges.slots[p]
  let s1 := s.onSlot p fun c => { c with owed := 0, uncertain := none }
  if 0 < c.owed then
    joinAbsent { serial := c.serial.getD 0, plane := p, owed := c.owed, remaining := c.remaining,
                 uncertain := c.uncertain } s1
  else s1

/-! ### Draw (R155, R156, R159) -/

/-- Route the draw of one plane of a closed side by its recorded serial (R155): the state, and whether the draw
went to the unproven total. -/
def routeSideDraw (p : Plane) (d : Nat) (serial : Option Serial) (s : State) : State × Bool :=
  let c := s.cartridges.slots[p]
  let s1 := addDrawn p d s
  match serial with
  | none => (addUnproven p d s1, true)
  | some v =>
    if c.verdict = .genuine ∧ c.serial = some v then (oweSlot p d s1, false)
    else match s.absentEntry v p with
      | some a => (oweAbsent a d s1, false)
      | none => (addUnproven p d s1, true)

/-- Route unattributed draw of a plane (R156). -/
def routeUnattributed (p : Plane) (d : Nat) (s : State) : State :=
  let c := s.cartridges.slots[p]
  let s1 := addDrawn p d s
  if c.seated ∧ c.serial.isSome ∧ c.verdict = .genuine then oweSlot p d s1 else addUnproven p d s1

/-- The re-proof count of a plane's slot at a side's close (R159). At its maximum it stays there; that no notice is
raised then is DEDUCED (log entry 21). -/
def countReproof (p : Plane) (s : State) : State :=
  let c := s.cartridges.slots[p]
  if c.seated ∧ c.exchange ≠ .settling then
    let n := min 65535 (c.reproof + 1)
    let interval := s.cartridges.policy.interval
    if interval ≠ 0 ∧ interval ≤ n then requestProbe p (s.onSlot p fun c => { c with reproof := 0 })
    else s.onSlot p fun c => { c with reproof := n }
  else s

/-! ### The estimate (R158) -/

/-- The event has proven a cartridge in the slot, GENUINE, whose serial the slot did not hold before it (R158). -/
def newlyProven (before : State) (p : Plane) (s : State) : Bool :=
  decide (s.cartridges.slots[p].verdict = .genuine) &&
    decide (before.cartridges.slots[p].serial ≠ s.cartridges.slots[p].serial)

/-- The tests of a slot's estimate at the end of an event, against its value and the low mark before the event (R158).
A newly proven cartridge whose answered remaining is below the low mark raises TONER_LOW whatever the estimate before
it was. TONER_OUT asks after the slot's estimate alone: DEDUCED (log entry 10). -/
def testEstimate (before : State) (p : Plane) (s : State) : State :=
  let old := before.cartridges.slots[p].estimate
  match s.cartridges.slots[p].estimate with
  | none => s
  | some e =>
    let wasLow := match old with
      | some o => decide (o < before.cartridges.policy.lowMark)
      | none => false
    let wasOut := match old with
      | some o => decide (o = 0)
      | none => false
    let provenLow := newlyProven before p s &&
      s.cartridges.slots[p].remaining.any fun n => decide (n < s.cartridges.policy.lowMark)
    (s.raiseIf (decide (e < s.cartridges.policy.lowMark) && !wasLow || provenLow) (.tonerLow p)).raiseIf
      (decide (e = 0) && !wasOut) (.tonerOut p)

/-- The tests of every slot's estimate. -/
def testEstimates (before s : State) : State :=
  allPlanes.foldl (fun s p => testEstimate before p s) s

/-! ### The end of a proof attempt -/

/-- The RESULT of a CARTRIDGE PROBE whose proof ended with the given outcome after the given attempts (R160). -/
def probeVals (p : Plane) (o : ProofOutcome) (attempts : Nat) (c : CartridgeSlot) : List Val :=
  [u8 p.val, u8 o.code, u8 c.verdict.code, u8 attempts] ++ optVal 8 (c.serial.map BitVec.toNat) ++
    optVal 4 c.remaining ++ [u32 c.owed] ++ optVal 4 c.estimate

/-- A CARTRIDGE PROBE parked for the slot completes at the end of the proof (R160). -/
def completeProbe (p : Plane) (o : ProofOutcome) (attempts : Nat) (s : State) : State :=
  s.completeParked (ParkObject.isCartridge p) none (probeVals p o attempts s.cartridges.slots[p])

/-- A proof attempt ends (R145, R149, R151): the line is free, the outcome enters the history and the sticky
flags, the verdict changes, and the proof ends or waits for its retry. -/
def endAttempt (p : Plane) (o : ProofOutcome) (s : State) : State :=
  let n := s.cartridges.slots[p].attempts
  let s1 := freeLine (s.onSlot p fun c =>
    { c with
      history := (decide (o = .pass) :: c.history).take 8
      everFailed := c.everFailed || decide (o = .fail) || decide (o = .rejected)
      everSilent := c.everSilent || decide (o = .silent)
      answerTimer := none })
  let ended := fun s : State => s.onSlot p fun c => { c with exchange := .idle, attempts := 0 }
  match o with
  | .pass => completeProbe p o n (thresholdTest p (changeVerdict p .genuine (ended s1)))
  | .rejected => completeProbe p o n (changeVerdict p .rejected (ended s1))
  | .fail | .silent =>
    if n < 3 then
      changeVerdict p .doubtful
        (s1.onSlot p fun c => { c with exchange := .retryWait, retryTimer := some 100 })
    else completeProbe p o n (changeVerdict p .unproven (ended s1))

/-- A debit ends badly (R153): the amount becomes the uncertain debit, the verdict DOUBTFUL, a probe is
requested, and the line is free. An amount of 0 leaves no uncertain debit, whose range starts at 1 (R141):
DESIGN CHOICE (log entry 10). -/
def endDebitBadly (p : Plane) (amount : Nat) (silent : Bool) (s : State) : State :=
  let s1 := freeLine (s.onSlot p fun c =>
    { c with
      exchange := .idle
      answerTimer := none
      uncertain := if amount = 0 then none else some amount
      everFailed := c.everFailed || !silent
      everSilent := c.everSilent || silent })
  thresholdTest p (requestProbe p (changeVerdict p .doubtful s1))

end Sys2Proof.Machine
end

