-- ==== Sys2Proof/Machine/Metering.lean ====
section
/-! DEFINITION. The coverage meter's operations (Chapter 4): the line sum, the signature, the metering context,
the close computations and the unattributed records. -/

namespace Sys2Proof.Machine

/-! ### The line sum (R60 to R63) -/

/-- The tone of pixel `i` of a line at depth `d` (R60). -/
def pixelTone (l : Line) (d i : Nat) : Nat := (l.extractLsb' (d * i) d).toNat

/-- The widening of a tone to ten bits (R61). -/
def widen (d t : Nat) : Nat :=
  if d = 1 then t * 1023
  else if d = 2 then t * 341
  else if d = 4 then t * 68 + t / 4
  else t * 4 + t / 64

/-- A point of a curve; the curve has points 0 to 16. -/
def curvePoint (c : Vector Nat 17) (i : Nat) : Nat := c.toList.getD i 0

/-- The weight of a 10-bit tone under a curve (R62). -/
def weight (c : Vector Nat 17) (t10 : Nat) : Nat :=
  if t10 = 1023 then curvePoint c 16
  else
    let seg := t10 / 64
    let frac := t10 % 64
    curvePoint c seg + ((curvePoint c (seg + 1) - curvePoint c seg) * frac + 32) / 64

/-- The sum of the weights of the first `n` pixels of a line. -/
def sumPixels (c : Vector Nat 17) (d : Nat) (l : Line) : Nat → Nat
  | 0 => 0
  | n + 1 => sumPixels c d l n + weight c (widen d (pixelTone l d n))

/-- The line sum of a line of depth `d` under a curve (R63). -/
def lineSum (c : Vector Nat 17) (d : Nat) (l : Line) : Nat := sumPixels c d l (512 / d)

/-! ### The signature (R67) -/

/-- Fold one word into a signature register (R67). -/
def foldWord (reg word : BitVec 32) : BitVec 32 :=
  let shifted := (reg <<< 1) ^^^ word
  if reg.getLsbD 31 then shifted ^^^ 0x00400007#32 else shifted

/-- Word `j` of a line (R67). -/
def lineWord (l : Line) (j : Nat) : BitVec 32 := l.extractLsb' (32 * j) 32

/-- Fold the first `n` words of a line. -/
def foldWords (l : Line) (reg : BitVec 32) : Nat → BitVec 32
  | 0 => reg
  | n + 1 => foldWord (foldWords l reg n) (lineWord l n)

/-- Fold a line into a signature register (R67). -/
def foldLine (reg : BitVec 32) (l : Line) : BitVec 32 := foldWords l reg 16

/-! ### The metering context (R64 to R68) -/

/-- The largest value of an accumulator (R64). -/
def maxSum : Nat := 1099511627775

/-- A new metering context for a plane set (R64). -/
def newContext (planes : PlaneSet) : MeterContext :=
  { planes := Vector.ofFn fun p => if hasPlane planes p then some { sum := 0, pixels := 0, lines := 0 } else none
    signature := 0xFFFFFFFF#32, saturated := false }

/-- Add a line to the metering of its plane (R65, R66): the new metering, and whether it saturated, which a pixel or
line count at its maximum does again at every further line: DESIGN CHOICE (log entry 25). -/
def addLine (m : PlaneMeter) (d sum : Nat) : PlaneMeter × Bool :=
  let a := addSat maxSum m.sum sum
  let pixels := min max32 (m.pixels + 512 / d)
  let lines := min max32 (m.lines + 1)
  ({ sum := a.1, pixels, lines }, a.2 || decide (pixels = max32) || decide (lines = max32))

/-- Accumulate, count and fold a line into a metering context under a parameter set (R65, R66, R68). -/
def meterLine (set : ParamSet) (p : Plane) (d : Nat) (l : Line) (c : MeterContext) : MeterContext × Bool :=
  let r := addLine (c.planes[p].getD { sum := 0, pixels := 0, lines := 0 }) d (lineSum set.curves[p] d l)
  ({ planes := put c.planes p (some r.1)
     signature := if hasPlane set.mask p then foldLine c.signature l else c.signature
     saturated := c.saturated || r.2 }, r.2)

/-! ### The close computations (R69 to R73) -/

/-- The coverage of a plane in basis points (R70). -/
def coverageOf (m : PlaneMeter) : Nat :=
  if m.pixels = 0 then 0 else roundHalfEven (m.sum * 10000) (m.pixels * 4095)

/-- The draw of an accumulator under a draw factor (R71). -/
def drawOf (sum factor : Nat) : Nat := roundHalfEven (sum * factor) 16777216

/-- The class of a side from its mode and the coverages of its planes (R72). -/
def classOf (mode : SideMode) (threshold : Nat) (cov : Vector Nat 4) : SideClass :=
  match mode with
  | .mono => .mono
  | .colour => .colour
  | .auto => if threshold ≤ cov[0] ∨ threshold ≤ cov[1] ∨ threshold ≤ cov[2] then .colour else .mono

/-- The tier of a coverage sum (R73). -/
def tierOf (set : ParamSet) (sum : Nat) : Tier :=
  if sum < set.bound1 then .light else if sum < set.bound2 then .standard else .heavy

/-- The metering of a plane of a side, nothing for a plane outside its plane set. -/
def Side.meterOf (r : Side) (p : Plane) : PlaneMeter :=
  (r.context.bind fun c => c.planes[p]).getD { sum := 0, pixels := 0, lines := 0 }

/-- The close figures of a side under a parameter set (R69 to R73, R68). -/
def closeFigures (set : ParamSet) (r : Side) : CloseFigures :=
  let coverage := Vector.ofFn fun p => if hasPlane r.planes p then coverageOf (r.meterOf p) else 0
  let draw := Vector.ofFn fun p => if hasPlane r.planes p then drawOf (r.meterOf p).sum set.factors[p] else 0
  let sum := coverage.toList.sum
  { coverage, draw, cls := classOf r.mode set.colourThreshold coverage, tier := tierOf set sum, sum
    signature := ~~~ (match r.context with | some c => c.signature | none => 0xFFFFFFFF#32) }

/-! ### Unattributed readout (R74, R75) -/

/-- Add weight to the unattributed accumulator of a plane, saturating (R74). -/
def addUnattributedWeight (p : Plane) (sum : Nat) (s : State) : State :=
  let u := s.unattributed[p]
  let a := addSat maxSum u.sum sum
  let u' : Unattributed := { u with sum := a.1, saturated := u.saturated || a.2 }
  ({ s with unattributed := put s.unattributed p u' } : State).raiseIf a.2 .saturation

/-- Add one to the unattributed line tally of a plane (R74). At its maximum it stays there (R2); that neither the
saturated flag nor SATURATION is set then is DEDUCED (log entry 21). -/
def tallyUnattributed (p : Plane) (s : State) : State :=
  let u := s.unattributed[p]
  { s with unattributed := put s.unattributed p { u with tally := min max32 (u.tally + 1) } }

/-- An unattributed line of a plane (R74, R105): its weight, the tally, the device meter and UNATTRIBUTED. -/
def takeUnattributed (p : Plane) (sum : Nat) (s : State) : State :=
  (countUnattributed p (tallyUnattributed p (addUnattributedWeight p sum s))).raise .unattributed

/-- The draw that a conversion makes of a plane's unattributed record (R75 step 1). -/
def unattributedDraw (s : State) (p : Plane) : Nat := drawOf s.unattributed[p].sum s.store.live.factors[p]

/-- The conversion of the unattributed record of one plane (R75). -/
def convertPlane (s : State) (p : Plane) : State :=
  let s1 := routeUnattributed p (unattributedDraw s p) s
  { s1 with unattributed := put s1.unattributed p .reset }

/-- The conversion of the unattributed records, plane by plane (R75). -/
def convertUnattributed (s : State) : State := allPlanes.foldl convertPlane s

end Sys2Proof.Machine
end

