-- ==== Sys2Proof/Machine/JobTable.lean ====
section
/-! DEFINITION. The job table's shared operations: the counts (R32, R33), the completion of a close (R37, R38),
and the removal of a region (R11), which waits on the merges of the line protection unit (R47). -/

namespace Sys2Proof.Machine

/-! ### Regions -/

/-- The line lies in the range of a region record (R5, R9). -/
def Region.holds (r : Region) (line : Nat) : Bool := decide (r.base ≤ line) && decide (line < r.base + r.size)

/-- The merges in flight on a region record: the occupied entries whose region record it is (R47). -/
def State.mergesOn (s : State) (uid : Nat) : Nat :=
  s.protection.table.toList.countP fun e => match e with
    | some m => match m.req.place with
      | .region _ u => decide (u = uid)
      | _ => false
    | none => false

/-- The plane of a BAND belongs to the plane set of the side that is METERING (R11). -/
def State.planeMetering (s : State) (k : RegionKind) : Bool :=
  match k, s.meteringSide with
  | .band p _ _, some r => hasPlane r.planes p
  | _, _ => false

/-- The band fields of a region record, zeros for a PRIVATE one (R9; DESIGN CHOICE, log entry 13). -/
def RegionKind.vals : RegionKind → List Val
  | .priv => [u8 0, u8 0, u16 0]
  | .band p d n => [u8 p.val, u8 d, u16 n]

/-- The record of a region as the RESULT of its removal carries it (R9, R11). -/
def regionVals (slot : Fin 32) (r : Region) : List Val :=
  [u8 slot.val, u8 r.state.code, u32 r.base, u32 r.size, u8 r.kind.code] ++
    optVal 1 (r.job.map fun j => j.val) ++ [u16 r.refusals] ++ r.kind.vals

/-- The attempt of a parked REGION REMOVE (R11): refused while the plane is being metered, otherwise the slot is
freed and the bound job's count of bound regions decreases. -/
def attemptRemove (slot : Fin 32) (s : State) : State :=
  match s.classifier.regions[slot] with
  | none => s
  | some r =>
    if s.hasParked (ParkObject.isRegion slot) ∧ s.mergesOn r.uid = 0 then
      if s.planeMetering r.kind then
        s.completeParked (ParkObject.isRegion slot) (some .busy) []
      else
        let freed := { s with classifier :=
          { s.classifier with regions := put s.classifier.regions slot none } }
        let counted := match r.state, r.job with
          | .live, some j => freed.onJob j fun x => { x with regions := x.regions - 1 }
          | _, _ => freed
        counted.completeParked (ParkObject.isRegion slot) none (regionVals slot r)
    else s

/-! ### The completion of a close -/

/-- A region after the job slot is freed: a LIVE region bound to the slot becomes ORPHAN (R14). -/
def orphanRegion (i : Fin 16) (r : Region) : Region :=
  if r.state = .live ∧ r.job = some i then { r with state := .orphan, job := none } else r

/-- The number of LIVE regions bound to a job slot. -/
def boundRegions (i : Fin 16) (v : Vector (Option Region) 32) : Nat :=
  v.toList.countP fun x => match x with
    | some r => decide (r.state = .live) && decide (r.job = some i)
    | none => false

/-- The tag and the slot that the RESULT of every job order carries (R23). -/
def jobNames (i : Fin 16) (j : Job) : List Val := [u16 j.tag, u8 i.val]

/-- The user id of a user slot, 0 for a free one. -/
def State.userId (s : State) (u : Fin 64) : Nat :=
  match s.accounts.users[u] with
  | some r => r.id
  | none => 0

/-- The id and the slot of a user, as the RESULT of an order that resolved the id carries them (R120). DESIGN CHOICE:
the id first where a rule does not list them (log entry 13). -/
def userNames (u : Fin 64) (id : Nat) : List Val := [u32 id, u8 u.val]

/-- The number of sides that the parked JOB CLOSE of a slot voided (R36). -/
def voidedByClose (i : Fin 16) (o : OrderTaker) : Nat :=
  match o.parked.find? fun p => p.object.isJob i with
  | some { object := .job _ n, .. } => n
  | _ => 0

/-- The RESULT of a JOB CLOSE (R38 step 1). -/
def closeVals (i : Fin 16) (j : Job) (s : State) : List Val :=
  [u8 i.val, u16 j.tag, u8 j.kind.code, u32 (s.userId j.owner), u32 j.enciphered, u32 j.settled,
    u8 (voidedByClose i s.orders), u8 (boundRegions i s.classifier.regions)]

/-- The completion of a job's close in one event (R38). -/
def completeClose (i : Fin 16) (j : Job) (s : State) : State :=
  ({ s with
      classifier := { s.classifier with
        regions := s.classifier.regions.map fun (x : Option Region) => x.map (orphanRegion i) }
      jobs := put s.jobs i none }).completeParked (ParkObject.isJob i) none (closeVals i j s)

/-- A completion attempt (R37): it succeeds when the job is CLOSING and its side, merge and line counts are
zero. -/
def attemptClose (i : Fin 16) (s : State) : State :=
  match s.jobs[i] with
  | none => s
  | some j =>
    if j.state = .closing ∧ j.sides = 0 ∧ j.merges = 0 ∧ j.lines = 0 then completeClose i j s else s

/-! ### Counts and totals (R32, R33) -/

/-- The line count of a job increases by one (R32). At its maximum it stays there (R2); that no notice is raised then is
DEDUCED (log entry 21). -/
def lineArrives (i : Fin 16) (s : State) : State := s.onJob i fun j => { j with lines := min max32 (j.lines + 1) }

/-- The line count of a job decreases by one (R32). -/
def lineLeaves (i : Fin 16) (s : State) : State := s.onJob i fun j => { j with lines := j.lines - 1 }

/-- A total of a job increases by one, saturating with SATURATION (R33). -/
def countEnciphered (i : Fin 16) (s : State) : State :=
  match s.jobs[i] with
  | none => s
  | some j =>
    let r := addSat max32 j.enciphered 1
    (s.onJob i fun j => { j with enciphered := r.1 }).raiseIf r.2 .saturation

/-- The sides-settled total of a job increases by one, saturating with SATURATION (R33). -/
def countSettled (i : Fin 16) (s : State) : State :=
  match s.jobs[i] with
  | none => s
  | some j =>
    let r := addSat max32 j.settled 1
    (s.onJob i fun j => { j with settled := r.1 }).raiseIf r.2 .saturation

/-- A side leaves the side count of its job, with a completion attempt (R32, R37). -/
def sideLeaves (i : Fin 16) (s : State) : State :=
  attemptClose i (s.onJob i fun j => { j with sides := j.sides - 1 })

end Sys2Proof.Machine
end

