-- ==== Sys2Proof/Machine/Settlement.lean ====
section
/-! DEFINITION. The life of a side after its admission (Chapter 6) with what the account table does to its owner
(R121, R124, R131): the close and its settlement, the void, readout attribution, and the start at a mark. -/

namespace Sys2Proof.Machine

/-! ### The owner's record -/

/-- The warning test of a user record (R124). -/
def warningTest (u : Fin 64) (s : State) : State :=
  match s.accounts.users[u] with
  | none => s
  | some r =>
    if r.available < r.warn then
      if r.warned then s else (s.onUser u fun r => { r with warned := true }).raiseQuota u
    else s.onUser u fun r => { r with warned := false }

/-- The hold of a user increases by a side's reserve (R122). -/
def takeHold (u : Fin 64) (reserve : Nat) (s : State) : State :=
  s.onUser u fun r => { r with hold := r.hold + reserve }

/-- The hold of a user decreases by a side's reserve (R122). -/
def releaseHold (u : Fin 64) (reserve : Nat) (s : State) : State :=
  s.onUser u fun r => { r with hold := r.hold - reserve }

/-- The largest value of spent (R120). -/
def maxSpent : Nat := 2 ^ 62

/-- A charge is added to a user's spent, with the reduction of R121 when it would pass 2^62. -/
def chargeUser (u : Fin 64) (charge : Nat) (s : State) : State :=
  match s.accounts.users[u] with
  | none => s
  | some r =>
    if maxSpent < r.spent + charge then
      (s.onUser u fun r =>
        { r with credit := r.credit - 2 ^ 61, spent := r.spent - 2 ^ 61 + charge }).raise .saturation
    else s.onUser u fun r => { r with spent := r.spent + charge }

/-- The place of a class and tier among the eight counters (R188). -/
def counterIndex (c : SideClass) (t : Tier) : Fin 8 := Fin.ofNat 8 (c.code * 3 + t.code)

/-- The place of the duplex-back counter (R188). -/
def duplexIndex : Fin 8 := 6

/-- The place of the spoiled counter (R188). -/
def spoiledIndex : Fin 8 := 7

/-- A counter of the owner and the device meter of the same kind increase by one (R131). -/
def countBoth (u : Fin 64) (i : Fin 8) (s : State) : State := countSideMeter i (countUser u i s)

/-- The place of a class and tier in the price table (R86). -/
def priceIndex (c : SideClass) (t : Tier) : Fin 6 := Fin.ofNat 6 (c.code * 3 + t.code)

/-- The charge of a side and CAPPED (R91). -/
def chargeOf (set : ParamSet) (reserve : Nat) (f : CloseFigures) : Nat × Bool :=
  let price := set.prices[priceIndex f.cls f.tier]
  if reserve < price then (reserve, true) else (price, false)

/-! ### Close and settlement (R108 to R110) -/

/-- What a settlement does to the owner's record and the device meters (R109, R131). -/
def settleAccount (r : Side) (o : SideOutcome) (f : CloseFigures) (charge : Nat) (s : State) : State :=
  let s1 := releaseHold r.userSlot r.reserve s
  warningTest r.userSlot
    (if o = .jammed then countBoth r.userSlot spoiledIndex s1
     else
      let s2 := countBoth r.userSlot (counterIndex f.cls f.tier) (chargeUser r.userSlot charge s1)
      if r.face = .back then countBoth r.userSlot duplexIndex s2 else s2)

/-- Hand the draw of one plane of a closed side to the prover (R110): it is routed, UNPROVEN is set when it went
to the unproven total, and the re-proof count of the slot increases. -/
def handPlaneDraw (r : Side) (f : CloseFigures) (s : State) (p : Plane) : State :=
  if hasPlane r.planes p then
    let routed := routeSideDraw p f.draw[p] r.serials[p] s
    let flagged := if routed.2 then
        routed.1.onSide r.uid fun x => { x with unproven := addPlane x.unproven p }
      else routed.1
    countReproof p flagged
  else s

/-- Hand the draw of every plane of a closed side to the prover, in plane order (R110). -/
def handDraw (r : Side) (f : CloseFigures) (s : State) : State := allPlanes.foldl (handPlaneDraw r f) s

/-- The record of a side becomes SETTLED (R94, R111). -/
def markSettled (uid : Nat) (g : Side → Side) (s : State) : State :=
  let s1 := s.onSide uid fun x => g { x with state := .settled }
  { s1 with sides := { s1.sides with settledOrder := s1.sides.settledOrder ++ [uid] } }

/-- The close of the side that is METERING, with its settlement and its draw, in one event (R108 to R110). -/
def closeSide (r : Side) (o : SideOutcome) (s : State) : State :=
  let f := closeFigures s.store.live r
  let c := if o = .jammed then (0, false) else chargeOf s.store.live r.reserve f
  let settled := markSettled r.uid (fun x =>
    { x with outcome := some o, figures := some f, charge := some c.1, capped := c.2 }) s
  handDraw r f (sideLeaves r.jobSlot (countSettled r.jobSlot (settleAccount r o f c.1 settled)))

/-- The void of an ADMITTED side (R114). -/
def voidSide (r : Side) (s : State) : State :=
  let s1 := warningTest r.userSlot (releaseHold r.userSlot r.reserve s)
  markSettled r.uid (fun x => { x with outcome := some .voided }) (sideLeaves r.jobSlot s1)

/-! ### Readout (R59, R103 to R106) -/

/-- The blanked-lines count of the METERING side increases by one (R104). At its maximum every further read raises
SATURATION again: DESIGN CHOICE (log entry 25). -/
def countSideBlanked (s : State) : State :=
  match s.meteringSide with
  | none => s
  | some r =>
    let n := min max32 (r.blanked + 1)
    (s.onSide r.uid fun x => { x with blanked := n }).raiseIf (decide (n = max32)) .saturation

/-- Count a blanked read (R103, R104). -/
def countBlank (c : BlankCount) (s : State) : State :=
  match c with
  | .sideAndDevice => countBlanked (countSideBlanked s)
  | .device => countBlanked s
  | .strict p => (countUnattributed p s).raise .unattributed

/-- The side to which a handed-over line is attributed, or none (R105). -/
def attributeLine (r : Readout) (s : State) : Option Side :=
  match s.meteringSide with
  | none => none
  | some m =>
    if r.side = some m.uid ∧ hasPlane m.planes r.plane ∧ (m.meterOf r.plane).lines < m.expected[r.plane] then
      some m
    else none

/-- Every plane of a side's plane set has its expected lines (R106). -/
def Side.readoutComplete (r : Side) : Bool :=
  allPlanes.all fun p => !hasPlane r.planes p || decide ((r.meterOf p).lines = r.expected[p])

/-- Meter an attributed line to its side, and close the side when its readout is complete (R59 steps 3 and 4,
R106). -/
def meterToSide (m : Side) (r : Readout) (l : Line) (s : State) : State :=
  match m.context with
  | none => s
  | some c =>
    let x := meterLine s.store.live r.plane r.depth l c
    let filled := { m with context := some x.1 }
    let s1 := (s.onSide m.uid fun y => { y with context := some x.1 }).raiseIf x.2 .saturation
    if filled.readoutComplete then closeSide filled .complete s1 else s1

/-- The hand-over of a readout line (R59). -/
def handOver (r : Readout) (l : Line) (s : State) : State :=
  match attributeLine r s with
  | some m => meterToSide m r l s
  | none => takeUnattributed r.plane (lineSum s.store.live.curves[r.plane] r.depth l) s

/-! ### The side mark (R100 to R102, R89) -/

/-- The values that a switch reports: the previous and the new live generation (R88, R89). -/
def switchVals (m : MeterStore) : List Val := [u16 m.liveGen, u16 m.stagedGen]

/-- The switch at a side mark (R89): the pending copy, if there is one, becomes live. -/
def switchPending (s : State) : State :=
  match s.store.pending with
  | none => s
  | some c =>
    ({ s with store := { s.store with live := c.set, liveGen := s.store.stagedGen, pending := none } }).completeParked
      ParkObject.isSwitch none (switchVals s.store)

/-- The serials recorded at the start of metering, for the planes of the plane set (R101). -/
def recordSerials (planes : PlaneSet) (s : State) : Vector (Option Serial) 4 :=
  Vector.ofFn fun p => if hasPlane planes p then s.cartridges.slots[p].serial else none

/-- A side begins metering (R101, R64). -/
def startSide (r : Side) (s : State) : State :=
  s.onSide r.uid fun x =>
    { x with
      state := .metering
      generation := some s.store.liveGen
      serials := recordSerials r.planes s
      context := some (newContext r.planes) }

/-- The side mark (R100). -/
def takeMark (s : State) : State :=
  let s1 := match s.meteringSide with
    | some r => closeSide r .short s
    | none => s
  let s2 := switchPending (convertUnattributed s1)
  match s2.oldestAdmitted with
  | some r => startSide r s2
  | none => (countUnaccounted s2).raise .unaccounted

end Sys2Proof.Machine
end

