-- ==== Sys2Proof/Machine/Protection.lean ====
section
/-! DEFINITION. The line protection unit and the way to the memory port (Chapter 3, R17, R18): same-line queues,
merge claims, merge entries, and what a grant performs. -/

namespace Sys2Proof.Machine

/-- The request is a merge claim (R48). -/
def Req.isClaim (r : Req) : Bool :=
  match r.treatment with
  | .merge _ => true
  | _ => false

/-- The request is a write. -/
def Req.isWrite (r : Req) : Bool :=
  match r.access with
  | .write _ _ => true
  | .read => false

/-- The job whose line count counts the request (R32). -/
def Req.countedJob (r : Req) : Option (Fin 16) :=
  match r.treatment with
  | .encipherWrite c | .decipherRead c | .decipherAndMeter c _ | .merge c => some c.job
  | _ => none

/-- A merge claim exists on the line (R48, R52). -/
def State.hasClaim (s : State) (line : Nat) : Bool := s.protection.queues.any fun q => decide (q.line = line)

/-- Add a request to the tail of its line's same-line queue (R52). -/
def joinQueue (r : Req) (s : State) : State :=
  { s with protection :=
    { s.protection with queues := s.protection.queues.map fun q =>
        if q.line = r.line then { q with queue := q.queue ++ [{ r with queued := true }] } else q } }

/-- Lines join the part's own stream (R17). -/
def issueOwn (ls : List OwnLine) (s : State) : State :=
  { s with port := { s.port with own := s.port.own ++ ls } }

/-- Requests join the upstream stream (R17). -/
def issueUpstream (rs : List Req) (s : State) : State :=
  { s with port := { s.port with upstream := s.port.upstream ++ rs } }

/-- A request goes toward the memory port: behind the merge claim of its line when one exists, into the
upstream stream otherwise (R51, R52). -/
def towardPort (r : Req) (s : State) : State :=
  if s.hasClaim r.line then joinQueue r s else issueUpstream [r] s

/-- Replace an entry of the merge table (R47). -/
def setEntry (i : Fin 8) (e : Option MergeEntry) (s : State) : State :=
  { s with protection := { s.protection with table := put s.protection.table i e } }

/-- A merge entry leaves ORDERING and issues its read, when no earlier request to its line waits for the port
(R49). -/
def issueRead (i : Fin 8) (s : State) : State :=
  match s.protection.table[i] with
  | none => s
  | some e =>
    if e.phase = .ordering ∧ s.port.upstream.all (fun r => decide (r.line ≠ e.req.line)) then
      issueOwn [.mergeRead i] (setEntry i (some { e with phase := .reading }) s)
    else s

/-- Give a merge claim an entry (R48): it moves from its job's line count to its merge count and begins in
ORDERING. -/
def giveEntry (i : Fin 8) (r : Req) (s : State) : State :=
  let placed := setEntry i (some { req := r, phase := .ordering, merged := none }) s
  issueRead i (match r.countedJob with
    | some j => placed.onJob j fun x => { x with lines := x.lines - 1, merges := x.merges + 1 }
    | none => placed)

/-- A merge claim arrives (R48); its job's line count has counted it. Of several free entries it takes the
lowest-numbered one: DESIGN CHOICE (log entry 20). -/
def claimMerge (r : Req) (s : State) : State :=
  if s.hasClaim r.line then joinQueue r s
  else
    let claimed := { s with protection :=
      { s.protection with queues := s.protection.queues ++ [{ line := r.line, queue := [] }] } }
    match firstIndex fun i : Fin 8 => s.protection.table[i].isNone with
    | some i => giveEntry i r claimed
    | none => { claimed with protection :=
        { claimed.protection with waitList := claimed.protection.waitList ++ [r] } }

/-- The requests in the same-line queue of a line. -/
def State.queueOf (s : State) (line : Nat) : List Req :=
  match s.protection.queues.find? fun q => decide (q.line = line) with
  | some q => q.queue
  | none => []

/-- Replace the same-line queue of a line. -/
def setQueue (line : Nat) (rs : List Req) (s : State) : State :=
  { s with protection :=
    { s.protection with queues := s.protection.queues.map fun q =>
        if q.line = line then { q with queue := rs } else q } }

/-- The claim on a line ends (R50 step 4). -/
def dropClaim (line : Nat) (s : State) : State :=
  { s with protection :=
    { s.protection with queues := s.protection.queues.filter fun q => decide (q.line ≠ line) } }

/-- A freed entry goes to the oldest claim of the entry wait list, or stays free (R50 step 4). -/
def refillEntry (i : Fin 8) (s : State) : State :=
  let freed := setEntry i none s
  match freed.protection.waitList with
  | [] => freed
  | r :: rest => giveEntry i r { freed with protection := { freed.protection with waitList := rest } }

/-- The same-line queue of a completed merge is served from its head (R50 steps 3 and 4). -/
def serveQueue (i : Fin 8) (line : Nat) (s : State) : State :=
  let q := s.queueOf line
  let ahead := q.takeWhile fun r => !r.isClaim
  let s1 := issueUpstream ahead s
  match q.dropWhile fun r => !r.isClaim with
  | claim :: rest => giveEntry i claim (setQueue line rest s1)
  | [] => refillEntry i (dropClaim line s1)

/-! ### What a grant performs (R18, R44 to R46, R59, R181) -/

/-- A counted request leaves its job's line count at its grant, with a completion attempt (R32, R37), which a reset that
follows in the same event does not take away: DEDUCED (log entry 24). -/
def leaveLineCount (j : Fin 16) (s : State) : State := attemptClose j (lineLeaves j s)

/-- Store a write's enabled bytes (R18). -/
def storeWrite (r : Req) (s : State) : State :=
  match r.access with
  | .write mask data => { s with mem := writeLine s.mem r.line mask data }
  | .read => s

/-- Perform a read or write that uses no key (R18, R46). -/
def performPlain (r : Req) (s : State) : State :=
  match r.access with
  | .write _ _ => (storeWrite r s).answer r.id okayWrite
  | .read => s.answer r.id (okayRead (readLine s.mem r.line))

/-- Perform a granted upstream request under its treatment. -/
def performGrant (r : Req) (s : State) : State :=
  match r.treatment with
  | .encipherWrite c =>
    leaveLineCount c.job (countEnciphered c.job ((storeWrite r s).answer r.id okayWrite))
  | .decipherRead c =>
    leaveLineCount c.job
      (s.answer r.id (okayRead (decipher c.key c.offset (readLine s.mem r.line))))
  | .decipherAndMeter c m =>
    let l := decipher c.key c.offset (readLine s.mem r.line)
    handOver m l (leaveLineCount c.job (s.answer r.id (okayRead l)))
  | .meter m =>
    let l := readLine s.mem r.line
    handOver m l (s.answer r.id (okayRead l))
  | .headerWrite =>
    ({ s with mem := writeLine s.mem r.line fullMask (headerLine s) }).answer r.id okayWrite
  | _ => performPlain r s

/-- The entries in ORDERING on a line try to leave it (R49). -/
def wakeEntries (line : Nat) (s : State) : State :=
  (List.finRange 8).foldl (fun s i =>
    match s.protection.table[i] with
    | some e => if e.req.line = line then issueRead i s else s
    | none => s) s

/-- The port may grant an upstream line (R17). -/
def State.upstreamTurn (s : State) : Bool := s.port.own.isEmpty || decide (s.port.last = .own)

/-- The port may grant a line of the part's own stream (R17). -/
def State.ownTurn (s : State) : Bool := s.port.upstream.isEmpty || decide (s.port.last = .upstream)

/-- The line of the part's own stream that the port grants next, if it is that stream's turn (R17). -/
def State.ownHead (s : State) : Option OwnLine := if s.ownTurn then s.port.own.head? else none

/-- Take the head of the part's own stream for its grant (R17). -/
def grantOwn (s : State) : State :=
  { s with port := { s.port with own := s.port.own.tail, last := .own } }

/-- The grant of the oldest upstream line (R17, R18). -/
def grantUpstream (s : State) : State :=
  match s.port.upstream with
  | [] => s
  | r :: rest =>
    wakeEntries r.line (performGrant r { s with port := { s.port with upstream := rest, last := .upstream } })

/-- The overlay of a merge over the deciphered line (R49). -/
def overlayOf (r : Req) (old : Line) : Line :=
  match r.access with
  | .write mask data => overlay mask old data
  | .read => old

/-- The re-enciphered line of a merge, from the line as memory holds it (R49). -/
def mergeLine (r : Req) (stored : Line) : Line :=
  match r.treatment with
  | .merge c => encipher c.key c.offset (overlayOf r (decipher c.key c.offset stored))
  | _ => overlayOf r stored

/-- The grant of a merge's read (R49). -/
def grantMergeRead (i : Fin 8) (s : State) : State :=
  match s.protection.table[i] with
  | none => s
  | some e =>
    let merged := mergeLine e.req (readLine s.mem e.req.line)
    issueOwn [.mergeWrite i] (setEntry i (some { e with phase := .writing, merged := some merged }) s)

/-- The attempt of a REGION REMOVE waiting on the region of a completed merge (R11, R50). -/
def attemptRemoveOf (r : Req) (s : State) : State :=
  match r.place with
  | .region slot uid =>
    match s.classifier.regions[slot] with
    | some x => if x.uid = uid then attemptRemove slot s else s
    | none => s
  | _ => s

/-- Memory accepts a merge's write-back (R50). Its attempts are made ahead of a reset in the same event: DEDUCED (log
entry 24). -/
def acceptMergeWrite (i : Fin 8) (s : State) : State :=
  match s.protection.table[i] with
  | none => s
  | some e =>
    let stored := { s with mem := writeLine s.mem e.req.line fullMask (e.merged.getD 0) }
    let counted := match e.req.countedJob with
      | some j => countEnciphered j (stored.onJob j fun x => { x with merges := x.merges - 1 })
      | none => stored
    let served := serveQueue i e.req.line (counted.answer e.req.id okayWrite)
    attemptRemoveOf e.req (match e.req.countedJob with
      | some j => attemptClose j served
      | none => served)

end Sys2Proof.Machine
end

