-- ==== Sys2Proof/Machine/Arrival.lean ====
section
/-! DEFINITION. The arrival of a line request: classification (R5, R6, R13, R14, R41, R42, R103), what is decided
at arrival (R15, R16, R48, R104, R181), and the taking of orders (R165, R166). -/

namespace Sys2Proof.Machine

/-! ### Classification (R5) -/

/-- The region slot whose record holds the line (R5). -/
def State.regionOf (s : State) (line : Nat) : Option (Fin 32) :=
  firstIndex fun i => match s.classifier.regions[i] with
    | some r => r.holds line
    | none => false

/-- The place of a line (R5). -/
def State.placeOf (s : State) (line : Nat) : Place :=
  let c := s.classifier
  if c.memLines ≤ line then .beyond
  else if c.controlBase ≤ line ∧ line < c.controlBase + 512 then .control (line - c.controlBase)
  else match s.regionOf line with
    | some i => match c.regions[i] with
      | some r => .region i r.uid
      | none => .plain
    | none => .plain

/-- The treatment that turns a request away: reads are withheld, writes refused (section 1.8). -/
def deny : Access → Treatment
  | .read => .withhold
  | .write _ _ => .refuse

/-- The treatment of a request in the control area (R6, R165). -/
def controlTreatment (cls : SourceClass) (n : Nat) (a : Access) : Treatment :=
  if cls ≠ .general then deny a
  else match a with
    | .read => .pass
    | .write mask data =>
      if n = 0 then .refuse
      else if n = 1 then .headerWrite
      else if n ≤ 63 then
        if mask = fullMask ∧ byteAt data 0 ≠ 0 then .orderTake else .pass
      else .refuse

/-- The treatment of a READOUT read of an unbound BAND region (R103). -/
def unboundReadout (s : State) (plane : Plane) (depth : Nat) : Treatment :=
  match s.meteringSide with
  | some m =>
    if hasPlane m.planes plane then .meter { plane, depth, side := some m.uid } else .blank .sideAndDevice
  | none =>
    if s.sides.strict then .blank (.strict plane) else .meter { plane, depth, side := none }

/-- The treatment of a READOUT read of a bound BAND region (R42, R104). -/
def boundReadout (s : State) (c : Cipher) (plane : Plane) (depth : Nat) : Treatment :=
  match s.meteringSide with
  | some m =>
    if m.jobSlot = c.job ∧ hasPlane m.planes plane then
      .decipherAndMeter c { plane, depth, side := some m.uid }
    else .blank .sideAndDevice
  | none => .blank .device

/-- Encipher-write for a full-line write, merge for a partial one (R41, R44, R48). -/
def encipherOrMerge (c : Cipher) (mask : ByteMask) : Treatment :=
  if mask = fullMask then .encipherWrite c else .merge c

/-- The treatment of a request in a LIVE bound region (R41). -/
def boundTreatment (s : State) (cls : SourceClass) (release : Release) (k : RegionKind) (c : Cipher)
    (a : Access) : Treatment :=
  match cls, k, a with
  | .intake, .priv, .write mask _ => encipherOrMerge c mask
  | .intake, .priv, .read => .decipherRead c
  | .intake, .band _ _ _, a => deny a
  | .pipe, _, .write mask _ => encipherOrMerge c mask
  | .pipe, _, .read => .decipherRead c
  | .readout, .priv, a => deny a
  | .readout, .band _ _ _, .write _ _ => .refuse
  | .readout, .band p d _, .read => boundReadout s c p d
  | .general, _, .write _ _ => .rawWrite
  | .general, _, .read => if release = .released then .decipherRead c else .rawRead

/-- The treatment of a request in a LIVE unbound region (R13). -/
def unboundTreatment (s : State) (cls : SourceClass) (k : RegionKind) (a : Access) : Treatment :=
  match cls, k, a with
  | .readout, .band p d _, .read => unboundReadout s p d
  | _, _, _ => .pass

/-- The treatment of a request in an ORPHAN region (R14). -/
def orphanTreatment (cls : SourceClass) (a : Access) : Treatment :=
  match cls, a with
  | .general, .read => .rawRead
  | _, a => deny a

/-- The treatment of a request in a region (R5). A LIVE bound region whose job slot holds no job does not arise;
its requests are treated as in an ORPHAN region (DESIGN CHOICE, log entry 16). -/
def regionTreatment (s : State) (cls : SourceClass) (r : Region) (line : Nat) (a : Access) : Treatment :=
  match r.state, r.job with
  | .orphan, _ => orphanTreatment cls a
  | .live, none => unboundTreatment s cls r.kind a
  | .live, some i => match s.jobs[i] with
    | some j => boundTreatment s cls j.release r.kind { job := i, key := j.key, offset := line - r.base } a
    | none => orphanTreatment cls a

/-- The treatment of a request (R5). -/
def State.treatmentOf (s : State) (cls : SourceClass) (p : Place) (line : Nat) (a : Access) : Treatment :=
  match p with
  | .beyond => deny a
  | .control n => controlTreatment cls n a
  | .plain => .pass
  | .region i _ => match s.classifier.regions[i] with
    | some r => regionTreatment s cls r line a
    | none => .pass

/-- The data with which a write goes on: the ciphertext for an enciphering write, which is enciphered at its
arrival (R44). -/
def arrivedAccess (t : Treatment) (a : Access) : Access :=
  match t, a with
  | .encipherWrite c, .write mask data => .write mask (encipher c.key c.offset data)
  | _, a => a

/-! ### Taking orders (R165, R166) -/

/-- Take an order-take write into the order queue; the write is released toward the port (R165). -/
def takeOrder (r : Req) (s : State) : State :=
  match r.access, r.place with
  | .write _ data, .control n =>
    towardPort r { s with orders :=
      { s.orders with queue := s.orders.queue ++ [entryOfLine n data] } }
  | _, _ => towardPort r s

/-- The order queue has a free place (R166). -/
def State.queueHasRoom (s : State) : Bool := decide (s.orders.queue.length < 8)

/-- The request is a write to a control line for which an order-take write waits at the channel front (R166). -/
def State.waitsBehindOrder (s : State) (r : Req) : Bool :=
  match r.place, r.access with
  | .control _, .write _ _ => s.channel.heldOrders.any fun q => decide (q.line = r.line)
  | _, _ => false

/-- A write joins the writes that wait at the channel front (R166). -/
def holdWrite (r : Req) (s : State) : State :=
  { s with channel := { s.channel with heldOrders := s.channel.heldOrders ++ [r] } }

/-- The writes that wait behind an order-take write of their line, once that write is taken: those that go to the port
with it, up to the next order-take write of the line, and those that still wait (R51). -/
def writesBehind (line : Nat) : List Req → List Req × List Req
  | [] => ([], [])
  | q :: rest =>
    let later := writesBehind line rest
    if q.line = line then
      if q.treatment = .orderTake then ([], q :: rest) else (q :: later.1, later.2)
    else (later.1, q :: later.2)

/-- Take the oldest waiting order-take write, if there is one and a place is free (R166). The writes to its line that
wait behind it follow it to the port (R51). -/
def takeHeld (s : State) : State :=
  match s.channel.heldOrders with
  | [] => s
  | r :: rest =>
    if s.queueHasRoom then
      let behind := writesBehind r.line rest
      behind.1.foldl (fun s q => towardPort q s)
        (takeOrder r { s with channel := { s.channel with heldOrders := behind.2 } })
    else s

/-- Take waiting order-take writes, one for each of at most `n` free places (R175). -/
def takeHeldUpTo : Nat → State → State
  | 0, s => s
  | n + 1, s => takeHeldUpTo n (takeHeld s)

/-! ### What is decided at arrival -/

/-- The refusal counter of the place of a refused request increases, saturating with SATURATION (R16). -/
def countRefusal (p : Place) (s : State) : State :=
  match p with
  | .region i _ => match s.classifier.regions[i] with
    | some r =>
      let n := addSat 65535 r.refusals 1
      (s.onRegion i fun r => { r with refusals := n.1 }).raiseIf n.2 .saturation
    | none => s
  | _ => s

/-- The line of 64 zero bytes (R15). -/
def zeroLine : Line := 0

/-- The read index that a header write offers: its value when both bytes of the field are enabled (R181). -/
def offeredIndex (mask : ByteMask) (data : Line) : Option Nat :=
  if mask.getLsbD 2 ∧ mask.getLsbD 3 then some (fieldAt data 2 2) else none

/-- What the writer makes of an offered read index (R181). -/
def acceptedIndex (w : ReturnWriter) (v : Nat) : Nat :=
  if ringSlots ≤ v then w.readIndex
  else if (v + ringSlots - w.readIndex) % ringSlots ≤ w.unread then v
  else w.writeIndex

/-- A header write arrives at the return writer (R181). -/
def offerIndex (a : Access) (s : State) : State :=
  match a with
  | .write mask data => match offeredIndex mask data with
    | some v => { s with writer := { s.writer with readIndex := acceptedIndex s.writer v } }
    | none => s
  | .read => s

/-- A write whose byte mask has no enable on (R3). -/
def storesNothing (a : Access) : Bool :=
  match a with
  | .write mask _ => decide (mask = 0)
  | .read => false

/-- The request is counted in its job's line count from its arrival (R32). -/
def countArrival (r : Req) (s : State) : State :=
  match r.countedJob with
  | some j => lineArrives j s
  | none => s

/-- Carry out a request whose treatment reaches memory. An order-take write waits while the queue has no place (R166). A
later write to its line, partial or with kind byte 0, is no order and waits behind it, so that the two are performed in
the order of their arrival (R51); a read goes on and sees the earlier content (R166). DEDUCED (log entry 19). -/
def admitRequest (r : Req) (s : State) : State :=
  match r.treatment with
  | .orderTake => if s.queueHasRoom then takeOrder r s else holdWrite r s
  | .pass => if s.waitsBehindOrder r then holdWrite r s else towardPort r s
  | .headerWrite => towardPort r (offerIndex r.access s)
  | .merge _ => claimMerge r (countArrival r s)
  | _ => towardPort r (countArrival r s)

/-- Carry out a classified request as far as its arrival goes (R5, R15). -/
def handleRequest (r : Req) (s : State) : State :=
  match r.treatment with
  | .withhold =>
    ((countRefusal r.place s).raise .access).answer r.id { status := .withheld, data := some zeroLine }
  | .refuse => ((countRefusal r.place s).raise .access).answer r.id { status := .refused, data := none }
  | .blank c => (countBlank c s).answer r.id (okayRead zeroLine)
  | _ => if storesNothing r.access then s.answer r.id okayWrite else admitRequest r s

/-- The request as it is classified at its arrival (R5). -/
def classify (q : LineReq) (s : State) : Req :=
  let cls := s.classifier.sources[q.tag]
  let place := s.placeOf q.line
  let t := s.treatmentOf cls place q.line q.access
  { id := s.channel.nextId, tag := q.tag, cls, line := q.line, access := arrivedAccess t q.access, place,
    treatment := t }

/-- A line request arrives at the channel front (R3, R5). -/
def arrive (q : LineReq) (s : State) : State :=
  handleRequest (classify q s) { s with channel :=
    { s.channel with
      nextId := s.channel.nextId + 1
      outstanding := s.channel.outstanding ++ [{ id := s.channel.nextId, tag := q.tag, answer := none }] } }

/-- The channel front accepts requests: both control lines are written since the cold reset (R20), and no reset
wait lasts (R58, R174). -/
def State.accepting (s : State) : Bool :=
  s.channel.summaryWritten && s.channel.headerWritten && s.orders.resetWait.isNone

/-- A request is presented on the channel: it arrives, or it waits there (R20, R58). -/
def present (q : LineReq) (s : State) : State :=
  if s.accepting then arrive q s
  else { s with channel := { s.channel with waiting := s.channel.waiting ++ [q] } }

/-- The channel front presents the requests that waited on the channel, in order and all in the one event (R20, R58,
R175). That they do so after a cold reset too is DESIGN CHOICE (log entry 22). -/
def openChannel (s : State) : State :=
  if s.accepting then
    s.channel.waiting.foldl (fun s q => arrive q s) { s with channel := { s.channel with waiting := [] } }
  else s

end Sys2Proof.Machine
end

