-- ==== Sys2Proof/Machine/Writer.lean ====
section
/-! DEFINITION. The return writer (Chapter 10): the offers and their rotation (R179, R180), acceptance, and the
rewrites of the ring header and the summary line (R181, R182). -/

namespace Sys2Proof.Machine

/-! ### Offers (R180) -/

/-- The number of returns of an export: one for each user, the RETIRED, the five parts of the METERS and the
SNAPSHOT (R135, R189). -/
def Snapshot.returnCount (c : Snapshot) : Nat := c.users.length + 7

/-- Return `n` of an export (R135, R189). -/
def exportLine (epoch : Nat) (c : Snapshot) (tag : BitVec 256) (n : Nat) : Line :=
  match c.users[n]? with
  | some u => accountLine epoch u
  | none =>
    let m := n - c.users.length
    if m = 0 then retiredLine epoch c.retired
    else if m ≤ 5 then metersLine epoch c (m - 1)
    else snapshotLine epoch c tag

/-- The record of the side list with a number. -/
def State.sideWithUid (s : State) (uid : Nat) : Option Side := s.sides.records.find? fun r => decide (r.uid = uid)

/-- The SIDE return part that the side list offers (R111, R189). -/
def sideOffer (s : State) : Option Line :=
  match s.sides.settledOrder with
  | [] => none
  | uid :: _ => (s.sideWithUid uid).map fun r => sideLine s.writer.epoch r r.partsWritten

/-- The RESULT that the order taker offers: of the reset sequence while it lasts, otherwise the oldest of the
holding list (R171, R176). -/
def resultOffer (s : State) : Option Line :=
  match s.orders.resetSequence with
  | r :: _ => some (resultLine s.writer.epoch r)
  | [] => s.orders.holding.head?.map (resultLine s.writer.epoch)

/-- The return that a parked export offers (R135). -/
def snapshotOffer (s : State) : Option Line :=
  match s.orders.parked.find? fun p => p.object.isSnapshot with
  | some { object := .snapshot c tag n, .. } => some (exportLine s.writer.epoch c tag n)
  | _ => none

/-- What an owner offers; while a reset sequence lasts, the order taker alone offers (R180). -/
def offerOf (s : State) : Owner → Option Line
  | .orderTaker => resultOffer s
  | .sideList => if s.orders.resetSequence.isEmpty then sideOffer s else none
  | .snapshots => if s.orders.resetSequence.isEmpty then snapshotOffer s else none

/-- The owners in the rotation after the one served last (R180). -/
def rotation : Owner → List Owner
  | .sideList => [.orderTaker, .snapshots, .sideList]
  | .orderTaker => [.snapshots, .sideList, .orderTaker]
  | .snapshots => [.sideList, .orderTaker, .snapshots]

/-- A return of the writer is on its way to memory (R179). -/
def State.returnInFlight (s : State) : Bool :=
  s.port.own.any fun l => match l with
    | .ret _ _ => true
    | _ => false

/-- The writer issues no new line: from the end of the drain to the reset event (R174). -/
def State.writerHalted (s : State) : Bool :=
  match s.orders.resetWait with
  | some w => w.drained
  | none => false

/-- The first owner of a list that offers, with what it offers. -/
def firstOffer (s : State) : List Owner → Option (Owner × Line)
  | [] => none
  | o :: rest => match offerOf s o with
    | some l => some (o, l)
    | none => firstOffer s rest

/-- The writer takes the next offer when it may (R179, R180). -/
def issueReturn (s : State) : State :=
  if s.writerHalted || s.returnInFlight || s.writer.full then s
  else match firstOffer s (rotation s.writer.position) with
    | none => s
    | some (o, l) => issueOwn [.ret o l] { s with writer := { s.writer with position := o } }

/-! ### Acceptance (R179) -/

/-- The side list is told of the acceptance of a part: after the last part the record leaves the list (R111,
R189). -/
def tellSideList (s : State) : State :=
  match s.sides.settledOrder with
  | [] => s
  | uid :: rest => match s.sideWithUid uid with
    | none => { s with sides := { s.sides with settledOrder := rest } }
    | some r =>
      if r.partCount ≤ r.partsWritten + 1 then
        { s with sides :=
          { s.sides with
            records := s.sides.records.filter fun x => decide (x.uid ≠ uid)
            settledOrder := rest } }
      else s.onSide uid fun x => { x with partsWritten := x.partsWritten + 1 }

/-- The order taker is told of the acceptance of a RESULT (R171, R176). -/
def tellOrderTaker (s : State) : State :=
  match s.orders.resetSequence with
  | _ :: rest => { s with orders := { s.orders with resetSequence := rest } }
  | [] => { s with orders := { s.orders with holding := s.orders.holding.tail } }

/-- One more return of the parked export is accepted. -/
def countExported (p : ParkedOrder) : ParkedOrder :=
  match p.object with
  | .snapshot c tag n => { p with object := .snapshot c tag (n + 1) }
  | _ => p

/-- The parked export is told of the acceptance of a return; after the SNAPSHOT it completes (R135). -/
def tellExport (s : State) : State :=
  match s.orders.parked.find? fun p => p.object.isSnapshot with
  | some { object := .snapshot c tag n, .. } =>
    if c.returnCount ≤ n + 1 then
      s.completeParked ParkObject.isSnapshot none
        [u16 c.recordCount, { width := 32, value := tag.toNat }]
    else { s with orders := { s.orders with parked := s.orders.parked.map countExported } }
  | _ => s

/-- The owner of an accepted return is told (R179). -/
def tellOwner (o : Owner) (s : State) : State :=
  match o with
  | .sideList => tellSideList s
  | .orderTaker => tellOrderTaker s
  | .snapshots => tellExport s

/-- The line address of a ring slot (R178). -/
def State.ringLine (s : State) (slot : Nat) : Nat := s.classifier.controlBase + 64 + slot

/-- Memory accepts a return write (R179). -/
def acceptReturn (o : Owner) (l : Line) (s : State) : State :=
  tellOwner o
    { s with
      mem := writeLine s.mem (s.ringLine s.writer.writeIndex) fullMask l
      writer := { s.writer with writeIndex := (s.writer.writeIndex + 1) % ringSlots } }

/-! ### The header and the summary (R181, R182) -/

/-- The part's own rewrite of the ring header is granted (R181); the channel front may open (R20). -/
def writeHeader (s : State) : State :=
  openChannel
    { s with
      mem := writeLine s.mem (s.classifier.controlBase + 1) fullMask (headerLine s)
      channel := { s.channel with headerWritten := true } }

/-- The waiting rewrite of the summary line is granted (R182); the channel front may open (R20). -/
def writeSummary (s : State) : State :=
  openChannel
    { s with
      mem := writeLine s.mem s.classifier.controlBase fullMask (summaryLine s)
      channel := { s.channel with summaryWritten := true } }

/-- A rewrite of the summary line waits for the port (R182). -/
def State.summaryWaiting (s : State) : Bool :=
  s.port.own.any fun l => match l with
    | .summary => true
    | _ => false

/-- A header rewrite is issued when the write index or the live generation changed in the event (R181). DEDUCED: one for
each such event (log entry 9). The epoch changes only in a reset event, which issues its rewrite in its step 8
(R185). -/
def issueHeader (before s : State) : State :=
  if s.writerHalted || decide (s.writer.epoch ≠ before.writer.epoch) then s
  else if s.writer.writeIndex = before.writer.writeIndex ∧ s.store.liveGen = before.store.liveGen then s
  else issueOwn [.header] s

/-- A summary rewrite is issued when the content changed in the event and none is waiting (R182). -/
def issueSummary (before s : State) : State :=
  if s.writerHalted || s.summaryWaiting then s
  else if summaryVals s = summaryVals before then s
  else issueOwn [.summary] s

end Sys2Proof.Machine
end

