-- ==== Sys2Proof/Machine/WarmReset.lean ====
section
/-! DEFINITION. PART RESET's reset wait and reset event (R174 to R176), and what ends every event. -/

namespace Sys2Proof.Machine

/-! ### The reset event (R175) -/

/-- Step 2: the exchange on the cartridge line is abandoned (R164). -/
def abandonExchange (s : State) : State :=
  match s.cartridges.line with
  | none => s
  | some x =>
    let idle := fun s : State => freeLine (s.onSlot x.slot fun c => { c with exchange := .idle, answerTimer := none })
    match x.message with
    | .challenge _ =>
      (idle s).onSlot x.slot fun c => { c with attempts := 0, probePending := true }
    | .debit amount _ _ =>
      requestProbe x.slot (changeVerdict x.slot .doubtful ((idle s).onSlot x.slot fun c =>
        { c with uncertain := if amount = 0 then none else some amount }))

/-- Step 3 for one side: an ADMITTED or METERING side is voided without a return (R119, R124). -/
def resetSide (s : State) (r : Side) : State :=
  if r.state = .settled then s
  else
    (warningTest r.userSlot (releaseHold r.userSlot r.reserve s)).onJob r.jobSlot fun j =>
      { j with sides := j.sides - 1 }

/-- Step 3 for the metering context of the METERING side: its accumulators join the unattributed ones (R80). -/
def releaseContext (r : Side) (s : State) (p : Plane) : State :=
  match r.context.bind fun c => c.planes[p] with
  | some m => addUnattributedWeight p m.sum s
  | none => s

/-- Step 3: the sides are voided or discarded and the unattributed records converted (R80, R119). -/
def resetSides (s : State) : State :=
  let voided := s.sides.records.foldl resetSide s
  let gathered := match s.meteringSide with
    | some r => allPlanes.foldl (releaseContext r) voided
    | none => voided
  let converted := convertUnattributed gathered
  { converted with sides := { converted.sides with records := [], settledOrder := [] } }

/-- A RESET answer to a queued order (R170, R175). That of a REGION QUERY carries memory size and control base too
(R12). -/
def OrderEntry.resetAnswer (s : State) (e : OrderEntry) : Result :=
  { serial := e.serial, kind := e.kind, window := e.window, reason := some .reset
    values := if e.kind = 0x04#8 then sizeVals s else [] }

/-- The values of the RESET answer to a parked order: a JOB CLOSE, whose tag was resolved, carries tag and slot
(R23). -/
def ParkObject.resetVals (s : State) : ParkObject → List Val
  | .job i _ => match s.jobs[i] with
    | some j => jobNames i j
    | none => []
  | _ => []

/-- A RESET answer to a parked order (R170, R175). -/
def ParkedOrder.resetAnswer (s : State) (p : ParkedOrder) : Result := p.result (some .reset) (p.object.resetVals s)

/-- The results that follow that of PART RESET, in order (R176). The parked orders stand in the order of their list, in
which a superseding METERS APPLY has the place of the earlier one: DESIGN CHOICE (log entry 23). -/
def resetFollowers (s : State) : List Result :=
  s.orders.holding ++ s.orders.completed ++ s.orders.parked.map (ParkedOrder.resetAnswer s) ++
    s.orders.queue.map (OrderEntry.resetAnswer s)

/-- The values of PART RESET's RESULT (R176). DESIGN CHOICE: one count of the orders answered RESET, one flag for a
restore or an export (log entry 13). -/
def resetVals (s : State) : List Val :=
  let live := s.sides.records.countP fun r => decide (r.state ≠ .settled)
  [u8 (s.jobs.toList.countP Option.isSome), u8 (s.classifier.regions.toList.countP Option.isSome), u8 live,
    u8 (s.sides.records.length - live), flagVal s.accountsBusy] ++
  optVal 1 (s.cartridges.line.map fun x => x.slot.val) ++
  [u8 (s.orders.parked.length + s.orders.queue.length), u8 (resetFollowers s).length]

/-- The reset sequence (R176). -/
def resetSequenceOf (w : ResetWait) (s : State) : List Result :=
  { serial := w.serial, kind := 0x62#8, window := w.window, reason := none, values := resetVals s } ::
    resetFollowers s

/-- Steps 4 to 7: jobs, regions, pending copy, orders (R21, R39, R93, R175). -/
def resetTables (sequence : List Result) (s : State) : State :=
  { s with
    jobs := Vector.replicate 16 none
    classifier := { s.classifier with regions := Vector.replicate 32 none }
    store := { s.store with pending := none }
    orders := { queue := [], parked := [], completed := [], holding := [], resetWait := none,
                resetSequence := sequence } }

/-- Step 8: the ring and the port's position, and the rewrites of the ring header and the summary line (R17, R185). They
join the wait here, ahead of the first return of the reset sequence, so that they are granted with indices 0: DEDUCED
(log entry 7). -/
def resetRing (s : State) : State :=
  issueOwn [.header, .summary]
    { s with
      writer := { s.writer with
        writeIndex := 0, readIndex := 0, epoch := (s.writer.epoch + 1) % 65536, position := .snapshots }
      port := { s.port with last := .upstream } }

/-- The reset event of a PART RESET (R175): the eight steps in order, then the waiting order-take writes are
taken and the channel front presents the waiting requests. -/
def warmReset (w : ResetWait) (s : State) : State :=
  let sequence := resetSequenceOf w s
  let s1 := abandonExchange { s with accounts := { s.accounts with restore := none } }
  openChannel (takeHeldUpTo 8 (resetRing (resetTables sequence (resetSides s1))))

/-! ### The reset wait (R174, R58) -/

/-- The drain is complete: no merge, merge claim, same-line queue or counted request is left, and every request that
left a same-line queue has been performed (R58). -/
def State.drainComplete (s : State) : Bool :=
  s.protection.table.toList.all Option.isNone && s.protection.waitList.isEmpty &&
    s.protection.queues.isEmpty && s.port.upstream.all (fun r => !r.queued) && s.jobs.toList.all fun x => match x with
      | some j => decide (j.lines = 0) && decide (j.merges = 0)
      | none => true

/-- A line that the return writer issued waits for the port (R174). -/
def State.writerBusy (s : State) : Bool :=
  s.port.own.any fun l => match l with
    | .ret _ _ => true
    | .header => true
    | .summary => true
    | _ => false

/-- The reset event takes place when the drain is complete and no line of the return writer is on its way (R174). What
the event that completes the drain does itself, a job's completion attempt and a region removal's among it, comes ahead
of the reset: DEDUCED (log entry 24). -/
def tryReset (s : State) : State :=
  match s.orders.resetWait with
  | none => s
  | some w => if w.drained ∧ ¬ s.writerBusy then warmReset w s else s

/-- The first stage of the end of the reset wait: the drain is complete (R174). -/
def noteDrain (s : State) : State :=
  match s.orders.resetWait with
  | none => s
  | some w =>
    if s.drainComplete then
      { s with orders := { s.orders with resetWait := some { w with drained := true } } }
    else s

/-! ### The end of every event -/

/-- What ends every event, from the state before it: the stages of a reset wait (R174), the tests of the
estimates (R158), the cartridge line's choice (R147), the results of completed parked orders (R169, R171), the
writer's next return (R180), its header and summary rewrites in the order of R17, and attention (R184). DEDUCED
(log entry 7). -/
def concludeEvent (before s : State) : State :=
  let s1 := arbitrate (testEstimates before (tryReset (noteDrain s)))
  evaluateAttention (issueSummary before (issueHeader before (issueReturn (moveCompleted s1))))

/-- An event at the part whose own effect is `body`. -/
def event (body : State → State) (s : State) : Host.Outcome State Fault Refusal :=
  .next (concludeEvent s (body s))

/-- An event that takes place only when its condition holds; otherwise it does not take place. -/
def eventIf (c : Bool) (body : State → State) (s : State) : Host.Outcome State Fault Refusal :=
  if c then event body s else .next s

end Sys2Proof.Machine
end

