-- ==== Sys2Proof/Machine/Taker.lean ====
section
/-! DEFINITION. The execution of orders (R167, R168): when the taker executes, what one execution is, and how the
checks of an order give its reason. -/

namespace Sys2Proof.Machine

/-- The taker is not paused (R167): the holding list has room, and no PART RESET is under way. -/
def State.takerReady (s : State) : Bool :=
  decide (s.orders.holding.length < 8) && s.orders.resetWait.isNone && s.orders.resetSequence.isEmpty

/-- The entry's kind is the given one. -/
def isKind (k : Byte) (e : OrderEntry) : Bool := decide (e.kind = k)

/-- The entry leaves the head of the queue, and the oldest waiting write is taken (R166, R167). -/
def popOrder (rest : List OrderEntry) (s : State) : State :=
  takeHeld { s with orders := { s.orders with queue := rest } }

/-- Execute the entry at the head of the queue when the taker is not paused and the entry is of the command's
kind (R167); otherwise the execution does not take place (DESIGN CHOICE, log entry 1). -/
def runOrder (accepts : OrderEntry → Bool) (body : OrderEntry → State → OrderAnswer × State) (s : State) :
    Host.Outcome State Fault Refusal :=
  match s.orders.queue with
  | [] => .next s
  | e :: rest =>
    eventIf (s.takerReady && accepts e) (fun s => giveAnswer e (body e (popOrder rest s))) s

/-- The reason of the first check that fails. -/
def firstFailure : List (Reason × Bool) → Option Reason
  | [] => none
  | (r, failed) :: rest => if failed then some r else firstFailure rest

/-- Refuse with the reason of the first check that fails, without values and without a change; otherwise go on. -/
def checked (checks : List (Reason × Bool)) (s : State) (go : OrderAnswer × State) : OrderAnswer × State :=
  match firstFailure checks with
  | some r => (.refused r [], s)
  | none => go

/-- The index of a table of `n` records that a number names. -/
def indexOf (n v : Nat) : Option (Fin n) := if h : v < n then some ⟨v, h⟩ else none

/-- The kinds that name an order (R187). -/
def orderKinds : List Byte :=
  [0x01, 0x02, 0x03, 0x04, 0x10, 0x11, 0x12, 0x13, 0x14, 0x15, 0x20, 0x21, 0x22, 0x23, 0x24, 0x25, 0x26,
    0x30, 0x31, 0x32, 0x33, 0x40, 0x41, 0x42, 0x43, 0x44, 0x45, 0x46, 0x47, 0x48, 0x49, 0x4A, 0x4B, 0x4C,
    0x4D, 0x4E, 0x50, 0x51, 0x52, 0x60, 0x61, 0x62]

end Sys2Proof.Machine
end

