-- ==== Sys2Proof/Machine/AccountOrders.lean ====
section
/-! DEFINITION. The account orders and the queries of the account table (R120, R125 to R130, R133). -/

namespace Sys2Proof.Machine

/-- A floor is in range (R120). -/
def floorInRange (v : Int) : Bool := decide (-2000000000 ≤ v) && decide (v ≤ 0)

/-- A warn level, or a balance given to ACCOUNT SET, is in range (R120, R127). -/
def levelInRange (v : Int) : Bool := decide (-2000000000 ≤ v) && decide (v ≤ 2147483647)

/-- The largest balance (R121). -/
def maxBalance : Int := 2147483647

/-- A restore buffer is open. -/
def State.restoring (s : State) : Bool := s.accounts.restore.isSome

/-- Resolve a user id, then carry on with the slot and its record (R120). -/
def withUser (id : Nat) (s : State) (go : Fin 64 → User → OrderAnswer × State) : OrderAnswer × State :=
  if id = 0 then (.refused .badArg [], s)
  else match s.userWithId id with
    | none => (.refused .noUser [], s)
    | some i => match s.accounts.users[i] with
      | none => (.refused .noUser [], s)
      | some u => go i u

/-- Put a record into a user slot, or free it. -/
def setUser (i : Fin 64) (u : Option User) (s : State) : State :=
  { s with accounts := { s.accounts with users := put s.accounts.users i u } }

/-! ### ACCOUNT OPEN (R125) -/

/-- The record that ACCOUNT OPEN makes (R125). -/
def newUser (e : OrderEntry) : User :=
  { id := e.num 3 4, state := .active, colour := e.flag 7, credit := (e.num 16 4 : Int), spent := 0, hold := 0
    floor := e.int 8 4, warn := e.int 12 4, warned := false, counters := .zero }

/-- The WARNED flag of a user slot. -/
def State.isWarned (s : State) (i : Fin 64) : Bool :=
  match s.accounts.users[i] with
  | some u => u.warned
  | none => false

/-- The lowest-numbered free user slot (R125). -/
def State.freeUserSlot (s : State) : Option (Fin 64) := firstIndex fun i => s.accounts.users[i].isNone

/-- The checks of ACCOUNT OPEN but the last, in order (R125). -/
def openAccountChecks (e : OrderEntry) (s : State) : List (Reason × Bool) :=
  [(.badArg, decide (e.num 3 4 = 0) || !floorInRange (e.int 8 4) || !levelInRange (e.int 12 4) ||
      decide (2147483647 < e.num 16 4)),
   (.busy, s.restoring),
   (.duplicate, (s.userWithId (e.num 3 4)).isSome)]

/-- ACCOUNT OPEN (R125). A DUPLICATE carries no values: DESIGN CHOICE (log entry 13). -/
def accountOpen (e : OrderEntry) (s : State) : OrderAnswer × State :=
  checked (openAccountChecks e s) s
    (match s.freeUserSlot with
    | none => (.refused .noSlot [], s)
    | some i =>
      let u := newUser e
      let opened := warningTest i (setUser i (some u) s)
      (.done [u8 i.val, u32 u.id, i32 u.balance, flagVal (opened.isWarned i)], opened))

/-- ACCOUNT_OPEN executed. -/
def execAccountOpen (s : State) : Host.Outcome State Fault Refusal := runOrder (isKind 0x40#8) accountOpen s

/-! ### ACCOUNT CREDIT (R126) -/

/-- The amount that ACCOUNT CREDIT adds (R126). -/
def addedCredit (u : User) (amount : Nat) : Int :=
  if maxBalance < u.balance + amount then maxBalance - u.balance else amount

/-- ACCOUNT CREDIT (R126). The available balance stands in four signed bytes, a width the manual does not give: DESIGN
CHOICE (log entry 13). -/
def accountCredit (e : OrderEntry) (s : State) : OrderAnswer × State :=
  let amount := e.num 7 4
  if s.restoring then (.refused .busy [], s)
  else withUser (e.num 3 4) s fun i u =>
    let added := addedCredit u amount
    let u' := { u with credit := u.credit + added }
    (.done [u32 u.id, u8 i.val, u32 amount, u32 added.toNat, flagVal (decide (maxBalance < u.balance + amount)),
        i32 u'.balance, u32 u'.hold, i32 u'.available],
      warningTest i (setUser i (some u') s))

/-- ACCOUNT_CREDIT executed. -/
def execAccountCredit (s : State) : Host.Outcome State Fault Refusal := runOrder (isKind 0x41#8) accountCredit s

/-! ### ACCOUNT SET (R127) -/

/-- The balance that ACCOUNT SET gives, when one is given (R187). -/
def OrderEntry.givenBalance (e : OrderEntry) : Option Int := if e.flag 16 then some (e.int 17 4) else none

/-- The arguments of ACCOUNT SET are in range (R127). -/
def accountSetInRange (e : OrderEntry) : Bool :=
  floorInRange (e.int 8 4) && levelInRange (e.int 12 4) &&
    match e.givenBalance with
    | some b => levelInRange b
    | none => true

/-- The record after ACCOUNT SET, before the warning test (R127). -/
def setAccount (e : OrderEntry) (u : User) : User :=
  { u with
    floor := e.int 8 4
    warn := e.int 12 4
    colour := e.flag 7
    credit := match e.givenBalance with
      | some b => u.spent + b
      | none => u.credit }

/-- What ACCOUNT SET reports of a record (R127). -/
def settingVals (u : User) (warned : Bool) : List Val :=
  [i32 u.floor, i32 u.warn, flagVal u.colour, i32 u.balance, flagVal warned]

/-- ACCOUNT SET (R127); it reports the group before and then the group after: DESIGN CHOICE (log entry 13). The order
of its checks is DEDUCED (log entry 14). -/
def accountSet (e : OrderEntry) (s : State) : OrderAnswer × State :=
  if s.restoring then (.refused .busy [], s)
  else if !accountSetInRange e then (.refused .badArg [], s)
  else withUser (e.num 3 4) s fun i u =>
    let u' := setAccount e u
    let after := warningTest i (setUser i (some u') s)
    (.done ([u32 u.id, u8 i.val] ++ settingVals u u.warned ++ settingVals u' (after.isWarned i)), after)

/-- ACCOUNT_SET executed. -/
def execAccountSet (s : State) : Host.Outcome State Fault Refusal := runOrder (isKind 0x42#8) accountSet s

/-! ### ACCOUNT SUSPEND and ACCOUNT RESUME (R128) -/

/-- Set the state of a user (R128). The RESULT has the user id and the slot (R120) before the two states: DESIGN CHOICE
(log entry 13). -/
def setUserState (x : UserState) (e : OrderEntry) (s : State) : OrderAnswer × State :=
  if s.restoring then (.refused .busy [], s)
  else withUser (e.num 3 4) s fun i u =>
    (.done [u32 u.id, u8 i.val, u8 u.state.code, u8 x.code], setUser i (some { u with state := x }) s)

/-- ACCOUNT_SUSPEND executed. -/
def execAccountSuspend (s : State) : Host.Outcome State Fault Refusal :=
  runOrder (isKind 0x43#8) (setUserState .suspended) s

/-- ACCOUNT_RESUME executed. -/
def execAccountResume (s : State) : Host.Outcome State Fault Refusal :=
  runOrder (isKind 0x44#8) (setUserState .active) s

/-! ### ACCOUNT REMOVE (R129) -/

/-- The number of jobs that a user owns (R129, R130). -/
def State.jobsOwned (s : State) (i : Fin 64) : Nat :=
  s.jobs.toList.countP fun x => match x with
    | some j => decide (j.owner = i)
    | none => false

/-- The retired record after a removal (R129). -/
def retiredPlus (old more : Counters) : Counters := Vector.ofFn fun i => (addSat max32 old[i] more[i]).1

/-- An addition to the retired record passes the maximum (R129). -/
def retiredSaturates (old more : Counters) : Bool :=
  (List.finRange 8).any fun i => (addSat max32 old[i] more[i]).2

/-- The removal of a user record (R129). -/
def removeUser (i : Fin 64) (u : User) (s : State) : State :=
  let s1 := setUser i none s
  ({ s1 with accounts :=
    { s1.accounts with retired := retiredPlus s.accounts.retired u.counters } }).raiseIf
      (retiredSaturates s.accounts.retired u.counters) .saturation

/-- ACCOUNT REMOVE (R129); a refusal after the id is resolved carries id and slot (R120). -/
def accountRemove (e : OrderEntry) (s : State) : OrderAnswer × State :=
  if s.restoring then (.refused .busy [], s)
  else withUser (e.num 3 4) s fun i u =>
    if 0 < s.jobsOwned i ∨ u.hold ≠ 0 then (.refused .busy (userNames i u.id), s)
    else
      (.done ([u8 i.val, u32 u.id, u8 u.state.code, flagVal u.colour, i32 u.balance, i32 u.floor, i32 u.warn] ++
          counterVals u.counters),
        removeUser i u s)

/-- ACCOUNT_REMOVE executed. -/
def execAccountRemove (s : State) : Host.Outcome State Fault Refusal := runOrder (isKind 0x45#8) accountRemove s

/-! ### ACCOUNT QUERY (R130) and COUNTERS QUERY (R133) -/

/-- The number of a user's sides that are ADMITTED or METERING (R130). -/
def State.sidesOwned (s : State) (i : Fin 64) : Nat :=
  s.sides.records.countP fun r => decide (r.state ≠ .settled) && decide (r.userSlot = i)

/-- What ACCOUNT QUERY reports of a user record (R130, R189). The available balance stands in four signed bytes, a width
the manual does not give: DESIGN CHOICE (log entry 13). -/
def userReport (i : Fin 64) (u : User) (part : Nat) (s : State) : List Val :=
  [u8 i.val, u32 u.id] ++
    if part = 0 then
      [u8 u.state.code, flagVal u.colour, i64 u.credit, u64 u.spent, u32 u.hold, i32 u.floor, i32 u.warn,
        flagVal u.warned, i32 u.balance, i32 u.available, u8 (s.sidesOwned i), u8 (s.jobsOwned i)]
    else counterVals u.counters

/-- ACCOUNT QUERY of a slot number (R130); of a free slot it reports the number alone: DESIGN CHOICE (log entry 13). -/
def queryUserSlot (i : Fin 64) (part : Nat) (s : State) : OrderAnswer × State :=
  match s.accounts.users[i] with
  | some u => (.done (userReport i u part s), s)
  | none => (.done [u8 i.val], s)

/-- ACCOUNT QUERY (R130). -/
def accountQuery (e : OrderEntry) (s : State) : OrderAnswer × State :=
  let part := e.num 8 1
  if 1 < part then (.refused .badArg [], s)
  else match e.num 3 1 with
    | 0 => withUser (e.num 4 4) s fun i u => (.done (userReport i u part s), s)
    | 1 => match indexOf 64 (e.num 4 1) with
      | some i => queryUserSlot i part s
      | none => (.refused .badArg [], s)
    | _ => (.refused .badArg [], s)

/-- ACCOUNT_QUERY executed. -/
def execAccountQuery (s : State) : Host.Outcome State Fault Refusal := runOrder (isKind 0x46#8) accountQuery s

/-- What COUNTERS QUERY reports in a part (R133, R189). -/
def countersReport (t : AccountTable) : Nat → Option (List Val)
  | 0 => some (counterVals t.meters.sides ++ [u32 t.meters.unaccounted])
  | 1 => some (t.meters.unattributed.toList.map u32 ++ [u32 t.meters.blanked])
  | 2 => some (counterVals t.retired)
  | _ => none

/-- COUNTERS QUERY (R133). -/
def countersQuery (e : OrderEntry) (s : State) : OrderAnswer × State :=
  match countersReport s.accounts (e.num 3 1) with
  | some vals => (.done vals, s)
  | none => (.refused .badArg [], s)

/-- COUNTERS_QUERY executed. -/
def execCountersQuery (s : State) : Host.Outcome State Fault Refusal := runOrder (isKind 0x47#8) countersQuery s

end Sys2Proof.Machine
end

