-- ==== Sys2Proof/Machine/CartridgeEvents.lean ====
section
/-! DEFINITION. The commands that are events of the cartridges: presence (R142, R144), timers (R143, R151) and
the phases of the exchanges (R148 to R153). -/

namespace Sys2Proof.Machine

/-! ### Presence and timers -/

/-- Set the level of a presence input. -/
def setPin (p : Plane) (b : Bool) (s : State) : State :=
  { s with cartridges := { s.cartridges with pins := put s.cartridges.pins p b } }

/-- A cartridge is seated (R142). -/
def seatCartridge (p : Plane) (s : State) : State :=
  (s.onSlot p fun c =>
    { c with seated := true, exchange := .settling, settlingTimer := some 500 }).raise (.presence p)

/-- The amount of the debit on the line of a slot, when there is one (R153). -/
def debitOnLine (p : Plane) (s : State) : Option Nat :=
  match s.cartridges.line with
  | some { slot := q, message := .debit amount _ _, .. } => if q = p then some amount else none
  | _ => none

/-- The line is freed when it carries the slot's exchange (R144 step 7). -/
def dropExchange (p : Plane) (s : State) : State :=
  match s.cartridges.line with
  | some x => if x.slot = p then freeLine s else s
  | none => s

/-- An abandoned debit leaves its amount as the uncertain debit (R144 step 3). -/
def keepUncertain (p : Plane) (s : State) : State :=
  match debitOnLine p s with
  | some amount => s.onSlot p fun c => { c with uncertain := if amount = 0 then none else some amount }
  | none => s

/-- A cartridge is removed (R144). -/
def removeCartridge (p : Plane) (s : State) : State :=
  let known := decide (s.cartridges.slots[p].verdict ≠ .unknown)
  let s1 := stashSlot p (dropExchange p (keepUncertain p s))
  let s2 := s1.completeParked (ParkObject.isCartridge p) (some .removed) []
  ((s2.onSlot p fun _ => CartridgeSlot.empty).raise (.presence p)).raiseIf known (.verdict p)

/-- PRESENCE_ASSERT (R142): the input is asserted; an EMPTY slot becomes SEATED. -/
def execPresenceAssert (slot : Plane) (s : State) : Host.Outcome State Fault Refusal :=
  event (fun s =>
    let s1 := setPin slot true s
    if s.cartridges.slots[slot].seated then s1 else seatCartridge slot s1) s

/-- PRESENCE_DEASSERT (R144): the input is deasserted; a SEATED slot becomes EMPTY. -/
def execPresenceDeassert (slot : Plane) (s : State) : Host.Outcome State Fault Refusal :=
  event (fun s =>
    let s1 := setPin slot false s
    if s.cartridges.slots[slot].seated then removeCartridge slot s1 else s1) s

/-- SETTLING_TIMER_EXPIRY (R143). -/
def execSettlingTimerExpiry (slot : Plane) (s : State) : Host.Outcome State Fault Refusal :=
  eventIf s.cartridges.slots[slot].settlingTimer.isSome
    (fun s => s.onSlot slot fun c =>
      { c with exchange := .idle, attempts := 0, probePending := true, settlingTimer := none }) s

/-- RETRY_TIMER_EXPIRY (R151). -/
def execRetryTimerExpiry (slot : Plane) (s : State) : Host.Outcome State Fault Refusal :=
  eventIf s.cartridges.slots[slot].retryTimer.isSome
    (fun s => s.onSlot slot fun c =>
      { c with exchange := .idle, probePending := true, retryTimer := none }) s

/-! ### Phases of an exchange -/

/-- The exchange on the line enters a phase. -/
def setPhase (ph : ExchangePhase) (s : State) : State :=
  { s with cartridges := { s.cartridges with line := s.cartridges.line.map fun x => { x with phase := ph } } }

/-- The write of an exchange ends with every byte acknowledged: the answer-wait timer starts (R148, R153). -/
def startWait (p : Plane) (s : State) : State :=
  setPhase .wait (s.onSlot p fun c => { c with answerTimer := some 25 })

/-- An exchange ends SILENT (R148, R153). -/
def endSilent (x : LineExchange) (s : State) : State :=
  match x.message with
  | .challenge _ => endAttempt x.slot .silent s
  | .debit amount _ _ => endDebitBadly x.slot amount true s

/-- The challenge is on the line in the given phase. -/
def isChallenge (ph : ExchangePhase) (x : LineExchange) : Bool :=
  match x.message with
  | .challenge _ => decide (x.phase = ph)
  | .debit _ _ _ => false

/-- The debit is on the line in the given phase. -/
def isDebit (ph : ExchangePhase) (x : LineExchange) : Bool :=
  match x.message with
  | .challenge _ => false
  | .debit _ _ _ => decide (x.phase = ph)

/-- An event of the exchange on the line, which takes place only when the exchange meets the test. -/
def onExchange (test : LineExchange → Bool) (body : LineExchange → State → State) (s : State) :
    Host.Outcome State Fault Refusal :=
  match s.cartridges.line with
  | some x => eventIf (test x) (body x) s
  | none => .next s

/-- CHALLENGE_WRITE_END (R148 phase 1). -/
def execChallengeWriteEnd (acknowledged : Bool) (s : State) : Host.Outcome State Fault Refusal :=
  onExchange (isChallenge .write)
    (fun x s => if acknowledged then startWait x.slot s else endSilent x s) s

/-- AMOUNT_WRITE_END (R153 phase 1). -/
def execAmountWriteEnd (acknowledged : Bool) (s : State) : Host.Outcome State Fault Refusal :=
  onExchange (isDebit .write)
    (fun x s => if acknowledged then startWait x.slot s else endSilent x s) s

/-- ANSWER_ADDRESS_ACK (R148 phase 3, R153 phase 3): the timer stops and the read begins. -/
def execAnswerAddressAck (s : State) : Host.Outcome State Fault Refusal :=
  onExchange (fun x => decide (x.phase = .wait))
    (fun x s => setPhase .read (s.onSlot x.slot fun c => { c with answerTimer := none })) s

/-- ANSWER_WAIT_EXPIRY (R148 phase 2, R153 phase 2). -/
def execAnswerWaitExpiry (s : State) : Host.Outcome State Fault Refusal :=
  onExchange (fun x => decide (x.phase = .wait)) endSilent s

/-! ### The evaluation of a proof answer (R149, R150) -/

/-- A known serial is evaluated against the state the slot now holds for it (R150). Without a last confirmed
remaining it is judged as a new one: DESIGN CHOICE (log entry 10). -/
def evaluateKnown (p : Plane) (a : Nat) (s : State) : State :=
  let c := s.cartridges.slots[p]
  let settled := fun s : State => s.onSlot p fun c => { c with remaining := some a, uncertain := none }
  match c.remaining with
  | none => endAttempt p .pass (settled s)
  | some l =>
    if l < a then endAttempt p .rejected s
    else match c.uncertain with
      | none => endAttempt p .pass (settled s)
      | some u =>
        if a + u = l then
          endAttempt p .pass
            (addConfirmed p u ((settled s).onSlot p fun c => { c with owed := c.owed - u }))
        else endAttempt p .pass (settled s)

/-- The slot takes over an entry of the absent list (R150): the entry leaves the list first, then the slot's own
serial state joins it. -/
def claimEntry (p : Plane) (a : AbsentEntry) (s : State) : State :=
  let others := s.cartridges.absent.eraseP fun x => decide (x.serial = a.serial) && decide (x.plane = a.plane)
  (stashSlot p { s with cartridges := { s.cartridges with absent := others } }).onSlot p fun c =>
    { c with serial := some a.serial, owed := a.owed, remaining := a.remaining, uncertain := a.uncertain }

/-- A cartridge new to the part (R149 step 4). -/
def adoptSerial (p : Plane) (a : ProofAnswer) (s : State) : State :=
  (stashSlot p s).onSlot p fun c => { c with serial := some a.serial, remaining := some a.remaining.toNat }

/-- The evaluation of a proof answer (R149). -/
def evaluateAnswer (p : Plane) (nonce : Nonce) (a : ProofAnswer) (s : State) : State :=
  if a.tag ≠ answerTag s.fuses.familySecret nonce a.serial a.plane a.remaining.toNat then
    endAttempt p .fail s
  else if a.plane ≠ p then endAttempt p .rejected s
  else if s.cartridges.slots[p].serial = some a.serial then evaluateKnown p a.remaining.toNat s
  else match s.absentEntry a.serial p with
    | some x => evaluateKnown p a.remaining.toNat (claimEntry p x s)
    | none => endAttempt p .pass (adoptSerial p a s)

/-- ANSWER_READ_END (R148 phase 3, R149). -/
def execAnswerReadEnd (answer : Option ProofAnswer) (s : State) : Host.Outcome State Fault Refusal :=
  onExchange (isChallenge .read)
    (fun x s => match x.message, answer with
      | .challenge nonce, some a => evaluateAnswer x.slot nonce a s
      | _, _ => endSilent x s) s

/-! ### The confirmation of a debit (R153) -/

/-- The confirmation is good (R153). -/
def goodConfirmation (p : Plane) (amount : Nat) (nonce : Nonce) (k : DebitConfirmation) (s : State) : Bool :=
  let c := s.cartridges.slots[p]
  decide (k.tag =
    confirmationTag s.fuses.familySecret (c.serial.getD 0) nonce amount k.remaining.toNat) &&
  decide (k.remaining.toNat ≤ c.remaining.getD 0 - amount)

/-- A good confirmation (R153). -/
def confirmDebit (p : Plane) (amount remaining : Nat) (s : State) : State :=
  thresholdTest p (freeLine (addConfirmed p amount (s.onSlot p fun c =>
    { c with owed := c.owed - amount, remaining := some remaining, exchange := .idle, answerTimer := none })))

/-- CONFIRMATION_READ_END (R153). A byte not delivered ends the debit SILENT: DESIGN CHOICE (log entry 10). -/
def execConfirmationReadEnd (confirmation : Option DebitConfirmation) (s : State) :
    Host.Outcome State Fault Refusal :=
  onExchange (isDebit .read)
    (fun x s => match x.message, confirmation with
      | .debit amount nonce _, some k =>
        if goodConfirmation x.slot amount nonce k s then confirmDebit x.slot amount k.remaining.toNat s
        else endDebitBadly x.slot amount false s
      | _, _ => endSilent x s) s

end Sys2Proof.Machine
end

