-- ==== Sys2Proof/Machine/CartridgeOrders.lean ====
section
/-! DEFINITION. The orders of the cartridge prover: CARTRIDGE PROBE, CARTRIDGE QUERY, TONER POLICY (R160 to R162). -/

namespace Sys2Proof.Machine

/-- A CARTRIDGE PROBE that is not refused (R160). -/
def parkProbe (e : OrderEntry) (p : Plane) (s : State) : State := requestProbe p (s.park e (.cartridge p))

/-- CARTRIDGE PROBE (R160). A request made while the exchange is SETTLING, PROBE or RETRY_WAIT changes no bit. -/
def cartridgeProbe (e : OrderEntry) (s : State) : OrderAnswer × State :=
  match indexOf 4 (e.num 3 1) with
  | none => (.refused .badArg [], s)
  | some p =>
    let c := s.cartridges.slots[p]
    checked [(.noCartridge, !c.seated), (.slotState, decide (c.verdict = .rejected)),
        (.busy, s.hasParked (ParkObject.isCartridge p)), (.busy, s.parkedFull)] s (.parked, parkProbe e p s)

/-- CARTRIDGE_PROBE executed. -/
def execCartridgeProbe (s : State) : Host.Outcome State Fault Refusal := runOrder (isKind 0x50#8) cartridgeProbe s

/-! ### CARTRIDGE QUERY (R161, R189) -/

/-- The byte of a history: bit `i` is 1 when the outcome `i` places behind the newest was a pass (R186). -/
def historyByte : List Bool → Nat
  | [] => 0
  | b :: rest => (if b then 1 else 0) + 2 * historyByte rest

/-- Part 0: the slot fields, the estimate and the timers (R161, R189). The timers are three flag bytes, settling, retry
and answer wait: DESIGN CHOICE (log entry 13). -/
def slotReport (p : Plane) (c : CartridgeSlot) : List Val :=
  [u8 p.val, u8 (if c.seated then 1 else 0)] ++ optVal 8 (c.serial.map BitVec.toNat) ++
    [u8 c.verdict.code, u8 c.exchange.code, u8 c.attempts] ++ optVal 4 c.remaining ++ [u32 c.owed] ++
    optVal 4 c.uncertain ++ [u8 c.history.length, u8 (historyByte c.history)] ++
    [flagVal c.everFailed, flagVal c.everSilent, u16 c.reproof, flagVal c.probePending, flagVal c.debitPending] ++
    optVal 4 c.estimate ++
    [flagVal c.settlingTimer.isSome, flagVal c.retryTimer.isSome, flagVal c.answerTimer.isSome]

/-- The absent-list entries of a plane with their positions, which count from 1 (R161) in the whole list:
DESIGN CHOICE (log entry 13). -/
def absentOf (p : Plane) (l : List AbsentEntry) : List (AbsentEntry × Nat) :=
  (l.zipIdx 1).filter fun x => decide (x.1.plane = p)

/-- Part 1: the draw totals of the plane, its number of absent-list entries and the policy (R189). -/
def planeReport (p : Plane) (c : Cartridges) : List Val :=
  totalVals c.totals[p] ++ [u8 (absentOf p c.absent).length, flagVal (hasPlane c.policy.requireGenuine p)] ++
    [u32 c.policy.interval, u32 c.policy.threshold, u32 c.policy.lowMark]

/-- Parts 2 to 9: an absent-list entry of the plane, behind one flag byte that says whether it is there, and ahead of its
position, which stands last (R161, R189): both places are DESIGN CHOICE (log entry 13). -/
def absentReport : Option (AbsentEntry × Nat) → List Val
  | none => [flagVal false]
  | some (a, n) =>
    [flagVal true, u64 a.serial.toNat, u8 a.plane.val, u32 a.owed] ++ optVal 4 a.remaining ++
      optVal 4 a.uncertain ++ [u8 n]

/-- What CARTRIDGE QUERY reports in a part (R189). -/
def cartridgeReport (p : Plane) (c : Cartridges) : Nat → List Val
  | 0 => slotReport p c.slots[p]
  | 1 => planeReport p c
  | n + 2 => absentReport (absentOf p c.absent)[n]?

/-- CARTRIDGE QUERY (R161). -/
def cartridgeQuery (e : OrderEntry) (s : State) : OrderAnswer × State :=
  match indexOf 4 (e.num 3 1) with
  | none => (.refused .badArg [], s)
  | some p =>
    if 9 < e.num 4 1 then (.refused .badArg [], s) else (.done (cartridgeReport p s.cartridges (e.num 4 1)), s)

/-- CARTRIDGE_QUERY executed. -/
def execCartridgeQuery (s : State) : Host.Outcome State Fault Refusal := runOrder (isKind 0x51#8) cartridgeQuery s

/-! ### TONER POLICY (R162) -/

/-- The policy that TONER POLICY gives (R187). -/
def OrderEntry.policy (e : OrderEntry) : TonerPolicy :=
  { requireGenuine := e.planes 3, interval := e.num 4 4, threshold := e.num 8 4, lowMark := e.num 12 4 }

/-- The four values of a policy (R162). -/
def policyVals (p : TonerPolicy) : List Val :=
  [planesVal p.requireGenuine, u32 p.interval, u32 p.threshold, u32 p.lowMark]

/-- Replace the policy and test the debit threshold of every slot (R162). -/
def setPolicy (t : TonerPolicy) (s : State) : State :=
  allPlanes.foldl (fun s p => thresholdTest p s) { s with cartridges := { s.cartridges with policy := t } }

/-- TONER POLICY (R162). -/
def tonerPolicy (e : OrderEntry) (s : State) : OrderAnswer × State :=
  if 65535 < e.policy.interval ∨ e.policy.threshold = 0 then (.refused .badArg [], s)
  else (.done (policyVals s.cartridges.policy ++ policyVals e.policy), setPolicy e.policy s)

/-- TONER_POLICY executed. -/
def execTonerPolicy (s : State) : Host.Outcome State Fault Refusal := runOrder (isKind 0x52#8) tonerPolicy s

end Sys2Proof.Machine
end

