-- ==== Sys2Proof/Machine/Events.lean ====
section
/-! DEFINITION. The commands that are events of the channel, the memory port, the side mark and the return
writer, and the steps that the rules make part of other events. -/

namespace Sys2Proof.Machine

/-! ### Resets -/

/-- COLD_RESET (R4, R20, R21, R39, R57, R79, R93, R119, R140, R163, R177, R185): every block takes its
cold-reset values with the straps sampled anew. The fuse values, page memory, the presence inputs and what
waits on the channel stay (the last two DESIGN CHOICE, log entry 8). -/
def execColdReset (memsize : Fin 4) (ctlpos : Fin 2) (s : State) : Host.Outcome State Fault Refusal :=
  .next
    { State.afterColdReset memsize ctlpos with
      pending := s.pending
      fuses := s.fuses
      draws := s.draws
      mem := s.mem
      channel := { ChannelFront.reset with
        waiting := s.channel.waiting, nextId := s.channel.nextId, returned := s.channel.returned }
      accounts := { AccountTable.reset with tagged := s.accounts.tagged }
      cartridges := { Cartridges.reset with pins := s.cartridges.pins } }

/-- RESET_EVENT (R175): the warm reset, when a drained reset wait lasts and no line of the return writer is on
its way. The events that end a reset wait carry it out themselves. -/
def execResetEvent (s : State) : Host.Outcome State Fault Refusal :=
  match s.orders.resetWait with
  | none => .next s
  | some w => eventIf (s.drainComplete && !s.writerBusy) (warmReset w) s

/-! ### Arrivals -/

/-- LINE_REQUEST (R3, R5). -/
def execLineRequest (tag : Fin 64) (line : Nat) (access : Access) (s : State) : Host.Outcome State Fault Refusal :=
  event (present { tag, line, access }) s

/-- RING_HEADER_WRITE (R181): a write to control line 1 arrives. -/
def execRingHeaderWrite (tag : Fin 64) (mask : ByteMask) (data : Line) (s : State) :
    Host.Outcome State Fault Refusal :=
  event (present { tag, line := s.classifier.controlBase + 1, access := .write mask data }) s

/-- ORDER_TAKE (R165, R166): a full-line write to a control line arrives; it is taken at its arrival or, when the
queue is full, in the event that frees a place. -/
def execOrderTake (tag : Fin 64) (window : Nat) (data : Line) (s : State) : Host.Outcome State Fault Refusal :=
  event (present { tag, line := s.classifier.controlBase + window, access := .write fullMask data }) s

/-! ### Grants of the memory port -/

/-- UPSTREAM_GRANT (R17, R18). -/
def execUpstreamGrant (s : State) : Host.Outcome State Fault Refusal :=
  eventIf (!s.port.upstream.isEmpty && s.upstreamTurn) grantUpstream s

/-- MERGE_READ_ISSUE (R49): an entry in ORDERING issues its read when no earlier request to its line waits. The
events that end the wait carry it out themselves. -/
def execMergeReadIssue (entry : Fin 8) (s : State) : Host.Outcome State Fault Refusal :=
  event (issueRead entry) s

/-- MERGE_READ_GRANT (R49). -/
def execMergeReadGrant (s : State) : Host.Outcome State Fault Refusal :=
  match s.ownHead with
  | some (.mergeRead i) => event (fun s => grantMergeRead i (grantOwn s)) s
  | _ => .next s

/-- MERGE_WRITEBACK_ACCEPT (R50). -/
def execMergeWritebackAccept (s : State) : Host.Outcome State Fault Refusal :=
  match s.ownHead with
  | some (.mergeWrite i) => event (fun s => acceptMergeWrite i (grantOwn s)) s
  | _ => .next s

/-- RETURN_ACCEPT (R179). -/
def execReturnAccept (s : State) : Host.Outcome State Fault Refusal :=
  match s.ownHead with
  | some (.ret o l) => event (fun s => acceptReturn o l (grantOwn s)) s
  | _ => .next s

/-- HEADER_REWRITE_GRANT (R181). -/
def execHeaderRewriteGrant (s : State) : Host.Outcome State Fault Refusal :=
  match s.ownHead with
  | some .header => event (fun s => writeHeader (grantOwn s)) s
  | _ => .next s

/-- SUMMARY_REWRITE_GRANT (R182). -/
def execSummaryRewriteGrant (s : State) : Host.Outcome State Fault Refusal :=
  match s.ownHead with
  | some .summary => event (fun s => writeSummary (grantOwn s)) s
  | _ => .next s

/-! ### The side mark, and steps that the rules make part of other events (DEDUCED, log entry 3) -/

/-- SIDE_MARK (R100). -/
def execSideMark (s : State) : Host.Outcome State Fault Refusal := event takeMark s

/-- METERS_SWITCH (R89): the pending copy becomes live. SIDE_MARK carries it out at its place in the mark; on its
own it takes place only while no side is METERING. -/
def execMetersSwitch (s : State) : Host.Outcome State Fault Refusal :=
  eventIf (s.store.pending.isSome && s.meteringSide.isNone) switchPending s

/-- REGION_REMOVE_ATTEMPT (R11): the attempt of a parked removal whose region has no merge in flight. -/
def execRegionRemoveAttempt (slot : Fin 32) (s : State) : Host.Outcome State Fault Refusal :=
  event (attemptRemove slot) s

/-- JOB_CLOSE_COMPLETION (R37, R38): a completion attempt of the slot. -/
def execJobCloseCompletion (slot : Fin 16) (s : State) : Host.Outcome State Fault Refusal :=
  event (attemptClose slot) s

end Sys2Proof.Machine
end

