-- ==== Sys2Proof/Machine/JobOrders.lean ====
section
/-! DEFINITION. The orders of the job table (R23 to R31, R34 to R36). -/

namespace Sys2Proof.Machine

/-! ### JOB OPEN (R26, R27) -/

/-- The key that JOB OPEN would install: unwrapped when a wrapped key is given, otherwise the next draw. -/
def openKey (e : OrderEntry) (kind : JobKind) (s : State) : Option Key :=
  if e.flag 10 then unwrapKey s.fuses.deviceKey kind (e.bits 11 40) else some (Config.randomBits s.draws)

/-- The state after the draw of the key, when it is drawn. -/
def afterOpenDraw (e : OrderEntry) (s : State) : State := if e.flag 10 then s else (drawRandom s).2

/-- The record that JOB OPEN makes (R27). -/
def newJob (tag : Nat) (kind : JobKind) (owner : Fin 64) (key : Key) : Job :=
  { state := .active, tag, kind, owner, release := .sealed, key, regions := 0, sides := 0, merges := 0,
    lines := 0, enciphered := 0, settled := 0, closePending := false, voidRequested := false }

/-- A user record is SUSPENDED. -/
def User.suspended (u : User) : Bool := decide (u.state = .suspended)

/-- The lowest-numbered FREE job slot (R27). -/
def State.freeJobSlot (s : State) : Option (Fin 16) := firstIndex fun i => s.jobs[i].isNone

/-- JOB OPEN with arguments that are in range: checks 2 to 7 of R26, then R27. The RESULT says 1 for an unwrapped key
and 0 for a drawn one, a DUPLICATE carries no values, and a refusal after the user id is resolved carries id and slot
(R120): all three are DESIGN CHOICE (log entry 13). -/
def openJob (e : OrderEntry) (kind : JobKind) (s : State) : OrderAnswer × State :=
  let tag := e.num 3 2
  let id := e.num 6 4
  if s.accountsBusy then (.refused .busy [], s)
  else if (s.jobWithTag tag).isSome then (.refused .duplicate [], s)
  else match s.freeJobSlot with
    | none => (.refused .noSlot [], s)
    | some i => match s.userWithId id with
      | none => (.refused .noUser [], s)
      | some u =>
        if (s.accounts.users[u].map User.suspended).getD false then
          (.refused .userState (userNames u id), s)
        else match openKey e kind s with
          | none => (.refused .badWrap (userNames u id), s)
          | some key =>
            let s1 := afterOpenDraw e s
            (.done [u8 i.val, u16 tag, u8 kind.code, u32 id, u8 u.val, flagVal (e.flag 10)],
              { s1 with jobs := put s1.jobs i (some (newJob tag kind u key)) })

/-- JOB OPEN (R26, R27). -/
def jobOpen (e : OrderEntry) (s : State) : OrderAnswer × State :=
  match JobKind.ofCode (e.num 5 1) with
  | none => (.refused .badArg [], s)
  | some kind =>
    if e.num 3 2 = 0 ∨ e.num 6 4 = 0 then (.refused .badArg [], s) else openJob e kind s

/-- JOB_OPEN executed. -/
def execJobOpen (s : State) : Host.Outcome State Fault Refusal := runOrder (isKind 0x10#8) jobOpen s

/-! ### Orders that name a job by its tag (R23) -/

/-- Resolve a job tag, then carry on with the slot and its record (R23). -/
def withJob (tag : Nat) (s : State) (go : Fin 16 → Job → OrderAnswer × State) : OrderAnswer × State :=
  if tag = 0 then (.refused .badArg [], s)
  else match s.jobWithTag tag with
    | none => (.refused .noJob [], s)
    | some i => match s.jobs[i] with
      | none => (.refused .noJob [], s)
      | some j => go i j

/-- Set the release state of a job (R28, R29). The RESULT has tag and slot before the two release states: DESIGN CHOICE
(log entry 13). -/
def setRelease (r : Release) (e : OrderEntry) (s : State) : OrderAnswer × State :=
  withJob (e.num 3 2) s fun i j =>
    (.done (jobNames i j ++ [u8 j.release.code, u8 r.code]), s.onJob i fun x => { x with release := r })

/-- JOB_RELEASE executed (R28). -/
def execJobRelease (s : State) : Host.Outcome State Fault Refusal :=
  runOrder (isKind 0x11#8) (setRelease .released) s

/-- JOB_SEAL executed (R29). -/
def execJobSeal (s : State) : Host.Outcome State Fault Refusal := runOrder (isKind 0x12#8) (setRelease .sealed) s

/-- JOB KEY EXPORT (R30). -/
def jobKeyExport (e : OrderEntry) (s : State) : OrderAnswer × State :=
  withJob (e.num 3 2) s fun i j =>
    if j.state = .closing then (.refused .jobState (jobNames i j), s)
    else
      let wrapped := wrapKey s.fuses.deviceKey s.draws j.key j.kind
      (.done [u8 i.val, u16 j.tag, u8 j.kind.code, { width := 40, value := wrapped.toNat }], (drawRandom s).2)

/-- JOB_KEY_EXPORT executed. -/
def execJobKeyExport (s : State) : Host.Outcome State Fault Refusal := runOrder (isKind 0x13#8) jobKeyExport s

/-- What JOB QUERY reports of a slot that is not FREE (R31). -/
def jobReport (i : Fin 16) (j : Job) (s : State) : List Val :=
  [u8 i.val, u8 j.state.code, u16 j.tag, u8 j.kind.code, u8 j.owner.val, u32 (s.userId j.owner),
    u8 j.release.code, u8 1, u8 j.regions, u8 j.sides, u8 j.merges, u32 j.lines, u32 j.enciphered, u32 j.settled,
    flagVal j.closePending, flagVal j.voidRequested]

/-- JOB QUERY of a slot number (R31): state FREE and key state ERASED for a FREE slot. -/
def queryJobSlot (i : Fin 16) (s : State) : OrderAnswer × State :=
  match s.jobs[i] with
  | some j => (.done (jobReport i j s), s)
  | none => (.done [u8 0, u8 0], s)

/-- JOB QUERY (R31). -/
def jobQuery (e : OrderEntry) (s : State) : OrderAnswer × State :=
  match e.num 3 1 with
  | 0 => withJob (e.num 4 2) s fun i j => (.done (jobReport i j s), s)
  | 1 => match indexOf 16 (e.num 4 1) with
    | some i => queryJobSlot i s
    | none => (.refused .badArg [], s)
  | _ => (.refused .badArg [], s)

/-- JOB_QUERY executed. -/
def execJobQuery (s : State) : Host.Outcome State Fault Refusal := runOrder (isKind 0x14#8) jobQuery s

/-! ### JOB CLOSE (R34 to R36) -/

/-- The ADMITTED sides of a job, in the order of their admission (R36). -/
def State.admittedOf (s : State) (i : Fin 16) : List Side :=
  s.sides.records.filter fun r => decide (r.state = .admitted) && decide (r.jobSlot = i)

/-- The sides that a JOB CLOSE voids (R34 step 2, R36). -/
def sidesToVoid (i : Fin 16) (void : Bool) (s : State) : List Side := if void then s.admittedOf i else []

/-- JOB CLOSE that is not refused (R34). -/
def closeJob (e : OrderEntry) (i : Fin 16) (s : State) : State :=
  let void := e.flag 5
  let voided := sidesToVoid i void s
  let closing := (s.park e (.job i voided.length)).onJob i fun x =>
    { x with state := .closing, closePending := true, voidRequested := void }
  attemptClose i (voided.foldl (fun s r => voidSide r s) closing)

/-- JOB CLOSE (R34). -/
def jobClose (e : OrderEntry) (s : State) : OrderAnswer × State :=
  withJob (e.num 3 2) s fun i j =>
    if j.state = .closing then (.refused .jobState (jobNames i j), s)
    else if s.parkedFull then (.refused .busy (jobNames i j), s)
    else (.parked, closeJob e i s)

/-- JOB_CLOSE executed. -/
def execJobClose (s : State) : Host.Outcome State Fault Refusal := runOrder (isKind 0x15#8) jobClose s

end Sys2Proof.Machine
end

