-- ==== Sys2Proof/Machine/MeterOrders.lean ====
section
/-! DEFINITION. The orders of the coverage meter and of the meter parameter store (R77, R83 to R88, R92). -/

namespace Sys2Proof.Machine

/-! ### METERS FLUSH (R77) -/

/-- The planes whose unattributed record has its saturated flag set. -/
def saturatedPlanes (s : State) : PlaneSet := planesWhere fun p => s.unattributed[p].saturated

/-- METERS FLUSH (R77), with the RESULT that R186 lays out. -/
def metersFlush (_ : OrderEntry) (s : State) : OrderAnswer × State :=
  (.done
    ((allPlanes.map fun p => { width := 5, value := s.unattributed[p].sum }) ++
      (allPlanes.map fun p => u32 s.unattributed[p].tally) ++
      (allPlanes.map fun p => u32 (unattributedDraw s p)) ++
      [planesVal (saturatedPlanes s), u16 s.store.liveGen]),
    convertUnattributed s)

/-- METERS_FLUSH executed. -/
def execMetersFlush (s : State) : Host.Outcome State Fault Refusal := runOrder (isKind 0x20#8) metersFlush s

/-! ### The load orders (R83 to R86) -/

/-- Replace the staged set and report whether it differs from the live set, after the given values. -/
def stage (set : ParamSet) (values : List Val) (s : State) : OrderAnswer × State :=
  let store := { s.store with staged := set }
  (.done (values ++ [flagVal store.differs]), { s with store := store })

/-- The 17 points of CURVE LOAD (R187). -/
def OrderEntry.curve (e : OrderEntry) : Vector Nat 17 := Vector.ofFn fun i => e.num (4 + 2 * i.val) 2

/-- Every point is in range and no point is less than the one before it (R81, R83). -/
def goodCurve (c : Vector Nat 17) : Bool :=
  c.toList.all (fun x => decide (x ≤ 4095)) &&
    (List.range 16).all fun i => decide (curvePoint c i ≤ curvePoint c (i + 1))

/-- CURVE LOAD (R83). -/
def curveLoad (e : OrderEntry) (s : State) : OrderAnswer × State :=
  match indexOf 4 (e.num 3 1) with
  | none => (.refused .badArg [], s)
  | some p =>
    if goodCurve e.curve then
      stage { s.store.staged with curves := put s.store.staged.curves p e.curve } [u8 p.val] s
    else (.refused .geometry [], s)

/-- CURVE_LOAD executed. -/
def execCurveLoad (s : State) : Host.Outcome State Fault Refusal := runOrder (isKind 0x21#8) curveLoad s

/-- The draw factor that FACTORS LOAD gives for a plane (R187). -/
def OrderEntry.factor (e : OrderEntry) (p : Plane) : Nat := e.num (4 + 4 * p.val) 4

/-- The factors after a FACTORS LOAD: given ones for the selected planes, staged ones for the others (R84). -/
def loadedFactors (e : OrderEntry) (old : Vector Nat 4) : Vector Nat 4 :=
  Vector.ofFn fun p => if hasPlane (e.planes 3) p then e.factor p else old[p]

/-- FACTORS LOAD (R84). -/
def factorsLoad (e : OrderEntry) (s : State) : OrderAnswer × State :=
  if e.planes 3 = 0 ∨ allPlanes.any (fun p => hasPlane (e.planes 3) p && decide (65535 < e.factor p)) then
    (.refused .badArg [], s)
  else
    let factors := loadedFactors e s.store.staged.factors
    stage { s.store.staged with factors } (factors.toList.map u32) s

/-- FACTORS_LOAD executed. -/
def execFactorsLoad (s : State) : Host.Outcome State Fault Refusal := runOrder (isKind 0x22#8) factorsLoad s

/-- CLASSES LOAD (R85). -/
def classesLoad (e : OrderEntry) (s : State) : OrderAnswer × State :=
  let threshold := e.num 3 2
  let bound1 := e.num 5 2
  let bound2 := e.num 7 2
  if 10000 < threshold ∨ bound2 < bound1 ∨ 40000 < bound2 ∨ 15 < e.num 9 1 then (.refused .badArg [], s)
  else
    stage { s.store.staged with colourThreshold := threshold, bound1, bound2, mask := e.planes 9 }
      [u16 threshold, u16 bound1, u16 bound2, planesVal (e.planes 9)] s

/-- CLASSES_LOAD executed. -/
def execClassesLoad (s : State) : Host.Outcome State Fault Refusal := runOrder (isKind 0x23#8) classesLoad s

/-- The six entries of PRICES LOAD (R86, R187). -/
def OrderEntry.prices (e : OrderEntry) : Vector Nat 6 := Vector.ofFn fun i => e.num (3 + 4 * i.val) 4

/-- PRICES LOAD (R86). -/
def pricesLoad (e : OrderEntry) (s : State) : OrderAnswer × State :=
  if e.prices.toList.any fun x => decide (65535 < x) then (.refused .badArg [], s)
  else stage { s.store.staged with prices := e.prices } [] s

/-- PRICES_LOAD executed. -/
def execPricesLoad (s : State) : Host.Outcome State Fault Refusal := runOrder (isKind 0x24#8) pricesLoad s

/-! ### METERS APPLY (R87, R88) -/

/-- The pending copy becomes the staged set as it stands, under the order's serial (R87). -/
def setPending (e : OrderEntry) (s : State) : State :=
  { s with store := { s.store with pending := some { set := s.store.staged, serial := e.serial } } }

/-- An order takes the place of the first WAITING entry that is the pending METERS APPLY (R87). It keeps that place
among the RESET answers of a warm reset too: DESIGN CHOICE (log entry 23). -/
def replaceSwitch (e : OrderEntry) : List ParkedOrder → List ParkedOrder
  | [] => []
  | p :: rest =>
    if p.object.isSwitch then { kind := e.kind, serial := e.serial, window := e.window, object := .switch } :: rest
    else p :: replaceSwitch e rest

/-- The earlier pending order completes SUPERSEDED and the order takes its place in the list (R87). -/
def supersede (e : OrderEntry) (s : State) : State :=
  match s.orders.parked.find? fun p => p.object.isSwitch with
  | none => s
  | some p =>
    { s with orders :=
      { s.orders with
        parked := replaceSwitch e s.orders.parked
        completed := s.orders.completed ++ [p.result (some .superseded) []] } }

/-- METERS APPLY without the now option (R87). -/
def metersApply (e : OrderEntry) (s : State) : OrderAnswer × State :=
  if s.store.pending.isSome then (.parked, setPending e (supersede e s))
  else if s.parkedFull then (.refused .busy [], s)
  else (.parked, setPending e (s.park e .switch))

/-- METERS_APPLY executed. -/
def execMetersApply (s : State) : Host.Outcome State Fault Refusal :=
  runOrder (fun e => isKind 0x25#8 e && !e.flag 3) metersApply s

/-- METERS APPLY with the now option (R88). -/
def metersApplyNow (_ : OrderEntry) (s : State) : OrderAnswer × State :=
  if s.meteringSide.isSome then (.refused .busy [], s)
  else
    let switched := { s with store :=
      { s.store with live := s.store.staged, liveGen := s.store.stagedGen, pending := none } }
    (.done (switchVals s.store),
      if s.store.pending.isSome then switched.completeParked ParkObject.isSwitch (some .superseded) []
      else switched)

/-- METERS_APPLY_NOW executed. -/
def execMetersApplyNow (s : State) : Host.Outcome State Fault Refusal :=
  runOrder (fun e => isKind 0x25#8 e && e.flag 3) metersApplyNow s

/-! ### METERS QUERY (R92, R189) -/

/-- The set that a selector names, none for the PENDING set while the pending flag is clear (R92). -/
def selectSet (m : MeterStore) (selector : Nat) : Option ParamSet :=
  match selector with
  | 0 => some m.live
  | 1 => some m.staged
  | _ => m.pending.map fun c => c.set

/-- The generations, the pending flag and a curve (R189, parts 0 to 3), in the order of R189's table and not in that of
R92's list: DESIGN CHOICE (log entry 13). -/
def curveReport (m : MeterStore) (c : Vector Nat 17) : List Val :=
  [u16 m.liveGen, u16 m.stagedGen, flagVal m.pending.isSome] ++ c.toList.map u16

/-- All other values of R92 (R189, part 4). -/
def setReport (m : MeterStore) (p : ParamSet) : List Val :=
  p.factors.toList.map u32 ++ [u16 p.colourThreshold, u16 p.bound1, u16 p.bound2] ++ p.prices.toList.map u32 ++
    [planesVal p.mask, flagVal m.differs] ++ optVal 2 (m.pending.map fun c => c.serial.toNat)

/-- METERS QUERY (R92). -/
def metersQuery (e : OrderEntry) (s : State) : OrderAnswer × State :=
  let part := e.num 4 1
  if 2 < e.num 3 1 ∨ 4 < part then (.refused .badArg [], s)
  else match selectSet s.store (e.num 3 1) with
    | none => (.refused .noPending [], s)
    | some p => match indexOf 4 part with
      | some q => (.done (curveReport s.store p.curves[q]), s)
      | none => (.done (setReport s.store p), s)

/-- METERS_QUERY executed. -/
def execMetersQuery (s : State) : Host.Outcome State Fault Refusal := runOrder (isKind 0x26#8) metersQuery s

end Sys2Proof.Machine
end

