-- ==== Sys2Proof/Machine/NoticeOrders.lean ====
section
/-! DEFINITION. The orders of the order taker: NOTICES ACK (R172), NOTICES ENABLE (R173), PART RESET (R174), and the
entry whose kind names no order (R168). -/

namespace Sys2Proof.Machine

/-- Every notice bit and the user map, as NOTICES ACK reports them (R172). -/
def noticeVals (w : ReturnWriter) : List Val := [u32 w.noticeBits.toNat, u64 w.userMap.toNat]

/-- Clear the named notices and user-map bits (R172). -/
def clearNotices (set : BitVec 32) (users : BitVec 64) (w : ReturnWriter) : ReturnWriter :=
  { w with notices := w.notices &&& ~~~set, userMap := w.userMap &&& ~~~users }

/-- NOTICES ACK (R172). The RESULT has notice bits and user map before the order, then both after it: DESIGN CHOICE (log
entry 13). -/
def noticesAck (e : OrderEntry) (s : State) : OrderAnswer × State :=
  if e.bits 3 4 &&& ~~~ackMask ≠ 0 then (.refused .badArg [], s)
  else
    let w := clearNotices (e.bits 3 4) (e.bits 7 8) s.writer
    (.done (noticeVals s.writer ++ noticeVals w), { s with writer := w })

/-- NOTICES_ACK executed. -/
def execNoticesAck (s : State) : Host.Outcome State Fault Refusal := runOrder (isKind 0x60#8) noticesAck s

/-- NOTICES ENABLE (R173). -/
def noticesEnable (e : OrderEntry) (s : State) : OrderAnswer × State :=
  if e.bits 3 4 &&& ~~~enableMask ≠ 0 then (.refused .badArg [], s)
  else
    (.done [u32 s.writer.enables.toNat, u32 (e.bits 3 4).toNat],
      { s with writer := { s.writer with enables := e.bits 3 4 } })

/-- NOTICES_ENABLE executed. -/
def execNoticesEnable (s : State) : Host.Outcome State Fault Refusal := runOrder (isKind 0x61#8) noticesEnable s

/-! ### PART RESET (R174) -/

/-- PART RESET enters the reset wait (R174); no waiting write is taken in this event (R166). -/
def enterResetWait (e : OrderEntry) (rest : List OrderEntry) (s : State) : State :=
  let wait := { serial := e.serial, window := e.window, drained := false }
  { s with orders := { s.orders with queue := rest, resetWait := some wait } }

/-- PART_RESET executed (R174): the stages of the wait are taken at the end of the event. -/
def execPartReset (s : State) : Host.Outcome State Fault Refusal :=
  match s.orders.queue with
  | [] => .next s
  | e :: rest => eventIf (s.takerReady && isKind 0x62#8 e) (enterResetWait e rest) s

/-! ### BAD_ORDER (R168) -/

/-- An entry whose kind names no order is refused; its RESULT carries the kind as written (R168). -/
def refuseKind (_ : OrderEntry) (s : State) : OrderAnswer × State := (.refused .badOrder [], s)

/-- BAD_ORDER: the entry at the head names no order (R168). -/
def execBadOrder (s : State) : Host.Outcome State Fault Refusal :=
  runOrder (fun e => decide (e.kind ∉ orderKinds)) refuseKind s

end Sys2Proof.Machine
end

