-- ==== Sys2Proof/Machine/RegionOrders.lean ====
section
/-! DEFINITION. The orders of the classifier: SOURCE SET, REGION DEFINE, REGION REMOVE, REGION QUERY (R8 to R12). -/

namespace Sys2Proof.Machine

/-- SOURCE SET (R8). -/
def sourceSet (e : OrderEntry) (s : State) : OrderAnswer × State :=
  match indexOf 64 (e.num 3 1), SourceClass.ofCode (e.num 4 1) with
  | some t, some c =>
    (.done [u8 t.val, u8 s.classifier.sources[t].code, u8 c.code],
      { s with classifier := { s.classifier with sources := put s.classifier.sources t c } })
  | _, _ => (.refused .badArg [], s)

/-- SOURCE_SET executed. -/
def execSourceSet (s : State) : Host.Outcome State Fault Refusal := runOrder (isKind 0x01#8) sourceSet s

/-! ### REGION DEFINE (R10) -/

/-- The arguments of REGION DEFINE (R187). -/
structure RegionForm where
  slot : Nat
  base : Nat
  size : Nat
  kind : Nat
  tag : Option Nat
  plane : Nat
  depth : Nat
  rowLength : Nat
  deriving DecidableEq, Repr

/-- The arguments of a REGION DEFINE entry. -/
def OrderEntry.regionForm (e : OrderEntry) : RegionForm :=
  { slot := e.num 3 1, base := e.num 4 4, size := e.num 8 4, kind := e.num 12 1
    tag := if e.flag 13 then some (e.num 14 2) else none
    plane := e.num 16 1, depth := e.num 17 1, rowLength := e.num 18 2 }

/-- Check 1 of R10 fails. -/
def RegionForm.badArg (f : RegionForm) : Bool :=
  decide (31 < f.slot) || decide (1 < f.kind) || decide (f.size = 0) || decide (f.tag = some 0) ||
    (decide (f.kind = 1) && (decide (3 < f.plane) || decide (f.rowLength = 0)))

/-- Two ranges of lines share a line. -/
def rangesMeet (base size base' size' : Nat) : Bool := decide (base < base' + size') && decide (base' < base + size)

/-- Check 4 of R10 fails: the range meets the control area or a region in use. -/
def RegionForm.overlaps (f : RegionForm) (c : Classifier) : Bool :=
  rangesMeet f.base f.size c.controlBase 512 ||
    c.regions.toList.any fun x => match x with
      | some r => rangesMeet f.base f.size r.base r.size
      | none => false

/-- The job slot that the given tag names, when a tag is given (R23). -/
def RegionForm.jobSlot (f : RegionForm) (s : State) : Option (Fin 16) := f.tag.bind s.jobWithTag

/-- Check 6 of R10 fails. -/
def RegionForm.jobNotActive (f : RegionForm) (s : State) : Bool :=
  match f.jobSlot s with
  | some i => match s.jobs[i] with
    | some j => decide (j.state ≠ .active)
    | none => false
  | none => false

/-- The geometry of a band is permitted (check 7 of R10). -/
def goodGeometry (depth rowLength size : Nat) : Bool :=
  decide (depth = 1 ∨ depth = 2 ∨ depth = 4 ∨ depth = 8) &&
    decide (2048 ≤ rowLength * (512 / depth)) && decide (rowLength * (512 / depth) ≤ 65536) &&
    decide (size % rowLength = 0) && decide (8 * rowLength ≤ size)

/-- Check 8 of R10 fails: a band of the same plane with another depth or row length is in use. -/
def RegionForm.mismatches (f : RegionForm) (c : Classifier) : Bool :=
  c.regions.toList.any fun x => match x with
    | some { kind := .band p d n, .. } =>
      decide (p.val = f.plane) && (decide (d ≠ f.depth) || decide (n ≠ f.rowLength))
    | _ => false

/-- The checks of REGION DEFINE in order (R10). -/
def RegionForm.checks (f : RegionForm) (s : State) : List (Reason × Bool) :=
  [(.badArg, f.badArg),
   (.inUse, match indexOf 32 f.slot with | some i => s.classifier.regions[i].isSome | none => false),
   (.range, decide (s.classifier.memLines < f.base + f.size)),
   (.overlap, f.overlaps s.classifier),
   (.noJob, f.tag.isSome && (f.jobSlot s).isNone),
   (.jobState, f.jobNotActive s),
   (.geometry, decide (f.kind = 1) && !goodGeometry f.depth f.rowLength f.size),
   (.mismatch, decide (f.kind = 1) && f.mismatches s.classifier)]

/-- The record that REGION DEFINE makes (R10). -/
def RegionForm.record (f : RegionForm) (s : State) : Region :=
  { uid := s.classifier.nextUid, state := .live, base := f.base, size := f.size
    kind := if f.kind = 1 then .band (Fin.ofNat 4 f.plane) f.depth f.rowLength else .priv
    job := f.jobSlot s, refusals := 0 }

/-- A region record takes a free slot, and a bound region joins its job's count (R10, R32). -/
def installRegion (i : Fin 32) (r : Region) (s : State) : State :=
  let installed := { s with classifier :=
    { s.classifier with
      regions := put s.classifier.regions i (some r)
      nextUid := s.classifier.nextUid + 1 } }
  match r.job with
  | some j => installed.onJob j fun x => { x with regions := x.regions + 1 }
  | none => installed

/-- REGION DEFINE (R10). -/
def regionDefine (e : OrderEntry) (s : State) : OrderAnswer × State :=
  let f := e.regionForm
  match indexOf 32 f.slot with
  | none => (.refused .badArg [], s)
  | some i => checked (f.checks s) s (.done [u8 i.val], installRegion i (f.record s) s)

/-- REGION_DEFINE executed. -/
def execRegionDefine (s : State) : Host.Outcome State Fault Refusal := runOrder (isKind 0x02#8) regionDefine s

/-! ### REGION REMOVE (R11) and REGION QUERY (R12) -/

/-- REGION REMOVE (R11). -/
def regionRemove (e : OrderEntry) (s : State) : OrderAnswer × State :=
  match indexOf 32 (e.num 3 1) with
  | none => (.refused .badArg [], s)
  | some i => match s.classifier.regions[i] with
    | none => (.refused .noRegion [], s)
    | some r =>
      checked [(.busy, s.hasParked (ParkObject.isRegion i)), (.busy, s.planeMetering r.kind),
        (.busy, s.parkedFull)] s (.parked, attemptRemove i (s.park e (.region i)))

/-- REGION_REMOVE executed. -/
def execRegionRemove (s : State) : Host.Outcome State Fault Refusal := runOrder (isKind 0x03#8) regionRemove s

/-- The binding of a region as slot and tag (R12), behind one flag byte for both: DESIGN CHOICE (log entry 13). -/
def bindingVals (r : Region) (s : State) : List Val :=
  match r.job with
  | some i => [flagVal true, u8 i.val, u16 (match s.jobs[i] with | some j => j.tag | none => 0)]
  | none => [flagVal false, u8 0, u16 0]

/-- What REGION QUERY reports of a slot (R12). -/
def regionReport (i : Fin 32) (s : State) : List Val :=
  match s.classifier.regions[i] with
  | none => [u8 0]
  | some r =>
    [u8 r.state.code, u32 r.base, u32 r.size, u8 r.kind.code] ++ bindingVals r s ++
      [u16 r.refusals] ++ r.kind.vals ++ [u8 (s.mergesOn r.uid), flagVal (s.hasParked (ParkObject.isRegion i))]

/-- REGION QUERY (R12). -/
def regionQuery (e : OrderEntry) (s : State) : OrderAnswer × State :=
  match indexOf 32 (e.num 3 1) with
  | none => (.refused .badArg (sizeVals s), s)
  | some i =>
    (.done (regionReport i s ++ sizeVals s),
      if e.flag 4 then s.onRegion i fun r => { r with refusals := 0 } else s)

/-- REGION_QUERY executed. -/
def execRegionQuery (s : State) : Host.Outcome State Fault Refusal := runOrder (isKind 0x04#8) regionQuery s

end Sys2Proof.Machine
end

