-- ==== Sys2Proof/Machine/SideOrders.lean ====
section
/-! DEFINITION. The orders of the side list: SIDE BEGIN (R90, R96 to R99), SIDE CANCEL (R113), SIDE JAM (R115) and
READOUT POLICY (R107). -/

namespace Sys2Proof.Machine

/-! ### What an admission reads (R90, R97, R98) -/

/-- The arguments of SIDE BEGIN that are in range. -/
structure SideForm where
  tag : Nat
  mode : SideMode
  face : Face
  rows : Nat
  deriving DecidableEq, Repr

/-- The arguments of a SIDE BEGIN entry, none when check 1 of R97 fails. -/
def OrderEntry.sideForm (e : OrderEntry) : Option SideForm :=
  match SideMode.ofCode (e.num 5 1), Face.ofCode (e.num 6 1) with
  | some mode, some face =>
    if e.num 3 2 = 0 then none else some { tag := e.num 3 2, mode, face, rows := e.num 7 4 }
  | _, _ => none

/-- The effective mode and DOWNGRADED (R97). -/
def effectiveMode (m : SideMode) (colour : Bool) : SideMode × Bool :=
  if m = .auto ∧ colour = false then (.mono, true) else (m, false)

/-- The plane set of a mode (R95). -/
def planesOfMode : SideMode → PlaneSet
  | .mono => 0x8#4
  | .colour => 0xF#4
  | .auto => 0xF#4

/-- The largest entry of one row of the price table (R90). -/
def rowReserve (set : ParamSet) (c : SideClass) : Nat :=
  max set.prices[priceIndex c .light] (max set.prices[priceIndex c .standard] set.prices[priceIndex c .heavy])

/-- The reserve of an effective mode (R90). -/
def reserveOf (set : ParamSet) : SideMode → Nat
  | .mono => rowReserve set .mono
  | .colour => rowReserve set .colour
  | .auto => max (rowReserve set .mono) (rowReserve set .colour)

/-- The row length of a band for the side in a plane (R98). -/
def bandRow (job : Fin 16) (p : Plane) (r : Region) : Option Nat :=
  match r.state, r.kind with
  | .live, .band q _ n => if q = p ∧ (r.job = none ∨ r.job = some job) then some n else none
  | _, _ => none

/-- The row length of the plane's bands for a job's side, none without such a band (R98). -/
def State.rowLength (s : State) (job : Fin 16) (p : Plane) : Option Nat :=
  s.classifier.regions.toList.findSome? fun x => x.bind (bandRow job p)

/-- The first plane of a plane set, in plane order, for which the test holds. -/
def firstPlane (set : PlaneSet) (f : Plane → Bool) : Option Plane := allPlanes.find? fun p => hasPlane set p && f p

/-- The cartridge slot of a plane refuses a side (check 11 of R97). -/
def State.tonerRefuses (s : State) (p : Plane) : Bool :=
  let v := s.cartridges.slots[p].verdict
  decide (v = .rejected) || (hasPlane s.cartridges.policy.requireGenuine p && decide (v ≠ .genuine))

/-! ### Side ids (R96) -/

/-- The value after a side id (R96). -/
def idAfter (n : Nat) : Nat := if n = 65535 then 1 else n + 1

/-- The first value from `n` on that is not among the used ones, looked for `fuel` times (R96). -/
def freeId (used : List Nat) : Nat → Nat → Nat
  | 0, n => n
  | fuel + 1, n => if n ∈ used then freeId used fuel (idAfter n) else n

/-- The id that the next admitted side gets (R96). -/
def State.nextSideId (s : State) : Nat :=
  let used := s.sides.records.map fun r => r.id
  freeId used used.length s.sides.nextId

/-! ### SIDE BEGIN (R97, R99) -/

/-- The expected lines of each plane (R98). -/
def expectedLines (planes : PlaneSet) (rows : Nat) (job : Fin 16) (s : State) : Vector Nat 4 :=
  Vector.ofFn fun p => if hasPlane planes p then rows * (s.rowLength job p).getD 0 else 0

/-- The record that an admission appends (R99). -/
def newSide (f : SideForm) (i : Fin 16) (j : Job) (u : User) (s : State) : Side :=
  let m := effectiveMode f.mode u.colour
  { uid := s.sides.nextUid, id := s.nextSideId, jobSlot := i, jobTag := j.tag, userSlot := j.owner, userId := u.id
    mode := m.1, downgraded := m.2, face := f.face, rows := f.rows, planes := planesOfMode m.1
    expected := expectedLines (planesOfMode m.1) f.rows i s, reserve := reserveOf s.store.live m.1
    state := .admitted, generation := none, serials := Vector.replicate 4 none, context := none, blanked := 0
    figures := none, charge := none, outcome := none, capped := false, unproven := 0, partsWritten := 0 }

/-- The admission of a side (R99). -/
def admitSide (r : Side) (s : State) : State :=
  let listed := { s with sides :=
    { s.sides with
      records := s.sides.records ++ [r]
      nextId := idAfter r.id
      nextUid := s.sides.nextUid + 1 } }
  (warningTest r.userSlot (takeHold r.userSlot r.reserve listed)).onJob r.jobSlot fun j =>
    { j with sides := j.sides + 1 }

/-- The RESULT of an admission (R99). The expected lines of all four planes stand in it, 0 for a plane outside the plane
set: DESIGN CHOICE (log entry 13). -/
def admissionVals (r : Side) (occupancy : Nat) : List Val :=
  [u16 r.id, u8 r.mode.code, flagVal r.downgraded, planesVal r.planes] ++ r.expected.toList.map u32 ++
    [u16 r.reserve, u8 occupancy]

/-- Checks 5 to 12 of R97 for a job and its owner, and the admission. -/
def beginSide (f : SideForm) (i : Fin 16) (j : Job) (u : User) (s : State) : OrderAnswer × State :=
  let r := newSide f i j u s
  if j.state = .closing ∨ j.kind = .scan then (.refused .jobState [], s)
  else if j.kind = .print ∧ j.release = .sealed then (.refused .isSealed [], s)
  else match firstPlane r.planes fun p => (s.rowLength i p).isNone with
    | some p => (.refused .noBands [u8 p.val], s)
    | none =>
      if f.rows < 16 ∨ 65535 < f.rows then (.refused .geometry [], s)
      else if u.state = .suspended then (.refused .userState [], s)
      else if r.mode = .colour ∧ u.colour = false then (.refused .colourDenied [], s)
      else match firstPlane r.planes s.tonerRefuses with
        | some p => (.refused .toner [u8 p.val], s)
        | none =>
          if u.available - r.reserve < u.floor then
            (.refused .quota [i32 u.balance, u32 u.hold, i32 u.floor, u16 r.reserve], s)
          else (.done (admissionVals r (s.sides.records.length + 1)), admitSide r s)

/-- The job and its owner that SIDE BEGIN names; a job whose owner slot holds no record does not arise. -/
def sideJob (tag : Nat) (s : State) : Option (Fin 16 × Job × User) :=
  match s.jobWithTag tag with
  | none => none
  | some i => match s.jobs[i] with
    | none => none
    | some j => (s.accounts.users[j.owner]).map fun u => (i, j, u)

/-- SIDE BEGIN (R97, R99). -/
def sideBegin (e : OrderEntry) (s : State) : OrderAnswer × State :=
  match e.sideForm with
  | none => (.refused .badArg [], s)
  | some f =>
    if 8 ≤ s.sides.records.length then (.refused .full [u8 s.sides.records.length], s)
    else if s.accountsBusy then (.refused .busy [], s)
    else match sideJob f.tag s with
      | none => (.refused .noJob [], s)
      | some (i, j, u) => beginSide f i j u s

/-- SIDE_BEGIN executed. -/
def execSideBegin (s : State) : Host.Outcome State Fault Refusal := runOrder (isKind 0x30#8) sideBegin s

/-! ### SIDE CANCEL, SIDE JAM, READOUT POLICY -/

/-- The record of the side list with a side id. -/
def State.sideWithId (s : State) (id : Nat) : Option Side := s.sides.records.find? fun r => decide (r.id = id)

/-- SIDE CANCEL (R113). -/
def sideCancel (e : OrderEntry) (s : State) : OrderAnswer × State :=
  if e.num 3 2 = 0 then (.refused .badArg [], s)
  else match s.sideWithId (e.num 3 2) with
    | none => (.refused .noSide [], s)
    | some r => match r.state with
      | .settled => (.refused .noSide [], s)
      | .metering => (.refused .busy [], s)
      | .admitted => (.done [u16 r.id, u16 r.reserve], voidSide r s)

/-- SIDE_CANCEL executed. -/
def execSideCancel (s : State) : Host.Outcome State Fault Refusal := runOrder (isKind 0x31#8) sideCancel s

/-- SIDE JAM (R115). The coverages of all four planes stand in the RESULT, 0 for a plane outside the plane set: DESIGN
CHOICE (log entry 13). -/
def sideJam (e : OrderEntry) (s : State) : OrderAnswer × State :=
  if e.num 3 2 = 0 then (.refused .badArg [], s)
  else match s.meteringSide with
    | none => (.refused .noSide [], s)
    | some r =>
      if r.id = e.num 3 2 then
        (.done (u16 r.id :: (closeFigures s.store.live r).coverage.toList.map u16), closeSide r .jammed s)
      else (.refused .noSide [], s)

/-- SIDE_JAM executed. -/
def execSideJam (s : State) : Host.Outcome State Fault Refusal := runOrder (isKind 0x32#8) sideJam s

/-- READOUT POLICY (R107). -/
def readoutPolicy (e : OrderEntry) (s : State) : OrderAnswer × State :=
  if 1 < e.num 3 1 then (.refused .badArg [], s)
  else
    let strict := decide (e.num 3 1 = 1)
    (.done [flagVal s.sides.strict, flagVal strict], { s with sides := { s.sides with strict } })

/-- READOUT_POLICY executed. -/
def execReadoutPolicy (s : State) : Host.Outcome State Fault Refusal := runOrder (isKind 0x33#8) readoutPolicy s

end Sys2Proof.Machine
end

