-- ==== Sys2Proof/Machine/SnapshotOrders.lean ====
section
/-! DEFINITION. The orders that export and restore the accounts (R134 to R139). -/

namespace Sys2Proof.Machine

/-! ### ACCOUNTS EXPORT (R134) -/

/-- The copy of a user record (R134). -/
def copyUser (i : Fin 64) (u : User) : UserCopy :=
  { slot := i, id := u.id, state := u.state, colour := u.colour, credit := u.credit, spent := u.spent,
    floor := u.floor, warn := u.warn, counters := u.counters }

/-- The copy that an export takes (R134). -/
def takeSnapshot (s : State) : Snapshot :=
  { users := (List.finRange 64).filterMap fun i => (s.accounts.users[i]).map (copyUser i)
    retired := s.accounts.retired, meters := s.accounts.meters, totals := s.cartridges.totals }

/-- A content is tagged (R134), or its tag is found good (R138). -/
def tagContent (c : Snapshot) (s : State) : State :=
  { s with accounts := { s.accounts with tagged := addTagged s.accounts.tagged c } }

/-- ACCOUNTS EXPORT (R134). -/
def accountsExport (e : OrderEntry) (s : State) : OrderAnswer × State :=
  if !s.sides.records.isEmpty || s.accountsBusy || s.parkedFull then (.refused .busy [], s)
  else
    let copy := takeSnapshot s
    let tag := snapshotTagOf s.fuses.deviceKey s.accounts.tagged copy
    (.parked, (tagContent copy s).park e (.snapshot copy tag 0))

/-- ACCOUNTS_EXPORT executed. -/
def execAccountsExport (s : State) : Host.Outcome State Fault Refusal := runOrder (isKind 0x48#8) accountsExport s

/-! ### The restore buffer (R136, R137, R139) -/

/-- Open, replace or close the restore buffer. -/
def setRestore (b : Option RestoreBuffer) (s : State) : State :=
  { s with accounts := { s.accounts with restore := b } }

/-- RESTORE BEGIN (R136). -/
def restoreBegin (_ : OrderEntry) (s : State) : OrderAnswer × State :=
  if s.accountsBusy then (.refused .busy [], s)
  else if s.jobs.toList.any Option.isSome || !s.sides.records.isEmpty then (.refused .notPermitted [], s)
  else (.done [], setRestore (some { users := [], retired := none, parts := [] }) s)

/-- RESTORE_BEGIN executed. -/
def execRestoreBegin (s : State) : Host.Outcome State Fault Refusal := runOrder (isKind 0x49#8) restoreBegin s

/-- The number of records buffered: the meters record counts once all five parts have joined (R137). -/
def RestoreBuffer.recordCount (b : RestoreBuffer) : Nat :=
  b.users.length + (if b.retired.isSome then 1 else 0) + (if 5 ≤ b.parts.length then 1 else 0)

/-- `n` counters of four bytes from byte `o` of an order on. -/
def OrderEntry.counts (e : OrderEntry) (o n : Nat) : Vector Nat n := Vector.ofFn fun i => e.num (o + 4 * i.val) 4

/-- The USER record of a RESTORE ACCOUNT: bytes 3 to 63 of an ACCOUNT return (R187, R188). -/
def OrderEntry.userCopy (e : OrderEntry) : UserCopy :=
  { slot := Fin.ofNat 64 (e.num 3 1)
    id := e.num 4 4
    state := if (e.byte 3).getLsbD 6 then .suspended else .active
    colour := (e.byte 3).getLsbD 7
    credit := e.int 8 8, spent := e.num 16 8, floor := e.int 24 4, warn := e.int 28 4
    counters := e.counts 32 8 }

/-- The fields of a USER record are in range (check 2 of R137). -/
def UserCopy.inRange (u : UserCopy) : Bool :=
  decide (u.id ≠ 0) && decide (-2000000000 ≤ u.floor) && decide (u.floor ≤ 0) &&
    decide (-2000000000 ≤ u.warn) && decide (u.warn ≤ 2147483647) && decide (u.spent ≤ 2 ^ 62) &&
    decide (-2147483648 ≤ u.credit - u.spent) && decide (u.credit - u.spent ≤ 2147483647)

/-- A USER record comes in export order (check 3 of R137). -/
def userInOrder (b : RestoreBuffer) (u : UserCopy) : Bool :=
  b.retired.isNone && b.parts.isEmpty &&
    match b.users.getLast? with
    | some last => decide (last.slot < u.slot)
    | none => true

/-- The number of records now buffered, as the RESULTs of R137 carry it, in one byte, which holds its range of 0 to 66,
where the record count of a SNAPSHOT return has two: DESIGN CHOICE (log entry 13). -/
def RestoreBuffer.countVal (b : RestoreBuffer) : Val := u8 b.recordCount

/-- RESTORE ACCOUNT with kind USER (R137). -/
def restoreUser (e : OrderEntry) (s : State) : OrderAnswer × State :=
  match s.accounts.restore with
  | none => (.refused .noRestore [], s)
  | some b =>
    let u := e.userCopy
    let joined := { b with users := b.users ++ [u] }
    checked [(.badArg, !u.inRange), (.sequence, !userInOrder b u),
        (.duplicate, b.users.any fun x => decide (x.id = u.id))] s
      (.done [joined.countVal], setRestore (some joined) s)

/-- RESTORE_ACCOUNT_USER executed. -/
def execRestoreAccountUser (s : State) : Host.Outcome State Fault Refusal := runOrder (isKind 0x4A#8) restoreUser s

/-- RESTORE ACCOUNT with kind RETIRED (R137). -/
def restoreRetired (e : OrderEntry) (s : State) : OrderAnswer × State :=
  match s.accounts.restore with
  | none => (.refused .noRestore [], s)
  | some b =>
    let joined := { b with retired := some (e.counts 3 8) }
    checked [(.sequence, b.retired.isSome || !b.parts.isEmpty)] s
      (.done [joined.countVal], setRestore (some joined) s)

/-- RESTORE_ACCOUNT_RETIRED executed. -/
def execRestoreAccountRetired (s : State) : Host.Outcome State Fault Refusal :=
  runOrder (isKind 0x4B#8) restoreRetired s

/-- The part of the meters record that a RESTORE METERS carries (R187, R189). -/
def OrderEntry.metersPart (e : OrderEntry) : MetersPart :=
  if e.num 3 1 = 0 then
    .device { sides := e.counts 4 8, unaccounted := e.num 36 4, unattributed := e.counts 40 4, blanked := e.num 56 4 }
  else
    .plane { drawn := e.bits 4 8, confirmed := e.bits 12 8, unproven := e.bits 20 8, lost := e.bits 28 8 }

/-- RESTORE METERS (R137). -/
def restoreMeters (e : OrderEntry) (s : State) : OrderAnswer × State :=
  match s.accounts.restore with
  | none => (.refused .noRestore [], s)
  | some b =>
    let joined := { b with parts := b.parts ++ [e.metersPart] }
    checked [(.badArg, decide (4 < e.num 3 1)),
        (.sequence, b.retired.isNone || decide (e.num 3 1 ≠ b.parts.length))] s
      (.done [joined.countVal], setRestore (some joined) s)

/-- RESTORE_METERS executed. -/
def execRestoreMeters (s : State) : Host.Outcome State Fault Refusal := runOrder (isKind 0x4C#8) restoreMeters s

/-- The number of records that RESTORE ABANDON discards: a partly fed meters record counts as one (R139). -/
def RestoreBuffer.discarded (b : RestoreBuffer) : Nat :=
  b.users.length + (if b.retired.isSome then 1 else 0) + (if b.parts.isEmpty then 0 else 1)

/-- RESTORE ABANDON (R139). The number of discarded records has one byte: DESIGN CHOICE (log entry 13). -/
def restoreAbandon (_ : OrderEntry) (s : State) : OrderAnswer × State :=
  match s.accounts.restore with
  | none => (.refused .noRestore [], s)
  | some b => (.done [u8 b.discarded], setRestore none s)

/-- RESTORE_ABANDON executed. -/
def execRestoreAbandon (s : State) : Host.Outcome State Fault Refusal := runOrder (isKind 0x4E#8) restoreAbandon s

/-! ### RESTORE END (R138) -/

/-- The snapshot that a complete buffer holds. -/
def RestoreBuffer.snapshot (b : RestoreBuffer) : Option Snapshot :=
  match b.retired, b.parts with
  | some retired, [.device meters, .plane c, .plane m, .plane y, .plane k] =>
    some { users := b.users, retired, meters, totals := #v[c, m, y, k] }
  | _, _ => none

/-- The record that a restore installs (R138 step 1). -/
def restoredUser (u : UserCopy) : User :=
  { id := u.id, state := u.state, colour := u.colour, credit := u.credit, spent := u.spent, hold := 0,
    floor := u.floor, warn := u.warn, warned := false, counters := u.counters }

/-- The user table that a restore installs (R138 step 1). -/
def restoredUsers (us : List UserCopy) : Vector (Option User) 64 :=
  us.foldl (fun v u => put v u.slot (some (restoredUser u))) (Vector.replicate 64 none)

/-- The owed draw of a plane's absent-list entries. -/
def absentOwed (l : List AbsentEntry) (p : Plane) : Nat :=
  (l.map fun a => if a.plane = p then a.owed else 0).sum

/-- The owed draw of a plane's slot and of its absent-list entries (R138, R157). -/
def Cartridges.owed (c : Cartridges) (p : Plane) : Nat := c.slots[p].owed + absentOwed c.absent p

/-- The draw totals that a restore installs for a plane (R138 step 4). -/
def restoredTotals (c : Cartridges) (t : Vector DrawTotals 4) : Vector DrawTotals 4 :=
  Vector.ofFn fun p =>
    { t[p] with drawn := t[p].confirmed + t[p].unproven + t[p].lost + BitVec.ofNat 64 (c.owed p) }

/-- Install a snapshot (R138). -/
def installSnapshot (c : Snapshot) (s : State) : State :=
  let installed := { s with
    accounts :=
      { s.accounts with users := restoredUsers c.users, retired := c.retired, meters := c.meters, restore := none }
    cartridges := { s.cartridges with totals := restoredTotals s.cartridges c.totals } }
  (List.finRange 64).foldl (fun s i => warningTest i s) installed

/-- RESTORE END (R138). -/
def restoreEnd (e : OrderEntry) (s : State) : OrderAnswer × State :=
  match s.accounts.restore with
  | none => (.refused .noRestore [], s)
  | some b => match b.snapshot with
    | none => (.refused .sequence [], s)
    | some c =>
      if snapshotTagChecks s.fuses.deviceKey s.accounts.tagged (e.bits 3 32) c then
        (.done [u8 c.users.length], installSnapshot c (tagContent c s))
      else (.refused .badTag [], setRestore none s)

/-- RESTORE_END executed. -/
def execRestoreEnd (s : State) : Host.Outcome State Fault Refusal := runOrder (isKind 0x4D#8) restoreEnd s

end Sys2Proof.Machine
end

