-- ==== Sys2Proof/Machine/Dispatch.lean ====
section
/-! DEFINITION. What each command does: one arm for each row of the table. -/

namespace Sys2Proof.Machine

/-- The effect of a command on everything but the queue of commands. -/
def exec (i : Instr) (s : State) : Host.Outcome State Fault Refusal :=
  match i with
  | .coldReset memsize ctlpos => Sys2Proof.Machine.execColdReset memsize ctlpos s
  | .lineRequest tag line access => Sys2Proof.Machine.execLineRequest tag line access s
  | .ringHeaderWrite tag mask data => Sys2Proof.Machine.execRingHeaderWrite tag mask data s
  | .orderTake tag window data => Sys2Proof.Machine.execOrderTake tag window data s
  | .upstreamGrant => Sys2Proof.Machine.execUpstreamGrant s
  | .mergeReadIssue entry => Sys2Proof.Machine.execMergeReadIssue entry s
  | .mergeReadGrant => Sys2Proof.Machine.execMergeReadGrant s
  | .mergeWritebackAccept => Sys2Proof.Machine.execMergeWritebackAccept s
  | .regionRemoveAttempt slot => Sys2Proof.Machine.execRegionRemoveAttempt slot s
  | .jobCloseCompletion slot => Sys2Proof.Machine.execJobCloseCompletion slot s
  | .sideMark => Sys2Proof.Machine.execSideMark s
  | .metersSwitch => Sys2Proof.Machine.execMetersSwitch s
  | .presenceAssert slot => Sys2Proof.Machine.execPresenceAssert slot s
  | .presenceDeassert slot => Sys2Proof.Machine.execPresenceDeassert slot s
  | .settlingTimerExpiry slot => Sys2Proof.Machine.execSettlingTimerExpiry slot s
  | .challengeWriteEnd acknowledged => Sys2Proof.Machine.execChallengeWriteEnd acknowledged s
  | .answerAddressAck => Sys2Proof.Machine.execAnswerAddressAck s
  | .answerWaitExpiry => Sys2Proof.Machine.execAnswerWaitExpiry s
  | .answerReadEnd answer => Sys2Proof.Machine.execAnswerReadEnd answer s
  | .retryTimerExpiry slot => Sys2Proof.Machine.execRetryTimerExpiry slot s
  | .amountWriteEnd acknowledged => Sys2Proof.Machine.execAmountWriteEnd acknowledged s
  | .confirmationReadEnd confirmation => Sys2Proof.Machine.execConfirmationReadEnd confirmation s
  | .returnAccept => Sys2Proof.Machine.execReturnAccept s
  | .headerRewriteGrant => Sys2Proof.Machine.execHeaderRewriteGrant s
  | .summaryRewriteGrant => Sys2Proof.Machine.execSummaryRewriteGrant s
  | .sourceSet => Sys2Proof.Machine.execSourceSet s
  | .regionDefine => Sys2Proof.Machine.execRegionDefine s
  | .regionRemove => Sys2Proof.Machine.execRegionRemove s
  | .regionQuery => Sys2Proof.Machine.execRegionQuery s
  | .jobOpen => Sys2Proof.Machine.execJobOpen s
  | .jobRelease => Sys2Proof.Machine.execJobRelease s
  | .jobSeal => Sys2Proof.Machine.execJobSeal s
  | .jobKeyExport => Sys2Proof.Machine.execJobKeyExport s
  | .jobQuery => Sys2Proof.Machine.execJobQuery s
  | .jobClose => Sys2Proof.Machine.execJobClose s
  | .metersFlush => Sys2Proof.Machine.execMetersFlush s
  | .curveLoad => Sys2Proof.Machine.execCurveLoad s
  | .factorsLoad => Sys2Proof.Machine.execFactorsLoad s
  | .classesLoad => Sys2Proof.Machine.execClassesLoad s
  | .pricesLoad => Sys2Proof.Machine.execPricesLoad s
  | .metersApply => Sys2Proof.Machine.execMetersApply s
  | .metersApplyNow => Sys2Proof.Machine.execMetersApplyNow s
  | .metersQuery => Sys2Proof.Machine.execMetersQuery s
  | .sideBegin => Sys2Proof.Machine.execSideBegin s
  | .sideCancel => Sys2Proof.Machine.execSideCancel s
  | .sideJam => Sys2Proof.Machine.execSideJam s
  | .readoutPolicy => Sys2Proof.Machine.execReadoutPolicy s
  | .accountOpen => Sys2Proof.Machine.execAccountOpen s
  | .accountCredit => Sys2Proof.Machine.execAccountCredit s
  | .accountSet => Sys2Proof.Machine.execAccountSet s
  | .accountSuspend => Sys2Proof.Machine.execAccountSuspend s
  | .accountResume => Sys2Proof.Machine.execAccountResume s
  | .accountRemove => Sys2Proof.Machine.execAccountRemove s
  | .accountQuery => Sys2Proof.Machine.execAccountQuery s
  | .countersQuery => Sys2Proof.Machine.execCountersQuery s
  | .accountsExport => Sys2Proof.Machine.execAccountsExport s
  | .restoreBegin => Sys2Proof.Machine.execRestoreBegin s
  | .restoreAccountUser => Sys2Proof.Machine.execRestoreAccountUser s
  | .restoreAccountRetired => Sys2Proof.Machine.execRestoreAccountRetired s
  | .restoreMeters => Sys2Proof.Machine.execRestoreMeters s
  | .restoreEnd => Sys2Proof.Machine.execRestoreEnd s
  | .restoreAbandon => Sys2Proof.Machine.execRestoreAbandon s
  | .cartridgeProbe => Sys2Proof.Machine.execCartridgeProbe s
  | .cartridgeQuery => Sys2Proof.Machine.execCartridgeQuery s
  | .tonerPolicy => Sys2Proof.Machine.execTonerPolicy s
  | .noticesAck => Sys2Proof.Machine.execNoticesAck s
  | .noticesEnable => Sys2Proof.Machine.execNoticesEnable s
  | .partReset => Sys2Proof.Machine.execPartReset s
  | .badOrder => Sys2Proof.Machine.execBadOrder s
  | .resetEvent => Sys2Proof.Machine.execResetEvent s

end Sys2Proof.Machine
end

