-- ==== Sys2Proof/Safety.lean ====
section
/-! DEFINITION. The terms in which statements speak: what the ends of events leave alone, when an order is executed
and what its RESULT is, and the laws that the rules give the tables. -/

namespace Sys2Proof.Machine

/-! ### The ledger of a state -/

/-- A cartridge slot without its place in the work of the cartridge line. -/
def CartridgeSlot.standing (c : CartridgeSlot) : CartridgeSlot :=
  { c with exchange := .idle, attempts := 0, probePending := false, debitPending := false }

/-- The tables of a state: everything but the channel front, the same-line queues, the memory port, the work of the
cartridge line, the order taker, the writer's rotation and the attention output, which the end of every event may
move on. -/
structure Ledger where
  pending : List Instr
  fuses : Fuses
  mem : List Host.Cell
  classifier : Classifier
  merges : Vector (Option MergeEntry) 8
  claims : List Req
  jobs : Vector (Option Job) 16
  unattributed : Vector Unattributed 4
  store : MeterStore
  sides : SideList
  accounts : AccountTable
  pins : Vector Bool 4
  slots : Vector CartridgeSlot 4
  absent : List AbsentEntry
  totals : Vector DrawTotals 4
  policy : TonerPolicy
  notices : BitVec 32
  userMap : BitVec 64
  enables : BitVec 32
  writeIndex : Nat
  readIndex : Nat
  epoch : Nat
  deriving DecidableEq, Repr

/-- The ledger of a state. -/
def State.ledger (s : State) : Ledger :=
  { pending := s.pending, fuses := s.fuses, mem := s.mem, classifier := s.classifier
    merges := s.protection.table, claims := s.protection.waitList, jobs := s.jobs, unattributed := s.unattributed
    store := s.store, sides := s.sides, accounts := s.accounts, pins := s.cartridges.pins
    slots := s.cartridges.slots.map CartridgeSlot.standing, absent := s.cartridges.absent
    totals := s.cartridges.totals, policy := s.cartridges.policy, notices := s.writer.notices
    userMap := s.writer.userMap, enables := s.writer.enables, writeIndex := s.writer.writeIndex
    readIndex := s.writer.readIndex, epoch := s.writer.epoch }

/-! ### Executing an order -/

/-- The entry `e` of the given kind is at the head of the queue, before `rest`, and the taker is not paused (R167). -/
structure State.Executes (s : State) (k : Byte) (e : OrderEntry) (rest : List OrderEntry) : Prop where
  queue : s.orders.queue = e :: rest
  kind : e.kind = k
  room : s.orders.holding.length < 8
  noWait : s.orders.resetWait = none
  noSequence : s.orders.resetSequence = []

/-- The entry has left the queue, the queued entries behind it stay, and a waiting write may have been taken behind
them (R166). -/
def LeavesQueue (s t : State) (rest : List OrderEntry) : Prop :=
  rest <+: t.orders.queue ∧ (s.channel.heldOrders = [] → t.orders.queue = rest)

/-- The result of `e` has entered the holding list behind the results it held (R170, R171), and no order was parked or
completed. -/
def Answered (s t : State) (e : OrderEntry) (rest : List OrderEntry) (reason : Option Reason) (values : List Val) :
    Prop :=
  LeavesQueue s t rest ∧ t.orders.parked = s.orders.parked ∧
    ∃ more, t.orders.holding = s.orders.holding ++
      { serial := e.serial, kind := e.kind, window := e.window, reason, values } :: more

/-- The order `e` is parked against an object (R169), and it has no result yet. -/
def Parked (s t : State) (e : OrderEntry) (rest : List OrderEntry) (o : ParkObject) : Prop :=
  LeavesQueue s t rest ∧
    t.orders.parked = s.orders.parked ++ [{ kind := e.kind, serial := e.serial, window := e.window, object := o }]

/-- The address lies in the line, and the byte's enable is on. -/
def StoredByte (line : Nat) (mask : ByteMask) (a : Nat) : Prop :=
  64 * line ≤ a ∧ a < 64 * line + 64 ∧ mask.getLsbD (a - 64 * line) = true

/-- The draw of a plane's unattributed record: the accumulator times the live draw factor over 2^24, rounded half to
even. -/
def conversionDraw (s : State) (p : Plane) : Nat :=
  roundHalfEven (s.unattributed[p].sum * s.store.live.factors[p]) 16777216

/-- A load of the staged set: a DONE result with the given values and whether the staged set now differs from the live
one, and the staged set replaced. -/
def StagedBy (s : State) (c : Instr) (e : OrderEntry) (rest : List OrderEntry) (set : ParamSet)
    (values : List Val) : Prop :=
  ∃ t, exec c s = .next t ∧
    Answered s t e rest none (values ++ [u8 (if set ≠ s.store.live then 1 else 0)]) ∧
    t.ledger = { s.ledger with store := { s.store with staged := set } }

/-- A load that is refused: the reason, no values, and nothing changed. -/
def RefusedBy (s : State) (c : Instr) (e : OrderEntry) (rest : List OrderEntry) (reason : Reason) : Prop :=
  ∃ t, exec c s = .next t ∧ Answered s t e rest (some reason) [] ∧ t.ledger = s.ledger

/-- A floor and a warn level in range (R120). -/
def LimitsInRange (floor warn : Int) : Prop :=
  -2000000000 ≤ floor ∧ floor ≤ 0 ∧ -2000000000 ≤ warn ∧ warn ≤ 2147483647

/-! ### What the rules give for a region, a hold and a settlement -/

/-- The requests in a region that R14 and R41 turn away, by the region's state, kind and binding. -/
def Region.turnsAway (r : Region) (cls : SourceClass) (access : Access) : Prop :=
  (r.state = .orphan ∧ ¬(cls = .general ∧ access = .read)) ∨
  (r.state = .live ∧ r.job ≠ none ∧
    ((cls = .intake ∧ r.kind ≠ .priv) ∨ (cls = .readout ∧ (r.kind = .priv ∨ access ≠ .read))))

/-- The line is in region `i`, whose record is `r`, in page memory and in no other place (R5). -/
structure State.LineIn (s : State) (line : Nat) (i : Fin 32) (r : Region) : Prop where
  memory : line < s.classifier.memLines
  noControl : ¬(s.classifier.controlBase ≤ line ∧ line < s.classifier.controlBase + 512)
  record : s.classifier.regions[i] = some r
  inside : r.base ≤ line ∧ line < r.base + r.size
  noOther : ∀ k : Fin 32, k ≠ i → ∀ x ∈ s.classifier.regions[k], ¬(x.base ≤ line ∧ line < x.base + x.size)

/-- The reserves of the sides of a list that a user slot owns. -/
def reservesOf (l : List Side) (i : Fin 64) : Nat := ((l.filter fun r => decide (r.userSlot = i)).map Side.reserve).sum

/-- The record of a user slot once the sides of a list have left its hold, with the warning test (R122, R124). -/
def releasedUser (l : List Side) (i : Fin 64) (u : User) : User :=
  if l.any fun r => decide (r.userSlot = i) then
    let hold := u.hold - reservesOf l i
    { u with hold, warned := decide (u.credit - u.spent - (hold : Nat) < u.warn) }
  else u

/-- The user map once a user slot's warning is found set, which raises its bit only when it was clear (R124). -/
def warnedMap (map : BitVec 64) (i : Fin 64) (before after : Bool) : BitVec 64 :=
  if after && !before then map ||| (1#64 <<< i.val) else map

/-- Every user below the warn level is WARNED (R124). -/
def WarningsSet (s : State) : Prop :=
  ∀ i : Fin 64, ∀ u ∈ s.accounts.users[i], u.credit - u.spent - u.hold < u.warn → u.warned = true

/-- A user is WARNED exactly while the available balance is below the warn level (R120, R124). -/
def WarnedExactly (s : State) : Prop :=
  ∀ i : Fin 64, ∀ u ∈ s.accounts.users[i], u.warned = decide (u.credit - u.spent - u.hold < u.warn)

/-- A job keeps its slot when one of its sides leaves it: it is ACTIVE, or other work of it is left (R37). -/
def Job.keepsSlot (j : Job) : Prop := j.state = .active ∨ 1 < j.sides ∨ j.merges ≠ 0 ∨ j.lines ≠ 0

/-- The close of the job in slot `i` completes (R38): the slot is FREE, the LIVE regions bound to it are ORPHAN without
a binding, and the JOB CLOSE `p` that was parked for it, between `before` and `after`, is answered DONE. -/
structure JobCloses (s t : State) (i : Fin 16) (j : Job) (voided : Nat) (p : ParkedOrder)
    (before after : List ParkedOrder) : Prop where
  jobs : t.jobs = put s.jobs i none
  regions : t.classifier = { s.classifier with
    regions := s.classifier.regions.map fun (x : Option Region) => x.map fun r =>
      if r.state = .live ∧ r.job = some i then { r with state := .orphan, job := none } else r }
  parked : t.orders.parked = before ++ after
  result : t.orders.holding = s.orders.holding ++
    [{ serial := p.serial, kind := p.kind, window := p.window, reason := none
       values := [u8 i.val, u16 j.tag, u8 j.kind.code, u32 (s.userId j.owner), u32 j.enciphered, u32 j.settled,
         u8 voided, u8 (boundRegions i s.classifier.regions)] }]

/-- The first WAITING JOB CLOSE of slot `i` is `p`, between `before` and `after`, and the holding list has room for its
result (R169, R171). -/
structure CloseParked (s : State) (i : Fin 16) (voided : Nat) (p : ParkedOrder) (before after : List ParkedOrder) :
    Prop where
  place : s.orders.parked = before ++ p :: after
  object : p.object = .job i voided
  first : ∀ q ∈ before, q.object.isJob i = false
  completed : s.orders.completed = []
  room : s.orders.holding.length < 8

/-- A CARTRIDGE PROBE parked for the slot is answered DONE with the outcome and the verdict of the given codes, the
attempts the proof made, and what the slot then holds (R160). -/
def ProbeAnswered (s t : State) (p : Plane) (outcome verdict : Nat) : Prop :=
  ∀ (o : ParkedOrder) (before after : List ParkedOrder), s.orders.parked = before ++ o :: after →
    o.object = .cartridge p → (∀ q ∈ before, q.object ≠ .cartridge p) → s.orders.completed = [] →
    s.orders.holding.length < 8 →
    let d := t.cartridges.slots[p]
    let optional := fun (width : Nat) (v : Option Nat) =>
      [u8 (if v.isSome then 1 else 0), { width, value := v.getD 0 }]
    t.orders.parked = before ++ after ∧
    t.orders.holding = s.orders.holding ++
      [{ serial := o.serial, kind := o.kind, window := o.window, reason := none
         values := [u8 p.val, u8 outcome, u8 verdict, u8 s.cartridges.slots[p].attempts] ++
           optional 8 (d.serial.map BitVec.toNat) ++ optional 4 d.remaining ++ [u32 d.owed] ++
           optional 4 (d.remaining.map fun n => n - d.owed) }]

/-- The command ends the exchange on the line SILENT: a write that is not acknowledged, the end of the answer wait, or
an answer that is not delivered (R148, R153; for a confirmation DESIGN CHOICE, log entry 10). -/
def endsSilent (x : LineExchange) (c : Instr) : Prop :=
  match x.message with
  | .challenge _ => (c = .challengeWriteEnd false ∧ x.phase = .write) ∨ (c = .answerWaitExpiry ∧ x.phase = .wait) ∨
      (c = .answerReadEnd none ∧ x.phase = .read)
  | .debit _ _ _ => (c = .amountWriteEnd false ∧ x.phase = .write) ∨ (c = .answerWaitExpiry ∧ x.phase = .wait) ∨
      (c = .confirmationReadEnd none ∧ x.phase = .read)

/-- The fields of a line, each at its offset with its width, stand there as R186 encodes them, and every other byte is
0. -/
def LaidOut (l : Line) (fields : List (Nat × Nat × Nat)) : Prop :=
  (∀ x ∈ fields, fieldAt l x.1 x.2.1 = x.2.2 % 256 ^ x.2.1) ∧
  ∀ i < 64, (∀ x ∈ fields, ¬(x.1 ≤ i ∧ i < x.1 + x.2.1)) → byteAt l i = 0

/-- Values packed from a byte on with no gaps, each with its offset and its width (R186). -/
def packedFrom : Nat → List Val → List (Nat × Nat × Nat)
  | _, [] => []
  | start, v :: rest => (start, v.width, v.value) :: packedFrom (start + v.width) rest

/-- The eight checks of REGION DEFINE (R10) in order, each with the reason that it gives and the condition under which
it fails, over the arguments of the entry (R187) and the job tag when one is given. -/
def regionFaults (s : State) (e : OrderEntry) (tag : Option Nat) : List (Reason × Prop) :=
  let base := e.num 4 4
  let size := e.num 8 4
  let band := e.num 12 1 = 1
  let plane := e.num 16 1
  let depth := e.num 17 1
  let row := e.num 18 2
  let meets := fun start lines : Nat => base < start + lines ∧ start < base + size
  [(.badArg, 31 < e.num 3 1 ∨ 1 < e.num 12 1 ∨ size = 0 ∨ tag = some 0 ∨ (band ∧ (3 < plane ∨ row = 0))),
    (.inUse, ∃ i : Fin 32, e.num 3 1 = i.val ∧ s.classifier.regions[i] ≠ none),
    (.range, s.classifier.memLines < base + size),
    (.overlap, meets s.classifier.controlBase 512 ∨
      ∃ i : Fin 32, ∃ r ∈ s.classifier.regions[i], meets r.base r.size),
    (.noJob, ∃ n, tag = some n ∧ ∀ k : Fin 16, ∀ j ∈ s.jobs[k], j.tag ≠ n),
    (.jobState, ∃ n k j, tag = some n ∧ s.jobWithTag n = some k ∧ s.jobs[k] = some j ∧ j.state ≠ .active),
    (.geometry, band ∧ ((depth ≠ 1 ∧ depth ≠ 2 ∧ depth ≠ 4 ∧ depth ≠ 8) ∨ row * (512 / depth) < 2048 ∨
      65536 < row * (512 / depth) ∨ size % row ≠ 0 ∨ size < 8 * row)),
    (.mismatch, band ∧ ∃ i : Fin 32, ∃ r ∈ s.classifier.regions[i], ∃ p d n, r.kind = .band p d n ∧
      p.val = plane ∧ (d ≠ depth ∨ n ≠ row))]

/-- The planes of a closed side whose draw is routed to the unproven total (R155), an entry of the absent list found by
serial and plane (DESIGN CHOICE, log entry 10). -/
def unprovenPlanes (s : State) (r : Side) : PlaneSet :=
  planesWhere fun p => hasPlane r.planes p && match r.serials[p] with
    | none => true
    | some v =>
      !(decide (s.cartridges.slots[p].verdict = .genuine) && decide (s.cartridges.slots[p].serial = some v)) &&
        s.cartridges.absent.all fun a => !(decide (a.serial = v) && decide (a.plane = p))

/-- The price of a side's class and tier in the live price table (R86, R91). -/
def livePrice (s : State) (r : Side) : Nat :=
  let f := closeFigures s.store.live r
  s.store.live.prices[Fin.ofNat 6 (f.cls.code * 3 + f.tier.code)]

/-- A record `x` of side `r` once the side is closed and settled with the given charge (R91, R108 to R110). -/
def closedRecord (s : State) (r : Side) (o : SideOutcome) (charge : Nat) (capped : Bool) (x : Side) : Side :=
  { x with
    state := .settled, outcome := some o, figures := some (closeFigures s.store.live r), charge := some charge
    capped, unproven := x.unproven ||| unprovenPlanes s r }

/-- A set of eight counters once a side that closed COMPLETE or SHORT is counted (R109, R131). -/
def countedSide (s : State) (r : Side) (old : Counters) : Counters :=
  let f := closeFigures s.store.live r
  let i : Fin 8 := Fin.ofNat 8 (f.cls.code * 3 + f.tier.code)
  let tiered := put old i (old[i] + 1)
  if r.face = .back then put tiered 6 (tiered[6] + 1) else tiered

/-- The owner's record once a side that closed COMPLETE or SHORT is settled (R91, R109, R121, R124, R131). -/
def settledUser (s : State) (r : Side) (u : User) : User :=
  let spent := u.spent + min r.reserve (livePrice s r)
  let hold := u.hold - r.reserve
  { u with
    spent, hold, counters := countedSide s r u.counters
    warned := decide (u.credit - (spent : Nat) - (hold : Nat) < u.warn) }

/-- No counter that a settlement raises stands at its maximum. -/
structure RoomToSettle (s : State) (r : Side) (j : Job) (u : User) : Prop where
  settled : j.settled < 4294967295
  user : ∀ k : Fin 8, u.counters[k] < 4294967295
  meters : ∀ k : Fin 8, s.accounts.meters.sides[k] < 4294967295
  spent : u.spent + r.reserve ≤ 2 ^ 62

/-- Where draw goes (R155, R156): to the plane's slot, to an entry of the absent list by its place there, or to the
unproven total. -/
inductive DrawPlace where
  | slot
  | entry (place : Nat)
  | unproven
  deriving DecidableEq, Repr

/-- Where the draw of a side with the given recorded serial goes (R155), an entry of the absent list found by serial and
plane (DESIGN CHOICE, log entry 10). -/
def sidePlace (s : State) (p : Plane) (serial : Option Serial) : DrawPlace :=
  match serial with
  | none => .unproven
  | some v =>
    if s.cartridges.slots[p].verdict = .genuine ∧ s.cartridges.slots[p].serial = some v then .slot
    else match s.cartridges.absent.findIdx? fun a => decide (a.serial = v) && decide (a.plane = p) with
      | some place => .entry place
      | none => .unproven

/-- Where unattributed draw goes (R156). -/
def unattributedPlace (s : State) (p : Plane) : DrawPlace :=
  let c := s.cartridges.slots[p]
  if c.seated = true ∧ c.serial.isSome = true ∧ c.verdict = .genuine then .slot else .unproven

/-- An owed draw after additions, which stop at its maximum (R157). -/
def owedAfter (owed : Nat) (added : List Nat) : Nat :=
  if added = [] then owed else min 4294967295 (owed + added.sum)

/-- What additions to an owed draw leave over, which is lost (R157). -/
def lostOver (owed : Nat) (added : List Nat) : Nat := if added = [] then 0 else owed + added.sum - 4294967295

/-- The re-proof count of a slot after a side's close that hands over its plane (R159). -/
def reproofAfter (s : State) (p : Plane) : Nat :=
  let c := s.cartridges.slots[p]
  let n := min 65535 (c.reproof + 1)
  if c.seated = false ∨ c.exchange = .settling then c.reproof
  else if s.cartridges.policy.interval ≠ 0 ∧ s.cartridges.policy.interval ≤ n then 0 else n

/-- An event has routed, for each plane, the draw of a closed side with its recorded serial, when there is one, and the
unattributed draw of a conversion, when there is one (R155 to R157, R159): into the owed draw of the slot or of an
absent-list entry, into the unproven total, or over the maximum into the lost one, and always into the drawn one. -/
structure DrawRouted (s t : State) (side : Plane → Option (Nat × Option Serial)) (rest : Plane → Option Nat) :
    Prop where
  routed :
    let draws := fun p : Plane =>
      ((side p).map fun x => (sidePlace s p x.2, x.1)).toList ++
        ((rest p).map fun d => (unattributedPlace s p, d)).toList
    let sent := fun (p : Plane) (w : DrawPlace) => ((draws p).filter fun x => decide (x.1 = w)).map Prod.snd
    let excess := fun p : Plane => lostOver s.cartridges.slots[p].owed (sent p .slot) +
      (s.cartridges.absent.zipIdx.map fun x => lostOver x.1.owed (sent p (.entry x.2))).sum
    t.cartridges.absent.length = s.cartridges.absent.length ∧
    (∀ (place : Nat) (a : AbsentEntry), s.cartridges.absent[place]? = some a →
      t.cartridges.absent[place]? = some { a with owed := owedAfter a.owed (sent a.plane (.entry place)) }) ∧
    ∀ p : Plane,
      let c := s.cartridges.slots[p]
      let old := s.cartridges.totals[p]
      t.cartridges.slots[p].standing = CartridgeSlot.standing
        { c with
          owed := owedAfter c.owed (sent p .slot)
          reproof := if (side p).isSome then reproofAfter s p else c.reproof } ∧
      t.cartridges.totals[p] =
        { drawn := old.drawn + BitVec.ofNat 64 ((draws p).map Prod.snd).sum, confirmed := old.confirmed
          unproven := old.unproven + BitVec.ofNat 64 (sent p .unproven).sum
          lost := old.lost + BitVec.ofNat 64 (excess p) } ∧
      (0 < excess p → t.writer.notices.getLsbD 3 = true)

/-- The draws that a closed side hands over, with the recorded serials (R110). -/
def sideDraws (s : State) (r : Side) (p : Plane) : Option (Nat × Option Serial) :=
  if hasPlane r.planes p then some ((closeFigures s.store.live r).draw[p], r.serials[p]) else none

/-- The coverage meter computes by the rules' formulas: the line sum (R60 to R63), the fold of a line into a signature
(R67), the rounding to the nearest with halves to the even neighbour, and the close figures (R69 to R73). -/
structure MetersByTheRules : Prop where
  sum : ∀ (curve : Vector Nat 17) (depth : Nat) (l : Line), depth = 1 ∨ depth = 2 ∨ depth = 4 ∨ depth = 8 →
    lineSum curve depth l = ((List.range (512 / depth)).map fun i =>
      let tone := (byteAt l (i / (8 / depth))).toNat / 2 ^ (i % (8 / depth) * depth) % 2 ^ depth
      let t10 :=
        if depth = 1 then tone * 1023 else if depth = 2 then tone * 341
        else if depth = 4 then tone * 68 + tone / 4 else tone * 4 + tone / 64
      let c := fun n : Nat => curve.toList.getD n 0
      if t10 = 1023 then c 16
      else c (t10 / 64) + ((c (t10 / 64 + 1) - c (t10 / 64)) * (t10 % 64) + 32) / 64).sum
  fold : ∀ (register : BitVec 32) (l : Line),
    foldLine register l = (List.range 16).foldl (fun (r : BitVec 32) (j : Nat) =>
      let word := BitVec.ofNat 32 ((byteAt l (4 * j)).toNat + 2 ^ 8 * (byteAt l (4 * j + 1)).toNat +
        2 ^ 16 * (byteAt l (4 * j + 2)).toNat + 2 ^ 24 * (byteAt l (4 * j + 3)).toNat)
      ((r <<< 1) ^^^ word) ^^^ (if r.getLsbD 31 then 0x00400007#32 else 0#32)) register
  rounding : ∀ a b : Nat, 0 < b →
    let q := roundHalfEven a b
    2 * q * b ≤ 2 * a + b ∧ 2 * a ≤ 2 * q * b + b ∧
      (2 * q * b = 2 * a + b ∨ 2 * a = 2 * q * b + b → q % 2 = 0)
  figures : ∀ (set : ParamSet) (r : Side) (context : MeterContext), r.context = some context →
    let metered := fun p : Plane => (context.planes[p]).getD { sum := 0, pixels := 0, lines := 0 }
    let coverage := fun p : Plane =>
      if hasPlane r.planes p = false ∨ (metered p).pixels = 0 then 0
      else roundHalfEven ((metered p).sum * 10000) ((metered p).pixels * 4095)
    let sum := coverage 0 + coverage 1 + coverage 2 + coverage 3
    closeFigures set r =
      { coverage := Vector.ofFn coverage
        draw := Vector.ofFn fun p =>
          if hasPlane r.planes p then roundHalfEven ((metered p).sum * set.factors[p]) (2 ^ 24) else 0
        cls := if r.mode = .colour ∨ (r.mode = .auto ∧ ∃ p : Plane, p ≠ 3 ∧ set.colourThreshold ≤ coverage p)
          then .colour else .mono
        tier := if sum < set.bound1 then .light else if sum < set.bound2 then .standard else .heavy
        sum
        signature := ~~~context.signature }

/-- What the settlement of a COMPLETE or SHORT side leaves in its owner's record and the counters of sides, and where
its draw goes, beside the unattributed draw `rest` (R109, R110, R131, R155 to R157). -/
structure SettlesOwner (s t : State) (r : Side) (u : User) (rest : Plane → Option Nat) : Prop where
  users : t.accounts.users = put s.accounts.users r.userSlot (some (settledUser s r u))
  meters : t.accounts.meters.sides = countedSide s r s.accounts.meters.sides
  warning : t.writer.userMap = warnedMap s.writer.userMap r.userSlot u.warned (settledUser s r u).warned
  draw : DrawRouted s t (sideDraws s r) rest

/-- The settlement of a COMPLETE or SHORT side whose job keeps its slot (R33, R109). -/
structure SettlesAs (s t : State) (r : Side) (j : Job) (u : User) (rest : Plane → Option Nat) : Prop
    extends SettlesOwner s t r u rest where
  jobs : t.jobs = put s.jobs r.jobSlot (some { j with sides := j.sides - 1, settled := j.settled + 1 })

/-! ### Laws of the tables -/

/-- The draw totals of every plane balance (R157). -/
def DrawLaw (c : Cartridges) : Prop :=
  ∀ p : Plane, c.totals[p].drawn =
    c.totals[p].confirmed + BitVec.ofNat 64 (c.owed p) + c.totals[p].unproven + c.totals[p].lost

/-- Every uncertain debit, and a debit on the line, is part of its owed draw; a debit is due only in a GENUINE slot,
and neither due nor on the line in a slot that holds an uncertain debit (R141, R152 to R154). -/
structure DebtsCovered (c : Cartridges) : Prop where
  slots : ∀ p : Plane, ∀ u ∈ c.slots[p].uncertain, u ≤ c.slots[p].owed
  absent : ∀ a ∈ c.absent, ∀ u ∈ a.uncertain, u ≤ a.owed
  due : ∀ p : Plane, c.slots[p].debitPending = true →
    c.slots[p].verdict = .genuine ∧ c.slots[p].uncertain = none
  line : ∀ x ∈ c.line, ∀ amount nonce tag, x.message = .debit amount nonce tag →
    amount ≤ c.slots[x.slot].owed ∧ c.slots[x.slot].uncertain = none

/-- Every owed draw, of a slot or of an absent-list entry, is in its range (R141, R154). -/
structure OwedInRange (c : Cartridges) : Prop where
  slots : ∀ p : Plane, c.slots[p].owed ≤ 4294967295
  absent : ∀ a ∈ c.absent, a.owed ≤ 4294967295

/-- The draw law with what it rests on. -/
structure DrawInv (s : State) : Prop where
  law : DrawLaw s.cartridges
  covered : DebtsCovered s.cartridges
  range : OwedInRange s.cartridges

/-- The sum of the reserves of a user's sides that are ADMITTED or METERING (R122). -/
def liveReserves (s : State) (i : Fin 64) : Nat :=
  ((s.sides.records.filter fun r => decide (r.state ≠ .settled) && decide (r.userSlot = i)).map Side.reserve).sum

/-- The hold of a user slot, 0 for a free one. -/
def holdOf (s : State) (i : Fin 64) : Nat :=
  match s.accounts.users[i] with
  | some u => u.hold
  | none => 0

/-- The records of the side list are told apart by their numbers, no number of a later record is in use, and the
records named as settled are SETTLED. -/
structure SidesNumbered (l : SideList) : Prop where
  distinct : (l.records.map Side.uid).Nodup
  fresh : ∀ r ∈ l.records, r.uid < l.nextUid
  used : ∀ u ∈ l.settledOrder, u < l.nextUid
  settled : ∀ r ∈ l.records, r.uid ∈ l.settledOrder → r.state = .settled

/-- Every hold is the sum of the reserves that may still be charged (R122). -/
structure HoldInv (s : State) : Prop where
  hold : ∀ i : Fin 64, holdOf s i = liveReserves s i
  restore : s.accounts.restore.isSome → s.sides.records = []
  numbered : SidesNumbered s.sides

/-- The side list holds at most 8 records with distinct ids from 1 to 65,535, and a METERING side is the oldest one
that is not SETTLED, so there is at most one (R94, R96). -/
structure SideListInv (s : State) : Prop where
  numbered : SidesNumbered s.sides
  room : s.sides.records.length ≤ 8
  ids : (s.sides.records.map Side.id).Nodup
  idRange : ∀ r ∈ s.sides.records, 1 ≤ r.id ∧ r.id ≤ 65535
  nextRange : 1 ≤ s.sides.nextId ∧ s.sides.nextId ≤ 65535
  oldest : s.sides.records.Pairwise fun a b => b.state = .metering → a.state = .settled

/-- The bounds of the order taker's lists (R166, R169, R171): a completed entry waits only while the holding list is
full. -/
structure OrdersInv (s : State) : Prop where
  queue : s.orders.queue.length ≤ 8
  waitQueue : s.orders.resetWait.isSome → s.orders.queue.length ≤ 7
  holding : s.orders.holding.length ≤ 8
  parked : s.orders.parked.length + s.orders.completed.length ≤ 8
  completed : s.orders.completed = [] ∨ s.orders.holding.length = 8

/-- A line of the part's own stream is a return. -/
def OwnLine.isReturn : OwnLine → Bool
  | .ret _ _ => true
  | _ => false

/-- The ring indices stay in the ring, and at most one return is on its way, to a slot that is free (R178, R179). -/
structure RingInv (s : State) : Prop where
  write : s.writer.writeIndex < 448
  read : s.writer.readIndex < 448
  epoch : s.writer.epoch < 65536
  single : s.port.own.countP OwnLine.isReturn ≤ 1
  free : ∀ l ∈ s.port.own, l.isReturn → (s.writer.writeIndex + 1) % 448 ≠ s.writer.readIndex

/-- Two region records have no line in common. -/
def Region.apart (a b : Region) : Prop := a.base + a.size ≤ b.base ∨ b.base + b.size ≤ a.base

/-- A BAND record has a permitted geometry (R10). -/
def Region.bandGood (r : Region) : Prop :=
  match r.kind with
  | .priv => True
  | .band _ d n => goodGeometry d n r.size = true

/-- Two BAND records of one plane share depth and row length (R10). -/
def sameGeometry (a b : Region) : Prop :=
  match a.kind, b.kind with
  | .band p d n, .band q e m => p = q → d = e ∧ n = m
  | _, _ => True

/-- The region map as R10 keeps it. -/
structure RegionInv (s : State) : Prop where
  inside : ∀ i : Fin 32, ∀ r ∈ s.classifier.regions[i], 0 < r.size ∧ r.base + r.size ≤ s.classifier.memLines
  control : ∀ i : Fin 32, ∀ r ∈ s.classifier.regions[i],
    r.base + r.size ≤ s.classifier.controlBase ∨ s.classifier.controlBase + 512 ≤ r.base
  apart : ∀ i j : Fin 32, i ≠ j → ∀ a ∈ s.classifier.regions[i], ∀ b ∈ s.classifier.regions[j], a.apart b
  good : ∀ i : Fin 32, ∀ r ∈ s.classifier.regions[i], r.bandGood
  same : ∀ i j : Fin 32, ∀ a ∈ s.classifier.regions[i], ∀ b ∈ s.classifier.regions[j], sameGeometry a b

/-- A job's bound-region count is the number of LIVE regions bound to its slot, and no region is bound to a FREE slot
(R9, R22, R32). -/
def BindingInv (s : State) : Prop :=
  ∀ i : Fin 16, match s.jobs[i] with
    | some j => j.regions = boundRegions i s.classifier.regions
    | none => boundRegions i s.classifier.regions = 0

/-- A cartridge slot stands REJECTED with no work under way or due on the cartridge line (R145, R146). -/
structure RejectedAtRest (p : Plane) (s : State) : Prop where
  seated : s.cartridges.slots[p].seated = true
  verdict : s.cartridges.slots[p].verdict = .rejected
  exchange : s.cartridges.slots[p].exchange = .idle
  probe : s.cartridges.slots[p].probePending = false
  debit : s.cartridges.slots[p].debitPending = false
  settling : s.cartridges.slots[p].settlingTimer = none
  retry : s.cartridges.slots[p].retryTimer = none
  line : ∀ x ∈ s.cartridges.line, x.slot ≠ p

/-- A command that ends a REJECTED verdict of a slot: a removal, or a cold reset (section 8.2). -/
def endsRejected (p : Plane) : Instr → Bool
  | .presenceDeassert q => decide (q = p)
  | .coldReset _ _ => true
  | _ => false

end Sys2Proof.Machine
end

