-- ==== Sys2Proof/WellFormed.lean ====
section
/-! DEFINITION. Which commands can be presented. Operands that are bounded by their type need no check;
an ORDER_TAKE is a write to control lines 2 to 63 whose kind byte is not zero (R165). A command that is
not well formed still has a meaning: a write to another line, or with kind byte 0, is treated as the line
request that it is. -/

namespace Sys2Proof

/-- The command is one that the table's row describes. -/
def Instr.wellFormed : Instr → Bool
  | .orderTake _ window data =>
      decide (2 ≤ window) && decide (window ≤ 63) && decide (data.extractLsb' 0 8 ≠ 0#8)
  | _ => true

/-- `wellFormed` as a proposition. -/
abbrev Instr.WellFormed (i : Instr) : Prop := i.wellFormed = true

end Sys2Proof
end

