-- ==== Sys2Proof/Certificates/Slice0/Obligations.lean ====
section
/-! DEFINITION. The statements for the provers. `s.ledger` is all of the state but the channel front, the same-line
queues, the port, the line's work, the order taker, the writer's rotation and attention; an equation about it says
what changes there and that nothing else of it does. -/

open Sys2Proof Sys2Proof.Machine

/-! ### The machine as a whole -/

/-- A step carries out the command at the front of the queue with the queue's rest, and idles on an empty queue
(idling is the model's choice, log entry 4). -/
def Obligations.StepRunsTheFrontCommand : Prop :=
  (∀ (c : Instr) (rest : List Instr) (s : State),
    step { s with pending := c :: rest } = exec c { s with pending := rest }) ∧
  ∀ s : State, s.pending = [] → step s = .next s

/-- Every command answers a next state, leaves the commands that wait alone, and keeps the device key and the
cartridge family secret. That every command answers a next state is the model's choice: no meaning stops (log entry
12), and a command whose event cannot take place answers the state as it is (log entry 1). -/
def Obligations.EveryCommandAnswersAndKeepsTheFuses : Prop :=
  ∀ (c : Instr) (s : State), ∃ t, exec c s = .next t ∧ t.pending = s.pending ∧ t.fuses = s.fuses

/-- The state after a cold reset, under every strap, meets every law that the other statements say each step keeps. -/
def Obligations.ResetMeetsTheLaws : Prop :=
  ∀ (m : Fin 4) (c : Fin 2),
    let s := State.afterColdReset m c
    MemoryWf s.mem ∧ DrawInv s ∧ HoldInv s ∧ WarningsSet s ∧ WarnedExactly s ∧ SideListInv s ∧ OrdersInv s ∧
      RingInv s ∧ RegionInv s ∧ BindingInv s

/-- Every step keeps page memory in its canonical form. -/
def Obligations.StepKeepsMemoryCanonical : Prop :=
  ∀ s t : State, MemoryWf s.mem → step s = .next t → MemoryWf t.mem

/-- Every step keeps drawn = confirmed + owed + unproven + lost for every plane, with the bounds on uncertain debits and
owed draw that it rests on (R141, R154, R157). -/
def Obligations.StepKeepsDrawTotalsBalanced : Prop :=
  ∀ s t : State, DrawInv s → step s = .next t → DrawInv t

/-- Every step keeps each user's hold equal to the sum of the reserves of the user's sides that are ADMITTED or
METERING (R122), every user below the warn level WARNED, and every user WARNED exactly while below it (R124). -/
def Obligations.StepKeepsHoldsEqualToReserves : Prop :=
  (∀ s t : State, HoldInv s → step s = .next t → HoldInv t) ∧
  (∀ s t : State, WarningsSet s → step s = .next t → WarningsSet t) ∧
  ∀ s t : State, WarnedExactly s → step s = .next t → WarnedExactly t

/-- Every step keeps at most 8 side records with distinct ids in range, and a METERING side as the oldest one that is
not SETTLED (R94, R96). -/
def Obligations.StepKeepsTheSideListInOrder : Prop :=
  ∀ s t : State, SideListInv s → step s = .next t → SideListInv t

/-- Every step keeps the bounds of the order queue, the holding list and the parked-order list (R166, R169, R171). -/
def Obligations.StepKeepsTheOrderListsBounded : Prop :=
  ∀ s t : State, OrdersInv s → step s = .next t → OrdersInv t

/-- Every step keeps the ring indices in the ring and at most one return on its way, whose slot is free, so that no
unread return is overwritten (R178, R179). -/
def Obligations.StepKeepsTheRingSound : Prop :=
  ∀ s t : State, RingInv s → step s = .next t → RingInv t

/-- Every step keeps the regions of the map inside memory, outside the control area and apart from one another, and
the bands of one plane in one geometry (R10). -/
def Obligations.StepKeepsTheRegionMapDisjoint : Prop :=
  ∀ s t : State, RegionInv s → step s = .next t → RegionInv t

/-- Every step keeps each job's bound-region count equal to the number of LIVE regions bound to its slot, and no
region bound to a FREE slot (R9, R14, R32). -/
def Obligations.StepKeepsBoundRegionCounts : Prop :=
  ∀ s t : State, BindingInv s → step s = .next t → BindingInv t

/-- A REJECTED verdict is cleared only by removal or cold reset: every other command leaves the slot REJECTED, with
no work under way or due for it on the cartridge line. -/
def Obligations.RejectedVerdictEndsOnlyByRemoval : Prop :=
  ∀ (p : Plane) (c : Instr) (s : State), RejectedAtRest p s → endsRejected p c = false →
    ∃ t, exec c s = .next t ∧ RejectedAtRest p t

/-- A wrapped key unwraps to its key under its device key and kind, to nothing under another kind, and two wraps with
different fresh values differ (R25). The fresh value of a draw is the model's permutation of the draw's number. -/
def Obligations.WrappedKeysUnwrapForTheirKindOnly : Prop :=
  ∀ (dk : BitVec 256) (n m : Nat) (key : Key) (kind other : JobKind),
    unwrapKey dk kind (wrapKey dk n key kind) = some key ∧
    (other ≠ kind → unwrapKey dk other (wrapKey dk n key kind) = none) ∧
    (n % 2 ^ 64 ≠ m % 2 ^ 64 → wrapKey dk n key kind ≠ wrapKey dk m key kind)

/-! ### The channel, the memory port and the return writer -/

/-- A cold reset empties every table, list, queue and record, gives the registers their reset values, sets the header
and the summary line to be written, and keeps page memory and the fuse values (section 2.3). That the presence inputs
and what waits on the channel stay is the model's choice (log entry 8). -/
def Obligations.ColdResetEmptiesThePart : Prop :=
  ∀ (m : Fin 4) (c : Fin 2) (s : State), ∃ t, exec (.coldReset m c) s = .next t ∧
    t.mem = s.mem ∧ t.fuses = s.fuses ∧ t.cartridges.pins = s.cartridges.pins ∧
    t.channel.waiting = s.channel.waiting ∧ t.channel.outstanding = [] ∧ t.channel.heldOrders = [] ∧
    t.accepting = false ∧ t.port.upstream = [] ∧ t.port.own = [.header, .summary] ∧ t.port.last = .upstream ∧
    (∀ i : Fin 8, t.protection.table[i] = none) ∧ t.protection.waitList = [] ∧ t.protection.queues = [] ∧
    (∀ i : Fin 32, t.classifier.regions[i] = none) ∧ (∀ i : Fin 64, t.classifier.sources[i] = .general) ∧
    t.classifier.memLines = 16777216 * 2 ^ m.val ∧
    t.classifier.controlBase = (if c = 0 then 0 else 16777216 * 2 ^ m.val - 512) ∧
    (∀ i : Fin 16, t.jobs[i] = none) ∧
    (∀ p : Plane, t.unattributed[p] = { sum := 0, tally := 0, saturated := false }) ∧
    (∀ i : Fin 64, t.accounts.users[i] = none) ∧ t.accounts.retired = Vector.replicate 8 0 ∧
    t.accounts.meters =
      { sides := Vector.replicate 8 0, unaccounted := 0, unattributed := Vector.replicate 4 0, blanked := 0 } ∧
    t.accounts.restore = none ∧
    t.sides.records = [] ∧ t.sides.settledOrder = [] ∧ t.sides.nextId = 1 ∧ t.sides.strict = true ∧
    t.store.liveGen = 0 ∧ t.store.live = t.store.staged ∧ t.store.pending = none ∧
    t.store.live =
      { curves := Vector.replicate 4
          #v[0, 256, 512, 768, 1024, 1280, 1536, 1792, 2048, 2304, 2560, 2816, 3072, 3328, 3584, 3840, 4095]
        factors := Vector.replicate 4 1000, colourThreshold := 10, bound1 := 500, bound2 := 2000
        prices := Vector.replicate 6 0, mask := 0xF#4 } ∧
    (∀ p : Plane, t.cartridges.slots[p] = CartridgeSlot.empty) ∧ t.cartridges.absent = [] ∧
    (∀ p : Plane, t.cartridges.totals[p] = { drawn := 0, confirmed := 0, unproven := 0, lost := 0 }) ∧
    t.cartridges.policy = { requireGenuine := 0, interval := 500, threshold := 4096, lowMark := 200000 } ∧
    t.cartridges.line = none ∧ t.cartridges.position = 3 ∧
    t.orders.queue = [] ∧ t.orders.parked = [] ∧ t.orders.completed = [] ∧ t.orders.holding = [] ∧
    t.orders.resetWait = none ∧ t.orders.resetSequence = [] ∧
    t.writer.writeIndex = 0 ∧ t.writer.readIndex = 0 ∧ t.writer.epoch = 0 ∧ t.writer.notices = 0 ∧
    t.writer.userMap = 0 ∧ t.writer.enables = 0x00FFFF3F#32 ∧ t.writer.position = .snapshots

/-- A request that reaches memory goes on under the treatment that its place, class and direction give it: plain lines,
a GENERAL read of the control area, a write to the order window that is no order, and unbound regions pass, the metered
ones with the side that is METERING at the arrival; an ORPHAN region gives a GENERAL read raw; a bound region uses its
job's key as R41 and R42 say, and its job's line count counts it, at its maximum without a notice, which is the model's
reading (log entry 21). It joins the upstream stream, or the same-line queue where a merge claim is on its line. A
partial enciphering write on a line without a claim takes a merge entry, or waits for one (R48); that it is the
lowest-numbered free entry is the model's choice (log entry 20). A write to the order window that is no order waits
behind an order-take write of its line that waits for a queue place (R51; the model's reading, log entry 19). A write
with no enable on is answered OKAY where it would have reached memory, and nothing is stored or counted (R3). -/
def Obligations.PlainRequestGoesToThePort : Prop :=
  (∀ (tag : Fin 64) (line : Nat) (access : Access) (s : State),
    s.accepting = true → (∀ mask data, access = .write mask data → mask ≠ 0) →
    let cls := s.classifier.sources[tag]
    let base := s.classifier.controlBase
    let request := fun (place : Place) (treatment : Treatment) (carried : Access) =>
      ({ id := s.channel.nextId, tag, cls, line, access := carried, place, treatment } : Req)
    let arrived := fun (t : State) => exec (.lineRequest tag line access) s = .next t ∧
      t.channel.outstanding = s.channel.outstanding ++ [{ id := s.channel.nextId, tag, answer := none }] ∧
      t.channel.returned = s.channel.returned ∧ t.orders.queue = s.orders.queue
    let goesOn := fun (l : Ledger) (r : Req) =>
      ((∀ q ∈ s.protection.queues, q.line ≠ line) →
        ∃ t, arrived t ∧ t.ledger = l ∧ t.port.upstream = s.port.upstream ++ [r] ∧
          t.protection.queues = s.protection.queues) ∧
      ((∃ q ∈ s.protection.queues, q.line = line) →
        ∃ t, arrived t ∧ t.ledger = l ∧ t.port.upstream = s.port.upstream ∧
          t.protection.queues = s.protection.queues.map fun q =>
            if q.line = line then { q with queue := q.queue ++ [{ r with queued := true }] } else q)
    (line < s.classifier.memLines → ¬(base ≤ line ∧ line < base + 512) →
      (∀ i : Fin 32, ∀ r ∈ s.classifier.regions[i], ¬(r.base ≤ line ∧ line < r.base + r.size)) →
      goesOn s.ledger (request .plain .pass access)) ∧
    (line < s.classifier.memLines → base ≤ line → line < base + 512 → cls = .general →
      let here := request (.control (line - base)) .pass access
      let noOrder := base + 2 ≤ line ∧ line < base + 64 ∧
        ∃ mask data, access = .write mask data ∧ (mask ≠ BitVec.allOnes 64 ∨ byteAt data 0 = 0#8)
      (access = .read ∨ (noOrder ∧ ∀ q ∈ s.channel.heldOrders, q.line ≠ line) → goesOn s.ledger here) ∧
      (noOrder → (∃ q ∈ s.channel.heldOrders, q.line = line) →
        ∃ t, arrived t ∧ t.ledger = s.ledger ∧ t.port.upstream = s.port.upstream ∧
          t.protection.queues = s.protection.queues ∧
          t.channel.heldOrders = s.channel.heldOrders ++ [here])) ∧
    ∀ (i : Fin 32) (r : Region), s.LineIn line i r →
      let go := fun (l : Ledger) (treatment : Treatment) => goesOn l (request (.region i r.uid) treatment access)
      (r.state = .orphan → cls = .general → access = .read → go s.ledger .rawRead) ∧
      (r.state = .live → r.job = none → ¬(cls = .readout ∧ r.kind ≠ .priv ∧ access = .read) → go s.ledger .pass) ∧
      (∀ p d n, r.state = .live → r.job = none → cls = .readout → r.kind = .band p d n → access = .read →
        (∀ m, s.meteringSide = some m → hasPlane m.planes p = true →
          go s.ledger (.meter { plane := p, depth := d, side := some m.uid })) ∧
        (s.meteringSide = none → s.sides.strict = false →
          go s.ledger (.meter { plane := p, depth := d, side := none }))) ∧
      (∀ (k : Fin 16) (j : Job), r.state = .live → r.job = some k → s.jobs[k] = some j →
        let c : Cipher := { job := k, key := j.key, offset := line - r.base }
        let counted : Ledger := { s.ledger with
          jobs := put s.jobs k (some { j with lines := min 4294967295 (j.lines + 1) }) }
        let usesKey := cls = .pipe ∨ (cls = .intake ∧ r.kind = .priv)
        (cls = .general → access ≠ .read → go s.ledger .rawWrite) ∧
        (cls = .general → access = .read → j.release = .sealed → go s.ledger .rawRead) ∧
        (cls = .general → access = .read → j.release = .released → go counted (.decipherRead c)) ∧
        (usesKey → access = .read → go counted (.decipherRead c)) ∧
        (∀ p d n m, cls = .readout → r.kind = .band p d n → access = .read → s.meteringSide = some m →
          m.jobSlot = k → hasPlane m.planes p = true →
          go counted (.decipherAndMeter c { plane := p, depth := d, side := some m.uid })) ∧
        (∀ mask data, usesKey → access = .write mask data →
          (mask = BitVec.allOnes 64 →
            goesOn counted (request (.region i r.uid) (.encipherWrite c)
              (.write mask (encipher j.key (line - r.base) data)))) ∧
          (mask ≠ BitVec.allOnes 64 →
            let claim := request (.region i r.uid) (.merge c) access
            ((∃ q ∈ s.protection.queues, q.line = line) → go counted (.merge c)) ∧
            ((∀ q ∈ s.protection.queues, q.line ≠ line) →
              (∀ n : Fin 8, s.protection.table[n] = none → (∀ b : Fin 8, b < n → s.protection.table[b] ≠ none) →
                j.lines < 4294967295 →
                ∃ t phase more, arrived t ∧ t.port.upstream = s.port.upstream ∧
                  t.protection.queues = s.protection.queues ++ [{ line, queue := [] }] ∧
                  t.ledger = { s.ledger with
                    merges := put s.protection.table n (some { req := claim, phase, merged := none })
                    jobs := put s.jobs k (some { j with merges := j.merges + 1 }) } ∧
                  ((∀ q ∈ s.port.upstream, q.line ≠ line) →
                    phase = .reading ∧ t.port.own = s.port.own ++ .mergeRead n :: more) ∧
                  ((∃ q ∈ s.port.upstream, q.line = line) → phase = .ordering)) ∧
              ((∀ n : Fin 8, s.protection.table[n] ≠ none) →
                ∃ t, arrived t ∧ t.port.upstream = s.port.upstream ∧
                  t.protection.queues = s.protection.queues ++ [{ line, queue := [] }] ∧
                  t.ledger = { counted with claims := s.protection.waitList ++ [claim] })))))) ∧
  ∀ (tag : Fin 64) (line : Nat) (data : Line) (s : State),
    s.accepting = true → (∀ o ∈ s.channel.outstanding, o.tag ≠ tag) → line < s.classifier.memLines →
    let cls := s.classifier.sources[tag]
    let base := s.classifier.controlBase
    let nothingStored :=
      ∃ t, exec (.lineRequest tag line (.write 0 data)) s = .next t ∧ t.ledger = s.ledger ∧
        t.port.upstream = s.port.upstream ∧ t.protection.queues = s.protection.queues ∧
        t.orders.queue = s.orders.queue ∧
        { id := s.channel.nextId, tag, answer := { status := .okay, data := none } } ∈ t.channel.returned
    (¬(base ≤ line ∧ line < base + 512) →
      (∀ i : Fin 32, ∀ r ∈ s.classifier.regions[i], ¬(r.base ≤ line ∧ line < r.base + r.size)) → nothingStored) ∧
    (base + 1 ≤ line → line < base + 64 → cls = .general → nothingStored) ∧
    ∀ (i : Fin 32) (r : Region), s.LineIn line i r → ¬r.turnsAway cls (.write 0 data) →
      (∀ k, r.job = some k → s.jobs[k] ≠ none) → nothingStored

/-- A request beyond memory, by a class other than GENERAL in the control area, a GENERAL write to the summary line or
the return ring, and a request that a region's state, kind or binding turns away, is answered at its arrival, a read
WITHHELD with a line of zeros and a write REFUSED; it reaches neither memory nor the port, it raises ACCESS, and only a
region counts it. A READOUT read of a band that is blanked is answered OKAY with zeros and counted for the METERING side
and the device, for the device, or as unattributed. That a count of blanked reads at its maximum raises SATURATION at
every further one is the model's choice for a side's count (log entry 25). -/
def Obligations.RequestBeyondMemoryIsTurnedAway : Prop :=
  ∀ (tag : Fin 64) (line : Nat) (access : Access) (s : State),
    s.accepting = true → (∀ o ∈ s.channel.outstanding, o.tag ≠ tag) →
    let cls := s.classifier.sources[tag]
    let base := s.classifier.controlBase
    let meters := s.accounts.meters
    let answers := fun (l : Ledger) (answer : Answer) =>
      ∃ t, exec (.lineRequest tag line access) s = .next t ∧ t.ledger = l ∧ t.port.upstream = s.port.upstream ∧
        t.orders.queue = s.orders.queue ∧ { id := s.channel.nextId, tag, answer } ∈ t.channel.returned
    let denied : Answer := match access with
      | .read => { status := .withheld, data := some 0 }
      | .write _ _ => { status := .refused, data := none }
    let zeros : Answer := { status := .okay, data := some 0 }
    (s.classifier.memLines ≤ line → answers { s.ledger with notices := s.writer.notices ||| 1#32 } denied) ∧
    (line < s.classifier.memLines → base ≤ line → line < base + 512 →
      (cls ≠ .general ∨ (access ≠ .read ∧ (line = base ∨ base + 64 ≤ line))) →
      answers { s.ledger with notices := s.writer.notices ||| 1#32 } denied) ∧
    ∀ (i : Fin 32) (r : Region), s.LineIn line i r →
      (r.turnsAway cls access →
        answers { s.ledger with
          classifier := { s.classifier with
            regions := put s.classifier.regions i (some { r with refusals := min 65535 (r.refusals + 1) }) }
          notices := s.writer.notices ||| (if r.refusals < 65535 then 1#32 else 9#32) } denied) ∧
      (∀ p d n, r.state = .live → cls = .readout → r.kind = .band p d n → access = .read →
        (∀ m, s.meteringSide = some m → hasPlane m.planes p = false ∨
            (∃ k, r.job = some k ∧ k ≠ m.jobSlot ∧ s.jobs[k] ≠ none) → (∀ k, r.job = some k → s.jobs[k] ≠ none) →
          answers { s.ledger with
            sides := { s.sides with records := s.sides.records.map fun x =>
              if x.uid = m.uid then { x with blanked := min 4294967295 (m.blanked + 1) } else x }
            accounts := { s.accounts with meters := { meters with blanked := min 4294967295 (meters.blanked + 1) } }
            notices := s.writer.notices |||
              (if m.blanked + 1 < 4294967295 ∧ meters.blanked < 4294967295 then 0#32 else 8#32) } zeros) ∧
        (∀ k, s.meteringSide = none → r.job = some k → s.jobs[k] ≠ none →
          answers { s.ledger with
            accounts := { s.accounts with meters := { meters with blanked := min 4294967295 (meters.blanked + 1) } }
            notices := s.writer.notices ||| (if meters.blanked < 4294967295 then 0#32 else 8#32) } zeros) ∧
        (s.meteringSide = none → r.job = none → s.sides.strict = true →
          answers { s.ledger with
            accounts := { s.accounts with meters := { meters with
              unattributed := put meters.unattributed p (min 4294967295 (meters.unattributed[p] + 1)) } }
            notices := s.writer.notices ||| (if meters.unattributed[p] < 4294967295 then 4#32 else 12#32) } zeros))

/-- A full-line write by a GENERAL master to the order window with a kind byte that is not 0 is taken into the queue
while it has a place, with its kind, serial and arguments, and goes on as a pass; with a full queue it waits at the
channel front and is neither stored nor taken. When an order leaves the queue, here one whose kind names no order, the
oldest waiting write is taken, and the writes to its line behind it, up to the next order, follow it to the port (R51,
R166; the model's reading, log entry 19). -/
def Obligations.OrderWriteIsTakenOrHeld : Prop :=
  (∀ (tag : Fin 64) (w : Nat) (data : Line) (s : State),
    s.accepting = true → s.classifier.sources[tag] = .general → 2 ≤ w → w ≤ 63 → data.extractLsb' 0 8 ≠ 0#8 →
    s.classifier.controlBase + 512 ≤ s.classifier.memLines →
    (∀ q ∈ s.protection.queues, q.line ≠ s.classifier.controlBase + w) →
    let r : Req := { id := s.channel.nextId, tag, cls := .general, line := s.classifier.controlBase + w,
                     access := .write (BitVec.allOnes 64) data, place := .control w, treatment := .orderTake }
    ∃ t, exec (.orderTake tag w data) s = .next t ∧ t.ledger = s.ledger ∧ t.channel.returned = s.channel.returned ∧
      (s.orders.queue.length < 8 →
        t.orders.queue = s.orders.queue ++
          [{ window := w, kind := data.extractLsb' 0 8, serial := data.extractLsb' 8 16,
             args := data.extractLsb' 24 488 }] ∧
        t.port.upstream = s.port.upstream ++ [r] ∧ t.channel.heldOrders = s.channel.heldOrders) ∧
      (8 ≤ s.orders.queue.length →
        t.orders.queue = s.orders.queue ∧ t.port.upstream = s.port.upstream ∧
        t.channel.heldOrders = s.channel.heldOrders ++ [r])) ∧
  ∀ (s : State) (e : OrderEntry) (rest : List OrderEntry) (r : Req) (later : List Req) (mask : ByteMask)
      (data : Line) (w : Nat),
    s.Executes e.kind e rest → e.kind ∉ orderKinds → rest.length < 8 → s.channel.heldOrders = r :: later →
    r.access = .write mask data → r.place = .control w → (∀ q ∈ s.protection.queues, q.line ≠ r.line) →
    let next := later.findIdx fun q => decide (q.line = r.line) && decide (q.treatment = .orderTake)
    let ahead := later.take next
    ∃ t, exec .badOrder s = .next t ∧ Answered s t e rest (some .badOrder) [] ∧ t.ledger = s.ledger ∧
      t.orders.queue = rest ++
        [{ window := w, kind := data.extractLsb' 0 8, serial := data.extractLsb' 8 16
           args := data.extractLsb' 24 488 }] ∧
      t.port.upstream = s.port.upstream ++ r :: ahead.filter fun q => decide (q.line = r.line) ∧
      t.channel.heldOrders = (ahead.filter fun q => decide (q.line ≠ r.line)) ++ later.drop next

/-- A GENERAL write to the ring header moves the read-index copy at its arrival: not without both bytes of the field,
not for 448 or more, to the offered value over unread returns, and otherwise to the write index. -/
def Obligations.HeaderWriteMovesTheReadIndex : Prop :=
  ∀ (tag : Fin 64) (mask : ByteMask) (data : Line) (s : State),
    s.accepting = true → s.classifier.sources[tag] = .general → mask ≠ 0 →
    s.classifier.controlBase + 512 ≤ s.classifier.memLines →
    (∀ q ∈ s.protection.queues, q.line ≠ s.classifier.controlBase + 1) →
    let v := (data.extractLsb' 16 16).toNat
    let old := s.writer.readIndex
    let new :=
      if mask.getLsbD 2 = false ∨ mask.getLsbD 3 = false ∨ 448 ≤ v then old
      else if (v + 448 - old) % 448 ≤ (s.writer.writeIndex + 448 - old) % 448 then v
      else s.writer.writeIndex
    ∃ t, exec (.ringHeaderWrite tag mask data) s = .next t ∧ t.ledger = { s.ledger with readIndex := new } ∧
      t.port.upstream = s.port.upstream ++
        [{ id := s.channel.nextId, tag, cls := .general, line := s.classifier.controlBase + 1,
           access := .write mask data, place := .control 1, treatment := .headerWrite }]

/-- The grant of the oldest upstream line, a write that passes or stores raw, stores its enabled bytes, leaves every
other byte of page memory alone, and answers OKAY; the grant of a header write stores the whole header line as the
writer then has it, whatever the write's data and mask. A merge waiting for the line may issue its read. -/
def Obligations.UpstreamGrantStoresAWrite : Prop :=
  (∀ (s : State) (r : Req) (rest : List Req) (mask : ByteMask) (data : Line),
    MemoryWf s.mem → s.orders.resetWait = none → s.port.upstream = r :: rest → s.upstreamTurn = true →
    r.access = .write mask data → (r.treatment = .pass ∨ r.treatment = .rawWrite ∨ r.treatment = .orderTake) →
    ∃ t, exec .upstreamGrant s = .next t ∧ t.port.upstream = rest ∧ t.port.last = .upstream ∧
      t.ledger = { s.ledger with mem := t.mem, merges := t.protection.table } ∧
      ((∀ i : Fin 8, ∀ e ∈ s.protection.table[i], e.req.line ≠ r.line) →
        t.protection.table = s.protection.table) ∧
      (∀ a, StoredByte r.line mask a → readByte t.mem a = byteAt data (a - 64 * r.line)) ∧
      (∀ a, ¬StoredByte r.line mask a → readByte t.mem a = readByte s.mem a) ∧
      (s.channel.outstanding.head? = some { id := r.id, tag := r.tag, answer := none } →
        { id := r.id, tag := r.tag, answer := { status := .okay, data := none } } ∈ t.channel.returned)) ∧
  ∀ (s : State) (r : Req) (rest : List Req),
    MemoryWf s.mem → s.orders.resetWait = none → s.port.upstream = r :: rest → s.upstreamTurn = true →
    r.treatment = .headerWrite →
    ∃ t, exec .upstreamGrant s = .next t ∧ t.port.upstream = rest ∧ t.port.last = .upstream ∧
      t.ledger = { s.ledger with mem := t.mem, merges := t.protection.table } ∧
      readLine t.mem r.line = lineOfVals
        [u16 s.writer.writeIndex, u16 s.writer.readIndex, u16 448, u16 s.store.liveGen, u16 s.writer.epoch] ∧
      (∀ a, ¬(64 * r.line ≤ a ∧ a < 64 * r.line + 64) → readByte t.mem a = readByte s.mem a) ∧
      (s.channel.outstanding.head? = some { id := r.id, tag := r.tag, answer := none } →
        { id := r.id, tag := r.tag, answer := { status := .okay, data := none } } ∈ t.channel.returned)

/-- The grant of a read that passes or is raw returns the stored line and changes no table. The grant of a deciphering
read returns the stored line deciphered under the key and the offset it arrived with, leaves page memory alone, and
takes the read out of its job's line count, which completes the close of a CLOSING job whose last work it was. The grant
of a metered read returns the stored line, or the deciphered one, and meters the returned line to the side fixed at the
arrival while that side is METERING, needs the plane and has lines of it to come: its sum, pixels, line count and
signature. The line that completes the readout closes the side COMPLETE with its settlement, and the close of a CLOSING
job whose last side it is, and its draw goes to the owed draw of the slot or of the absent-list entry that holds the
recorded serial, or to the unproven total; a line of no such side is unattributed. Line sum, signature and close figures
are those of the formulas of R60 to R63, R67 and R69 to R73. That entries of the absent list are found by serial and
plane is the model's choice (log entry 10). -/
def Obligations.UpstreamGrantDeciphersARead : Prop :=
  MetersByTheRules ∧
  (∀ (s : State) (r : Req) (rest : List Req),
    s.orders.resetWait = none → s.port.upstream = r :: rest → s.upstreamTurn = true → r.access = .read →
    r.treatment = .pass ∨ r.treatment = .rawRead →
    ∃ t, exec .upstreamGrant s = .next t ∧ t.port.upstream = rest ∧ t.port.last = .upstream ∧
      t.ledger = { s.ledger with merges := t.protection.table } ∧
      ((∀ i : Fin 8, ∀ e ∈ s.protection.table[i], e.req.line ≠ r.line) →
        t.protection.table = s.protection.table) ∧
      (s.channel.outstanding.head? = some { id := r.id, tag := r.tag, answer := none } →
        { id := r.id, tag := r.tag, answer := { status := .okay, data := some (readLine s.mem r.line) } } ∈
          t.channel.returned)) ∧
  (∀ (s : State) (r : Req) (rest : List Req) (c : Cipher) (j : Job),
    s.orders.resetWait = none → s.port.upstream = r :: rest → s.upstreamTurn = true → r.access = .read →
    r.treatment = .decipherRead c → s.jobs[c.job] = some j →
    let granted := fun (t : State) => exec .upstreamGrant s = .next t ∧ t.port.upstream = rest ∧
      (s.channel.outstanding.head? = some { id := r.id, tag := r.tag, answer := none } →
        { id := r.id, tag := r.tag,
          answer := { status := .okay, data := some (decipher c.key c.offset (readLine s.mem r.line)) } } ∈
            t.channel.returned)
    (j.state = .active ∨ j.sides ≠ 0 ∨ j.merges ≠ 0 ∨ 1 < j.lines →
      ∃ t, granted t ∧ t.ledger = { s.ledger with
        jobs := put s.jobs c.job (some { j with lines := j.lines - 1 }), merges := t.protection.table }) ∧
    (∀ voided p before after, j.state = .closing → j.sides = 0 → j.merges = 0 → j.lines = 1 →
      CloseParked s c.job voided p before after →
      ∃ t, granted t ∧ JobCloses s t c.job j voided p before after ∧
        t.ledger = { s.ledger with
          jobs := t.jobs, classifier := t.classifier, merges := t.protection.table })) ∧
  ∀ (s : State) (r : Req) (rest : List Req) (m : Readout),
    s.orders.resetWait = none → s.port.upstream = r :: rest → s.upstreamTurn = true → r.access = .read →
    let stored := readLine s.mem r.line
    let granted := fun (t : State) (l : Line) => exec .upstreamGrant s = .next t ∧ t.port.upstream = rest ∧
      (s.channel.outstanding.head? = some { id := r.id, tag := r.tag, answer := none } →
        { id := r.id, tag := r.tag, answer := { status := .okay, data := some l } } ∈ t.channel.returned)
    let sumOf := fun l : Line => lineSum s.store.live.curves[m.plane] m.depth l
    let meters := s.accounts.meters
    let u := s.unattributed[m.plane]
    let lineLeft := fun (c : Cipher) (j : Job) => put s.jobs c.job (some { j with lines := j.lines - 1 })
    let unattributed := fun (l : Line) => ({ s.ledger with
      unattributed := put s.unattributed m.plane
        { sum := min 1099511627775 (u.sum + sumOf l), tally := min 4294967295 (u.tally + 1)
          saturated := u.saturated || decide (1099511627775 < u.sum + sumOf l) }
      accounts := { s.accounts with meters := { meters with
        unattributed := put meters.unattributed m.plane (min 4294967295 (meters.unattributed[m.plane] + 1)) } }
      notices := s.writer.notices ||| (if u.sum + sumOf l ≤ 1099511627775 ∧
        meters.unattributed[m.plane] < 4294967295 then 4#32 else 12#32) } : Ledger)
    ((∀ x, s.meteringSide = some x → ¬(m.side = some x.uid ∧ hasPlane x.planes m.plane = true ∧
        (x.meterOf m.plane).lines < x.expected[m.plane])) →
      (r.treatment = .meter m →
        ∃ t, granted t stored ∧ t.ledger = { unattributed stored with merges := t.protection.table }) ∧
      (∀ (c : Cipher) (j : Job), r.treatment = .decipherAndMeter c m → s.jobs[c.job] = some j →
        j.state = .active ∨ j.sides ≠ 0 ∨ j.merges ≠ 0 ∨ 1 < j.lines →
        let l := decipher c.key c.offset stored
        ∃ t, granted t l ∧ t.ledger = { unattributed l with
          merges := t.protection.table, jobs := lineLeft c j })) ∧
    ∀ (x : Side) (context : MeterContext) (pm : PlaneMeter) (l : Line),
      SidesNumbered s.sides → s.meteringSide = some x → m.side = some x.uid → hasPlane x.planes m.plane = true →
      x.context = some context → context.planes[m.plane] = some pm → pm.lines < x.expected[m.plane] →
      pm.sum + sumOf l ≤ 1099511627775 → pm.pixels + 512 / m.depth < 4294967295 → pm.lines + 1 < 4294967295 →
      let after : PlaneMeter :=
        { sum := pm.sum + sumOf l, pixels := pm.pixels + 512 / m.depth, lines := pm.lines + 1 }
      let signature :=
        if hasPlane s.store.live.mask m.plane then foldLine context.signature l else context.signature
      let metered : Side := { x with
        context := some { context with planes := put context.planes m.plane (some after), signature } }
      let recorded := fun close : Side → Side => s.sides.records.map fun y =>
        if y.uid = x.uid then close { y with context := metered.context } else y
      ((∃ p : Plane, hasPlane x.planes p = true ∧ (metered.meterOf p).lines ≠ x.expected[p]) →
        (r.treatment = .meter m → l = stored →
          ∃ t, granted t l ∧ t.ledger = { s.ledger with
            merges := t.protection.table, sides := { s.sides with records := recorded id } }) ∧
        (∀ (c : Cipher) (j : Job), r.treatment = .decipherAndMeter c m → l = decipher c.key c.offset stored →
          s.jobs[c.job] = some j → j.state = .active ∨ j.sides ≠ 0 ∨ j.merges ≠ 0 ∨ 1 < j.lines →
          ∃ t, granted t l ∧ t.ledger = { s.ledger with
            merges := t.protection.table, sides := { s.sides with records := recorded id }
            jobs := lineLeft c j })) ∧
      ((∀ p : Plane, hasPlane x.planes p = true → (metered.meterOf p).lines = x.expected[p]) →
        ∀ (j left : Job) (owner : User), s.jobs[x.jobSlot] = some j → s.accounts.users[x.userSlot] = some owner →
          RoomToSettle s x j owner →
          (r.treatment = .meter m ∧ l = stored ∧ left = j) ∨
            (∃ c : Cipher, r.treatment = .decipherAndMeter c m ∧ c.job = x.jobSlot ∧
              l = decipher c.key c.offset stored ∧ (j.state = .active ∨ 0 < j.sides) ∧
              left = { j with lines := j.lines - 1 }) →
          let closes := fun (t : State) => granted t l ∧
            t.sides = { s.sides with
              settledOrder := s.sides.settledOrder ++ [x.uid]
              records := recorded (closedRecord s metered .complete (min x.reserve (livePrice s metered))
                (decide (x.reserve < livePrice s metered))) } ∧
            t.mem = s.mem ∧ t.store = s.store ∧ t.unattributed = s.unattributed ∧
            t.accounts.retired = s.accounts.retired ∧ t.accounts.restore = s.accounts.restore ∧
            t.accounts.meters.unattributed = meters.unattributed ∧
            t.accounts.meters.blanked = meters.blanked ∧ t.accounts.meters.unaccounted = meters.unaccounted
          (left.keepsSlot →
            ∃ t, closes t ∧ SettlesAs s t metered left owner (fun _ => none) ∧ t.classifier = s.classifier) ∧
          (∀ voided p before after, left.state = .closing → left.sides = 1 → left.merges = 0 → left.lines = 0 →
            CloseParked s x.jobSlot voided p before after →
            ∃ t, closes t ∧ SettlesOwner s t metered owner (fun _ => none) ∧
              JobCloses s t x.jobSlot { left with settled := j.settled + 1 } voided p before after))

/-- The grant of an enciphering write, which carries the ciphertext of a line, leaves in page memory what deciphers to
that line under the same key and offset, changes no byte of another line, and counts the line for its ACTIVE job. -/
def Obligations.EncipheredLineReadsBack : Prop :=
  ∀ (s : State) (r : Req) (rest : List Req) (c : Cipher) (j : Job) (l : Line),
    MemoryWf s.mem → s.orders.resetWait = none → s.port.upstream = r :: rest → s.upstreamTurn = true →
    r.access = .write (BitVec.allOnes 64) (encipher c.key c.offset l) → r.treatment = .encipherWrite c →
    s.jobs[c.job] = some j → j.state = .active → j.enciphered < 4294967295 →
    ∃ t, exec .upstreamGrant s = .next t ∧ decipher c.key c.offset (readLine t.mem r.line) = l ∧
      (∀ a, ¬(64 * r.line ≤ a ∧ a < 64 * r.line + 64) → readByte t.mem a = readByte s.mem a) ∧
      t.ledger = { s.ledger with
        mem := t.mem, merges := t.protection.table
        jobs := put s.jobs c.job (some { j with lines := j.lines - 1, enciphered := j.enciphered + 1 }) }

/-- A merge entry in ORDERING issues its read when no request to its line waits for the port; at the read's grant it
is WRITING, with a line that deciphers to the stored line with the enabled bytes replaced. MERGE_READ_ISSUE as a command
of its own is the model's choice (log entry 3). -/
def Obligations.MergeReadsAndOverlays : Prop :=
  (∀ (s : State) (i : Fin 8) (e : MergeEntry),
    s.orders.resetWait = none → s.protection.table[i] = some e → e.phase = .ordering →
    (∀ q ∈ s.port.upstream, q.line ≠ e.req.line) →
    ∃ t more, exec (.mergeReadIssue i) s = .next t ∧ t.port.own = s.port.own ++ .mergeRead i :: more ∧
      t.ledger = { s.ledger with merges := put s.protection.table i (some { e with phase := .reading }) }) ∧
  (∀ (s : State) (i : Fin 8) (e : MergeEntry) (c : Cipher) (mask : ByteMask) (data : Line) (rest : List OwnLine),
    s.orders.resetWait = none → s.ownTurn = true → s.port.own = .mergeRead i :: rest →
    s.protection.table[i] = some e → e.req.treatment = .merge c → e.req.access = .write mask data →
    ∃ t more merged, exec .mergeReadGrant s = .next t ∧ t.port.own = rest ++ .mergeWrite i :: more ∧
      t.ledger = { s.ledger with
        merges := put s.protection.table i (some { e with phase := .writing, merged := some merged }) } ∧
      ∀ b < 64, byteAt (decipher c.key c.offset merged) b =
        if mask.getLsbD b then byteAt data b
        else byteAt (decipher c.key c.offset (readLine s.mem e.req.line)) b)

/-- The acceptance of a merge's write-back stores the merged line and no other byte, answers the write OKAY, lowers the
merge count and raises the enciphered-lines total of its ACTIVE job, and serves the line's same-line queue: the requests
before the first merge claim join the upstream stream, and that claim takes over the entry. Without one the claim on the
line ends, and the entry goes to the oldest claim of the entry wait list or is free (R50). A claim that is given the
entry moves from its job's line count to its merge count and begins in ORDERING, or READING when no request to its line
waits for the port. -/
def Obligations.MergeWritebackCompletesTheMerge : Prop :=
  ∀ (s : State) (i : Fin 8) (e : MergeEntry) (c : Cipher) (j : Job) (l : Line) (rest : List OwnLine),
    MemoryWf s.mem → s.orders.resetWait = none → s.orders.parked = [] → s.ownTurn = true →
    s.port.own = .mergeWrite i :: rest → s.protection.table[i] = some e → e.merged = some l →
    e.req.treatment = .merge c → s.jobs[c.job] = some j → j.state = .active → j.enciphered < 4294967295 →
    let line := e.req.line
    let jobs := put s.jobs c.job (some { j with merges := j.merges - 1, enciphered := j.enciphered + 1 })
    let accepted := fun (t : State) (tables : Ledger) (queues : List SameLine) (released : List Req) =>
      exec .mergeWritebackAccept s = .next t ∧ readLine t.mem line = l ∧
      (∀ a, ¬(64 * line ≤ a ∧ a < 64 * line + 64) → readByte t.mem a = readByte s.mem a) ∧
      t.ledger = { tables with mem := t.mem } ∧ t.protection.queues = queues ∧
      t.port.upstream = s.port.upstream ++ released ∧
      (s.channel.outstanding.head? = some { id := e.req.id, tag := e.req.tag, answer := none } →
        { id := e.req.id, tag := e.req.tag, answer := { status := .okay, data := none } } ∈ t.channel.returned)
    let given := fun (t : State) (q : Req) (d : Cipher) (phase : MergePhase) (tables : Ledger) =>
      tables = { s.ledger with
        claims := tables.claims
        merges := put s.protection.table i (some { req := q, phase, merged := none })
        jobs := put jobs d.job (jobs[d.job].map fun x => { x with lines := x.lines - 1, merges := x.merges + 1 }) } ∧
      ((∀ x ∈ t.port.upstream, x.line ≠ q.line) →
        phase = .reading ∧ ∃ more, t.port.own = rest ++ .mergeRead i :: more) ∧
      ((∃ x ∈ t.port.upstream, x.line = q.line) → phase = .ordering)
    let ended := s.protection.queues.filter fun q => decide (q.line ≠ line)
    ((∀ q ∈ s.queueOf line, q.isClaim = false) → s.protection.waitList = [] →
      ∃ t, accepted t { s.ledger with merges := put s.protection.table i none, jobs } ended (s.queueOf line)) ∧
    (∀ (q : Req) (d : Cipher) (waiting : List Req), (∀ x ∈ s.queueOf line, x.isClaim = false) →
      s.protection.waitList = q :: waiting → q.treatment = .merge d →
      ∃ t phase tables, accepted t tables ended (s.queueOf line) ∧ given t q d phase tables ∧
        tables.claims = waiting) ∧
    (∀ (ahead behind : List Req) (q : Req) (d : Cipher), s.queueOf line = ahead ++ q :: behind →
      (∀ x ∈ ahead, x.isClaim = false) → q.treatment = .merge d →
      ∃ t phase tables,
        accepted t tables
          (s.protection.queues.map fun x => if x.line = line then { x with queue := behind } else x) ahead ∧
        given t q d phase tables ∧ tables.claims = s.protection.waitList)

/-- The acceptance of a return stores its line in the ring slot of the write index and no other byte, and advances the
write index. Its owner is told: a RESULT leaves the holding list, or the reset sequence while one is written; a side
record counts the part and leaves the list after its last one; the parked export counts the return and completes DONE
with the record count and the tag after its last one. The next return is then issued, unless the ring is full: the offer
of the first owner, after the one served last, that has one, and of the order taker alone while a reset sequence lasts
(R180). The bytes of every return are those of R188 and R189. -/
def Obligations.AcceptedReturnEntersTheRing : Prop :=
  (∀ (s : State) (o : Owner) (l : Line) (rest : List OwnLine),
    MemoryWf s.mem → s.orders.resetWait = none → s.orders.completed = [] → s.ownTurn = true →
    s.port.own = .ret o l :: rest →
    let line := s.classifier.controlBase + 64 + s.writer.writeIndex
    let accepted := fun (t : State) (sides : SideList) => exec .returnAccept s = .next t ∧ readLine t.mem line = l ∧
      (∀ a, ¬(64 * line ≤ a ∧ a < 64 * line + 64) → readByte t.mem a = readByte s.mem a) ∧
      t.ledger = { s.ledger with mem := t.mem, writeIndex := (s.writer.writeIndex + 1) % 448, sides } ∧
      t.orders.queue = s.orders.queue
    (∀ (held : Result) (others : List Result), o = .orderTaker → s.orders.resetSequence = [] →
      s.orders.holding = held :: others →
      ∃ t, accepted t s.sides ∧ t.orders.holding = others ∧ t.orders.parked = s.orders.parked) ∧
    (∀ (first : Result) (others : List Result), o = .orderTaker → s.orders.resetSequence = first :: others →
      ∃ t, accepted t s.sides ∧ t.orders.resetSequence = others ∧ t.orders.holding = s.orders.holding ∧
        t.orders.parked = s.orders.parked) ∧
    (∀ (uid : Nat) (later : List Nat) (r : Side), o = .sideList → s.sides.settledOrder = uid :: later →
      s.sideWithUid uid = some r →
      let parts := if r.context = none then 1 else 4
      ∃ t, t.orders.holding = s.orders.holding ∧ t.orders.parked = s.orders.parked ∧
        accepted t (if r.partsWritten + 1 < parts then
            { s.sides with records := s.sides.records.map fun x =>
              if x.uid = uid then { x with partsWritten := x.partsWritten + 1 } else x }
          else
            { s.sides with
              records := s.sides.records.filter fun x => decide (x.uid ≠ uid), settledOrder := later })) ∧
    (∀ (p : ParkedOrder) (before after : List ParkedOrder) (copy : Snapshot) (tag : BitVec 256) (n : Nat),
      o = .snapshots → s.orders.parked = before ++ p :: after → p.object = .snapshot copy tag n →
      (∀ q ∈ before ++ after, q.object.isSnapshot = false) → s.orders.holding.length < 8 →
      (n + 1 < copy.users.length + 7 →
        ∃ t, accepted t s.sides ∧ t.orders.holding = s.orders.holding ∧
          t.orders.parked = before ++ { p with object := .snapshot copy tag (n + 1) } :: after) ∧
      (copy.users.length + 7 ≤ n + 1 →
        ∃ t, accepted t s.sides ∧ t.orders.parked = before ++ after ∧
          t.orders.holding = s.orders.holding ++
            [{ serial := p.serial, kind := p.kind, window := p.window, reason := none,
               values := [u16 (copy.users.length + 2), { width := 32, value := tag.toNat }] }])) ∧
    ((∀ q ∈ rest, q.isReturn = false) → ∃ t, exec .returnAccept s = .next t ∧
      let epoch := s.writer.epoch
      let alone := t.orders.resetSequence ≠ []
      let offer : Owner → Option Line := fun
        | .orderTaker => (t.orders.resetSequence ++ t.orders.holding).head?.map (resultLine epoch)
        | .sideList => if alone then none else t.sides.settledOrder.head?.bind fun uid =>
            (t.sideWithUid uid).map fun r => sideLine epoch r r.partsWritten
        | .snapshots => if alone then none else
            (t.orders.parked.find? fun p => p.object.isSnapshot).bind fun p => match p.object with
              | .snapshot copy tag n => some (exportLine epoch copy tag n)
              | _ => none
      let turns : List Owner := match s.writer.position with
        | .sideList => [.orderTaker, .snapshots, .sideList]
        | .orderTaker => [.snapshots, .sideList, .orderTaker]
        | .snapshots => [.sideList, .orderTaker, .snapshots]
      let chosen := turns.find? fun w => (offer w).isSome
      let noneIssued := t.writer.position = s.writer.position ∧ ∀ q ∈ t.port.own, q.isReturn = false
      ((t.writer.writeIndex + 1) % 448 = t.writer.readIndex → noneIssued) ∧
      ((t.writer.writeIndex + 1) % 448 ≠ t.writer.readIndex →
        (chosen = none → noneIssued) ∧
        ∀ w next, chosen = some w → offer w = some next →
          t.writer.position = w ∧ ∃ more, t.port.own = rest ++ .ret w next :: more))) ∧
  (∀ (epoch : Nat) (r : Result), 9 + (r.values.map Val.width).sum ≤ 64 →
    let reasons : List Reason :=
      [.badOrder, .badArg, .busy, .full, .noSlot, .inUse, .duplicate, .noJob, .noUser, .noRegion, .noSide,
        .noCartridge, .noPending, .noRestore, .jobState, .userState, .slotState, .isSealed, .notPermitted,
        .sequence, .range, .overlap, .geometry, .mismatch, .noBands, .colourDenied, .toner, .quota, .badWrap,
        .badTag, .superseded, .removed, .reset]
    LaidOut (resultLine epoch r)
      ([(0, 1, 1), (1, 2, epoch), (3, 2, r.serial.toNat), (5, 1, r.kind.toNat), (6, 1, r.window),
        (7, 1, if r.reason = none then 0 else 1),
        (8, 1, match r.reason with
          | none => 0
          | some x => reasons.idxOf x + 1)] ++ packedFrom 9 r.values)) ∧
  (∀ (epoch : Nat) (r : Side),
    let head := fun part : Nat =>
      [(0, 1, 2), (1, 2, epoch), (3, 1, part), (4, 1, if r.context = none then 1 else 4), (5, 2, r.id)]
    let bit := fun (b : Bool) (n : Nat) => if b then 2 ^ n else 0
    let figure := fun f : CloseFigures → Nat => (r.figures.map f).getD 0
    let plane := fun (start : Nat) (p : Plane) => if hasPlane r.planes p = false then [] else
      let m := (r.context.bind fun c => c.planes[p]).getD { sum := 0, pixels := 0, lines := 0 }
      [(start, 4, m.lines), (start + 4, 4, r.expected[p]), (start + 8, 4, m.pixels),
        (start + 12, 2, figure fun f => f.coverage[p]), (start + 14, 4, figure fun f => f.draw[p])]
    LaidOut (sideLine epoch r 0)
      (head 0 ++
        [(7, 2, r.jobTag), (9, 4, r.userId),
          (13, 1, match r.outcome with
            | some .complete => 0 | some .short => 1 | some .jammed => 2 | some .voided => 3 | none => 0),
          (14, 1, match r.mode with | .mono => 0 | .colour => 1 | .auto => 2),
          (15, 1, bit r.downgraded 0 + bit (r.context.any MeterContext.saturated) 1 + bit r.capped 2 +
            bit r.context.isSome 3),
          (16, 1, match r.face with | .simplex => 0 | .front => 1 | .back => 2),
          (17, 1, r.planes.toNat), (18, 1, r.unproven.toNat), (19, 2, r.rows), (21, 2, r.reserve),
          (23, 2, r.charge.getD 0), (25, 4, r.blanked), (29, 2, r.generation.getD 0),
          (31, 1, figure fun f => match f.cls with | .mono => 0 | .colour => 1),
          (32, 1, figure fun f => match f.tier with | .light => 0 | .standard => 1 | .heavy => 2),
          (33, 2, figure CloseFigures.sum), (35, 4, figure fun f => f.signature.toNat),
          (39, 1, bit r.serials[0].isSome 0 + bit r.serials[1].isSome 1 + bit r.serials[2].isSome 2 +
            bit r.serials[3].isSome 3)]) ∧
    LaidOut (sideLine epoch r 1)
      (head 1 ++ (List.finRange 4).map fun p => (7 + 8 * p.val, 8, (r.serials[p].map BitVec.toNat).getD 0)) ∧
    LaidOut (sideLine epoch r 2) (head 2 ++ plane 7 0 ++ plane 25 1) ∧
    LaidOut (sideLine epoch r 3) (head 3 ++ plane 7 2 ++ plane 25 3)) ∧
  ∀ (epoch : Nat) (copy : Snapshot) (tag : BitVec 256),
    let users := copy.users.length
    let counters := fun (start : Nat) (values : Counters) =>
      (List.finRange 8).map fun k => (start + 4 * k.val, 4, values[k])
    let signed := fun (bits : Nat) (n : Int) => (n % 2 ^ bits).toNat
    (∀ n u, copy.users[n]? = some u →
      LaidOut (exportLine epoch copy tag n)
        ([(0, 1, 3), (1, 2, epoch),
          (3, 1, u.slot.val + (if u.state = .suspended then 64 else 0) + if u.colour then 128 else 0),
          (4, 4, u.id), (8, 8, signed 64 u.credit), (16, 8, u.spent), (24, 4, signed 32 u.floor),
          (28, 4, signed 32 u.warn)] ++ counters 32 u.counters)) ∧
    LaidOut (exportLine epoch copy tag users) ([(0, 1, 4), (1, 2, epoch)] ++ counters 3 copy.retired) ∧
    LaidOut (exportLine epoch copy tag (users + 1))
      ([(0, 1, 5), (1, 2, epoch), (3, 1, 0), (4, 1, 5)] ++ counters 5 copy.meters.sides ++
        [(37, 4, copy.meters.unaccounted)] ++
        (List.finRange 4).map (fun p => (41 + 4 * p.val, 4, copy.meters.unattributed[p])) ++
        [(57, 4, copy.meters.blanked)]) ∧
    (∀ p : Plane,
      let totals := copy.totals[p]
      LaidOut (exportLine epoch copy tag (users + 2 + p.val))
        [(0, 1, 5), (1, 2, epoch), (3, 1, p.val + 1), (4, 1, 5), (5, 8, totals.drawn.toNat),
          (13, 8, totals.confirmed.toNat), (21, 8, totals.unproven.toNat), (29, 8, totals.lost.toNat)]) ∧
    LaidOut (exportLine epoch copy tag (users + 6))
      [(0, 1, 6), (1, 2, epoch), (3, 2, users + 2), (5, 32, tag.toNat)]

/-- The grant of a header or a summary rewrite stores the header or the summary line as it then stands, and no other
byte; the fields of both lines stand at the bytes that R190 gives them, and every other byte is 0. -/
def Obligations.RewritesShowTheState : Prop :=
  (∀ (s : State) (rest : List OwnLine),
    MemoryWf s.mem → s.orders.resetWait = none → s.channel.waiting = [] → s.ownTurn = true →
    s.port.own = .header :: rest →
    let line := s.classifier.controlBase + 1
    ∃ t, exec .headerRewriteGrant s = .next t ∧ t.ledger = { s.ledger with mem := t.mem } ∧
      t.channel.headerWritten = true ∧ readLine t.mem line = headerLine s ∧
      (∀ a, ¬(64 * line ≤ a ∧ a < 64 * line + 64) → readByte t.mem a = readByte s.mem a)) ∧
  (∀ (s : State) (rest : List OwnLine),
    MemoryWf s.mem → s.orders.resetWait = none → s.channel.waiting = [] → s.ownTurn = true →
    s.port.own = .summary :: rest →
    let line := s.classifier.controlBase
    ∃ t, exec .summaryRewriteGrant s = .next t ∧ t.ledger = { s.ledger with mem := t.mem } ∧
      t.channel.summaryWritten = true ∧ readLine t.mem line = summaryLine s ∧
      (∀ a, ¬(64 * line ≤ a ∧ a < 64 * line + 64) → readByte t.mem a = readByte s.mem a)) ∧
  ∀ s : State, s.writer.writeIndex < 448 → s.writer.readIndex < 448 → s.writer.epoch < 65536 →
    s.store.liveGen < 65536 →
    (((headerLine s).extractLsb' 0 16).toNat = s.writer.writeIndex ∧
      ((headerLine s).extractLsb' 16 16).toNat = s.writer.readIndex ∧
      ((headerLine s).extractLsb' 32 16).toNat = 448 ∧
      ((headerLine s).extractLsb' 48 16).toNat = s.store.liveGen ∧
      ((headerLine s).extractLsb' 64 16).toNat = s.writer.epoch ∧ (headerLine s).extractLsb' 80 432 = 0) ∧
    (s.sides.records.length < 256 → s.accounts.meters.unaccounted < 4294967296 →
      let estimate := fun p : Plane =>
        s.cartridges.slots[p].remaining.map fun remaining => remaining - s.cartridges.slots[p].owed
      (∀ p : Plane, ∀ n ∈ estimate p, n < 4294967296) →
      ((summaryLine s).extractLsb' 0 16).toNat = s.writer.writeIndex ∧
      ((summaryLine s).extractLsb' 16 16).toNat = s.writer.readIndex ∧
      ((summaryLine s).extractLsb' 32 16).toNat = s.writer.epoch ∧
      ((summaryLine s).extractLsb' 48 8).toNat = s.sides.records.length ∧
      ((summaryLine s).extractLsb' 56 8).toNat = (if s.store.pending.isSome then 1 else 0) ∧
      ((summaryLine s).extractLsb' 64 16).toNat = s.store.liveGen ∧
      ((summaryLine s).extractLsb' 80 32).toNat = s.accounts.meters.unaccounted ∧
      (summaryLine s).extractLsb' 112 32 =
        s.writer.notices ||| (if s.writer.userMap = 0 then 0#32 else 0x20#32) ∧
      (summaryLine s).extractLsb' 144 64 = s.writer.userMap ∧
      (summaryLine s).extractLsb' 208 32 = s.writer.enables ∧
      (∀ p : Plane,
        ((summaryLine s).extractLsb' (240 + 8 * p.val) 8).toNat = (match s.cartridges.slots[p].verdict with
          | .unknown => 0
          | .genuine => 1
          | .doubtful => 2
          | .unproven => 3
          | .rejected => 4) ∧
        ((summaryLine s).extractLsb' (272 + 32 * p.val) 32).toNat = (estimate p).getD 0 ∧
        (summaryLine s).getLsbD (400 + p.val) = (estimate p).isSome) ∧
      (summaryLine s).extractLsb' 404 108 = 0)

/-! ### Sides, marks and parameter switches as events -/

/-- A side mark closes the METERING side, if there is one, SHORT with its settlement: the charge, at most the reserve
with CAPPED, its counters and its draw, which goes where R155 says. It then converts the unattributed records into drawn
totals, routed as R156 says, and sets them to zero, and makes a pending parameter set live with its order completed.
Then the oldest ADMITTED side begins metering with the generation now live, the serials of its planes and an empty
context, or, without one, the mark is counted as unaccounted and UNACCOUNTED is raised. That entries of the absent list
are found by serial and plane is the model's choice (log entry 10). -/
def Obligations.SideMarkStartsTheOldestSide : Prop :=
  ∀ s : State, s.orders.resetWait = none →
    let meters := s.accounts.meters
    let generation := if s.store.pending.isSome then (s.store.liveGen + 1) % 65536 else s.store.liveGen
    let start := fun x : Side => match s.oldestAdmitted with
      | none => x
      | some r =>
        if x.uid = r.uid then
          { x with
            state := .metering
            generation := some generation
            serials := Vector.ofFn fun p =>
              if hasPlane r.planes p then s.cartridges.slots[p].serial else none
            context := some
              { planes := Vector.ofFn fun p =>
                  if hasPlane r.planes p then some { sum := 0, pixels := 0, lines := 0 } else none
                signature := 0xFFFFFFFF#32, saturated := false } }
        else x
    let marked := fun t : State => exec .sideMark s = .next t ∧
      (∀ p : Plane, t.unattributed[p] = { sum := 0, tally := 0, saturated := false }) ∧
      t.mem = s.mem ∧ t.classifier = s.classifier ∧ t.accounts.retired = s.accounts.retired ∧
      t.accounts.restore = s.accounts.restore ∧
      t.store = (match s.store.pending with
        | some c => { live := c.set, liveGen := generation, staged := s.store.staged, pending := none }
        | none => s.store) ∧
      t.accounts.meters = { meters with
        sides := t.accounts.meters.sides
        unaccounted := if s.oldestAdmitted = none then min 4294967295 (meters.unaccounted + 1)
          else meters.unaccounted } ∧
      (s.oldestAdmitted = none → t.writer.notices.getLsbD 1 = true) ∧
      (∀ (p : ParkedOrder) (before after : List ParkedOrder), s.store.pending.isSome →
        s.orders.parked = before ++ p :: after → p.object = .switch → (∀ q ∈ before, q.object.isSwitch = false) →
        s.orders.holding.length < 8 → s.orders.completed = [] →
        t.orders.parked = before ++ after ∧
        t.orders.holding = s.orders.holding ++
          [{ serial := p.serial, kind := p.kind, window := p.window, reason := none,
             values := [u16 s.store.liveGen, u16 generation] }])
    (s.meteringSide = none →
      ∃ t, marked t ∧ t.jobs = s.jobs ∧ t.accounts.users = s.accounts.users ∧
        t.accounts.meters.sides = meters.sides ∧
        DrawRouted s t (fun _ => none) (fun p => some (conversionDraw s p)) ∧
        t.sides = { s.sides with records := s.sides.records.map start }) ∧
    ∀ (r : Side) (j : Job) (u : User), s.meteringSide = some r → SidesNumbered s.sides →
      s.jobs[r.jobSlot] = some j → j.keepsSlot → s.accounts.users[r.userSlot] = some u →
      RoomToSettle s r j u →
      ∃ t, marked t ∧ SettlesAs s t r j u (fun p => some (conversionDraw s p)) ∧
        t.sides = { s.sides with
          settledOrder := s.sides.settledOrder ++ [r.uid]
          records := s.sides.records.map fun x =>
            if x.uid = r.uid then
              closedRecord s r .short (min r.reserve (livePrice s r)) (decide (r.reserve < livePrice s r)) x
            else start x }

/-- A pending switch makes the pending copy live under the next generation and completes the pending order DONE with
both generations, when no side is METERING. The rules switch inside a side mark; METERS_SWITCH as a command of its own
is the model's choice (log entry 3). -/
def Obligations.SwitchMakesThePendingCopyLive : Prop :=
  ∀ (s : State) (c : PendingCopy) (p : ParkedOrder) (before after : List ParkedOrder),
    s.orders.resetWait = none → s.store.pending = some c → s.meteringSide = none →
    s.orders.parked = before ++ p :: after → p.object = .switch → (∀ q ∈ before, q.object.isSwitch = false) →
    s.orders.holding.length < 8 → s.orders.completed = [] →
    let new := (s.store.liveGen + 1) % 65536
    ∃ t, exec .metersSwitch s = .next t ∧
      t.ledger = { s.ledger with
        store := { live := c.set, liveGen := new, staged := s.store.staged, pending := none } } ∧
      t.orders.parked = before ++ after ∧
      t.orders.holding = s.orders.holding ++
        [{ serial := p.serial, kind := p.kind, window := p.window, reason := none,
           values := [u16 s.store.liveGen, u16 new] }]

/-! ### The cartridges -/

/-- A presence input that is asserted seats an EMPTY slot and starts its 500 ms settling; the expiry of the settling or
of the retry timer makes the slot IDLE with a probe due, the first with no attempts; with the line taken, the slot
waits. An event that frees the line, here a first or second attempt that ends SILENT, gives it to the first slot after
the one served last with a probe due, and without one to the first with a debit due: the proof begins with a fresh
nonce, the debit with the owed draw as its amount. -/
def Obligations.SeatedSlotsSettleAndAreProbed : Prop :=
  (∀ (p : Plane) (s : State), s.orders.resetWait = none → s.cartridges.slots[p].seated = false →
    ∃ t, exec (.presenceAssert p) s = .next t ∧
      t.cartridges.slots[p] =
        { s.cartridges.slots[p] with seated := true, exchange := .settling, settlingTimer := some 500 } ∧
      t.cartridges.pins = put s.cartridges.pins p true ∧
      t.ledger = { s.ledger with
        pins := t.cartridges.pins, slots := t.ledger.slots
        notices := s.writer.notices ||| (1#32 <<< (20 + p.val)) } ∧
      ∀ q : Plane, q ≠ p → t.cartridges.slots[q].standing = s.cartridges.slots[q].standing) ∧
  (∀ (p : Plane) (s : State) (x : LineExchange), s.orders.resetWait = none → s.cartridges.line = some x →
    (∀ n, s.cartridges.slots[p].settlingTimer = some n →
      ∃ t, exec (.settlingTimerExpiry p) s = .next t ∧
        t.cartridges = { s.cartridges with
          slots := put s.cartridges.slots p
            { s.cartridges.slots[p] with
              exchange := .idle, attempts := 0, probePending := true, settlingTimer := none } }) ∧
    (∀ n, s.cartridges.slots[p].retryTimer = some n →
      ∃ t, exec (.retryTimerExpiry p) s = .next t ∧
        t.cartridges = { s.cartridges with
          slots := put s.cartridges.slots p
            { s.cartridges.slots[p] with exchange := .idle, probePending := true, retryTimer := none } })) ∧
  ∀ (s : State) (x : LineExchange) (nonce : Nonce),
    s.orders.resetWait = none → s.cartridges.line = some x → x.message = .challenge nonce → x.phase = .wait →
    s.cartridges.slots[x.slot].attempts < 3 →
    let last := s.cartridges.position
    let chosen := fun due : CartridgeSlot → Bool => [last + 1, last + 2, last + 3, last].find? fun q =>
      decide (q ≠ x.slot) && decide (s.cartridges.slots[q].exchange = .idle) && due s.cartridges.slots[q]
    let fresh := Config.randomBits s.draws
    ∃ t, exec .answerWaitExpiry s = .next t ∧
      (∀ q, chosen CartridgeSlot.probePending = some q →
        let c := s.cartridges.slots[q]
        t.cartridges.line =
          some { slot := q, address := 0x28 + q.val, message := .challenge fresh, phase := .write } ∧
        t.cartridges.position = q ∧ t.draws = s.draws + 1 ∧
        t.cartridges.slots[q] = { c with exchange := .probe, probePending := false, attempts := c.attempts + 1 }) ∧
      (∀ q, chosen CartridgeSlot.probePending = none → chosen CartridgeSlot.debitPending = some q →
        let c := s.cartridges.slots[q]
        t.cartridges.line =
          some { slot := q, address := 0x28 + q.val, phase := .write
                 message := .debit c.owed fresh (amountTag s.fuses.familySecret (c.serial.getD 0) c.owed fresh) } ∧
        t.cartridges.position = q ∧ t.draws = s.draws + 1 ∧
        t.cartridges.slots[q] = { c with exchange := .debit, debitPending := false }) ∧
      (chosen CartridgeSlot.probePending = none → chosen CartridgeSlot.debitPending = none →
        t.cartridges.line = none ∧ t.cartridges.position = last ∧ t.draws = s.draws)

/-- A removal empties the slot and moves its owed draw, last confirmed remaining and uncertain debit to the tail of
the absent list; a full list first drops its oldest entry into the lost total of that entry's plane. A removal during
the slot's own exchange abandons it and frees the line, and the amount of a debit becomes the uncertain debit. Without
owed draw nothing joins the list. A CARTRIDGE PROBE parked for the slot is answered REMOVED. That the entry joins beside
one that already holds its serial, and that an abandoned debit of amount 0 leaves no uncertain debit, is the model's
choice (log entry 10). -/
def Obligations.RemovalMovesOwedDrawToTheAbsentList : Prop :=
  ∀ (p : Plane) (s : State),
    let c := s.cartridges.slots[p]
    s.orders.resetWait = none → c.seated = true →
    ∃ t, exec (.presenceDeassert p) s = .next t ∧ t.cartridges.slots[p] = CartridgeSlot.empty ∧
      t.cartridges.pins = put s.cartridges.pins p false ∧
      (∀ q : Plane, q ≠ p → t.cartridges.slots[q].standing = s.cartridges.slots[q].standing) ∧
      t.writer.notices.getLsbD (20 + p.val) = true ∧
      (c.verdict ≠ .unknown → t.writer.notices.getLsbD (16 + p.val) = true) ∧
      (∀ x ∈ s.cartridges.line, (x.slot ≠ p → t.cartridges.line = some x) ∧
        (x.slot = p → ∀ y ∈ t.cartridges.line, y.slot ≠ p)) ∧
      (∀ (o : ParkedOrder) (before after : List ParkedOrder), s.orders.parked = before ++ o :: after →
        o.object = .cartridge p → (∀ q ∈ before, q.object ≠ .cartridge p) → s.orders.completed = [] →
        s.orders.holding.length < 8 →
        t.orders.parked = before ++ after ∧
        t.orders.holding = s.orders.holding ++
          [{ serial := o.serial, kind := o.kind, window := o.window, reason := some .removed, values := [] }]) ∧
      let abandoned : Option Nat := s.cartridges.line.bind fun x => match x.message with
        | .debit amount _ _ => if x.slot = p then some amount else none
        | .challenge _ => none
      let entry : AbsentEntry :=
        { serial := c.serial.getD 0, plane := p, owed := c.owed, remaining := c.remaining
          uncertain := match abandoned with
            | some amount => if amount = 0 then none else some amount
            | none => c.uncertain }
      (c.owed = 0 → t.cartridges.absent = s.cartridges.absent ∧ t.cartridges.totals = s.cartridges.totals) ∧
      (0 < c.owed → s.cartridges.absent.length < 8 →
        t.cartridges.absent = s.cartridges.absent ++ [entry] ∧ t.cartridges.totals = s.cartridges.totals) ∧
      (∀ old rest, 0 < c.owed → s.cartridges.absent = old :: rest → 8 ≤ s.cartridges.absent.length →
        t.cartridges.absent = rest ++ [entry] ∧ t.writer.notices.getLsbD 4 = true ∧
        t.cartridges.totals = put s.cartridges.totals old.plane
          { s.cartridges.totals[old.plane] with
            lost := s.cartridges.totals[old.plane].lost + BitVec.ofNat 64 old.owed })

/-- An exchange goes from its write, acknowledged, into the 25 ms answer wait, and from there, when the cartridge
acknowledges its address, into the read, with the timer stopped. A proof attempt ends SILENT at a write that is not
acknowledged, at the end of the answer wait or at an answer not delivered. A first or second attempt makes the slot
DOUBTFUL and waits 100 ms for the next one, keeping serial, count, owed draw and uncertain debit. A third ends the proof
UNPROVEN, with a parked CARTRIDGE PROBE answered. -/
def Obligations.ExchangesRunThroughTheirPhases : Prop :=
  (∀ (s : State) (x : LineExchange), s.orders.resetWait = none → s.cartridges.line = some x →
    (∀ nonce, x.message = .challenge nonce → x.phase = .write →
      ∃ t, exec (.challengeWriteEnd true) s = .next t ∧
        t.cartridges = { s.cartridges with
          line := some { x with phase := .wait }
          slots := put s.cartridges.slots x.slot { s.cartridges.slots[x.slot] with answerTimer := some 25 } }) ∧
    (∀ amount nonce tag, x.message = .debit amount nonce tag → x.phase = .write →
      ∃ t, exec (.amountWriteEnd true) s = .next t ∧
        t.cartridges = { s.cartridges with
          line := some { x with phase := .wait }
          slots := put s.cartridges.slots x.slot { s.cartridges.slots[x.slot] with answerTimer := some 25 } }) ∧
    (x.phase = .wait →
      ∃ t, exec .answerAddressAck s = .next t ∧
        t.cartridges = { s.cartridges with
          line := some { x with phase := .read }
          slots := put s.cartridges.slots x.slot { s.cartridges.slots[x.slot] with answerTimer := none } })) ∧
  ∀ (s : State) (x : LineExchange) (nonce : Nonce) (cmd : Instr),
    let c := s.cartridges.slots[x.slot]
    s.orders.resetWait = none → s.cartridges.line = some x → x.message = .challenge nonce → endsSilent x cmd →
    (c.attempts < 3 →
      ∃ t, exec cmd s = .next t ∧
        let d := t.cartridges.slots[x.slot]
        d.verdict = .doubtful ∧ d.exchange = .retryWait ∧ d.retryTimer = some 100 ∧ d.answerTimer = none ∧
        d.attempts = c.attempts ∧ d.serial = c.serial ∧ d.remaining = c.remaining ∧ d.owed = c.owed ∧
        d.uncertain = c.uncertain ∧ d.history = (false :: c.history).take 8 ∧ d.everSilent = true ∧
        d.everFailed = c.everFailed ∧ t.cartridges.totals = s.cartridges.totals ∧
        t.cartridges.absent = s.cartridges.absent ∧ (∀ y ∈ t.cartridges.line, y.slot ≠ x.slot) ∧
        (c.verdict ≠ .doubtful → t.writer.notices.getLsbD (16 + x.slot.val) = true)) ∧
    (3 ≤ c.attempts → c.probePending = false → c.debitPending = false →
      ∃ t, exec cmd s = .next t ∧
        t.cartridges.slots[x.slot] = { c with
          verdict := .unproven, exchange := .idle, attempts := 0, answerTimer := none
          history := (false :: c.history).take 8, everSilent := true } ∧
        t.cartridges.totals = s.cartridges.totals ∧ t.cartridges.absent = s.cartridges.absent ∧
        (∀ y ∈ t.cartridges.line, y.slot ≠ x.slot) ∧ ProbeAnswered s t x.slot 2 3 ∧
        (c.verdict ≠ .unproven → t.writer.notices.getLsbD (16 + x.slot.val) = true))

/-- A proof answer with a bad tag ends the first or second attempt FAIL and the third UNPROVEN, one that names another
plane ends the proof REJECTED, and one from a cartridge new to the part makes the slot GENUINE with the answered serial
and count. A tag checks for the secret, nonce, serial, plane and count it was made over and no others (R1; that tags are
told apart by what made them is the model's choice, log entry 5). A known serial that answers more than its last
confirmed count is REJECTED as a rollback; otherwise the slot is GENUINE with the answered count, and an uncertain debit
is counted as applied exactly when the answer is the last count less its amount. A serial of the absent list comes back
with its entry, which leaves the list, and is judged by it in the same way. A slot that held another serial first sends
that serial's owed draw to the absent list, which drops its oldest entry when it is full; that the new entry joins
beside one that already holds its serial is the model's choice (log entry 10). Every end of the proof answers a parked
CARTRIDGE PROBE. -/
def Obligations.ProofAnswersAreJudged : Prop :=
  ∀ (s : State) (x : LineExchange) (nonce : Nonce) (a : ProofAnswer),
    let c := s.cartridges.slots[x.slot]
    let count := a.remaining.toNat
    let good := a.tag = answerTag s.fuses.familySecret nonce a.serial a.plane count
    (∀ (secret : BitVec 256) (other : Nonce) (serial : Serial) (plane : Plane) (n : Nat),
      a.tag = answerTag secret other serial plane n →
      (good ↔ secret = s.fuses.familySecret ∧ other = nonce ∧ a.serial = serial ∧ a.plane = plane ∧ count = n)) ∧
    (s.orders.resetWait = none → s.cartridges.line = some x → x.message = .challenge nonce → x.phase = .read →
    c.probePending = false → c.debitPending = false →
    ∃ t, exec (.answerReadEnd (some a)) s = .next t ∧
      let d := t.cartridges.slots[x.slot]
      let passed : CartridgeSlot := { c with
        serial := some a.serial, remaining := some count, verdict := .genuine, exchange := .idle
        attempts := 0, answerTimer := none, history := (true :: c.history).take 8 }
      let failed : CartridgeSlot := { c with
        exchange := .idle, attempts := 0, answerTimer := none, history := (false :: c.history).take 8
        everFailed := true }
      let kept := t.cartridges.totals = s.cartridges.totals ∧ t.cartridges.absent = s.cartridges.absent
      let passes := ProbeAnswered s t x.slot 0 1
      let leaves := fun list : List AbsentEntry => decide (0 < c.owed) && decide (8 ≤ list.length)
      let joined := fun list : List AbsentEntry => if c.owed = 0 then list else
        (if list.length < 8 then list else list.tail) ++
          [{ serial := c.serial.getD 0, plane := x.slot, owed := c.owed, remaining := c.remaining
             uncertain := c.uncertain }]
      let lostFrom := fun list : List AbsentEntry => match list with
        | old :: _ => if leaves list then put s.cartridges.totals old.plane
            { s.cartridges.totals[old.plane] with
              lost := s.cartridges.totals[old.plane].lost + BitVec.ofNat 64 old.owed }
          else s.cartridges.totals
        | [] => s.cartridges.totals
      (¬good → c.attempts < 3 →
        d = { failed with
          verdict := .doubtful, exchange := .retryWait, attempts := c.attempts, retryTimer := some 100 } ∧
        kept) ∧
      (¬good → 3 ≤ c.attempts → d = { failed with verdict := .unproven } ∧ kept ∧ ProbeAnswered s t x.slot 1 3) ∧
      (good → a.plane ≠ x.slot →
        d = { failed with verdict := .rejected } ∧ kept ∧ ProbeAnswered s t x.slot 3 4) ∧
      (good → a.plane = x.slot → c.serial ≠ some a.serial → (c.serial = none → c.owed = 0) →
        (∀ e ∈ s.cartridges.absent, e.serial ≠ a.serial) → 0 < s.cartridges.policy.threshold →
        d = { passed with owed := 0, uncertain := none } ∧ passes ∧
        t.cartridges.absent = joined s.cartridges.absent ∧ t.cartridges.totals = lostFrom s.cartridges.absent ∧
        (leaves s.cartridges.absent = true → t.writer.notices.getLsbD 4 = true)) ∧
      (∀ last, good → a.plane = x.slot → c.serial = some a.serial → c.remaining = some last →
        (last < count →
          kept ∧ d = { failed with verdict := .rejected } ∧ ProbeAnswered s t x.slot 3 4) ∧
        (∀ u, c.uncertain = some u → count + u = last → c.owed - u < s.cartridges.policy.threshold →
          d = { passed with owed := c.owed - u, uncertain := none } ∧ passes ∧
          t.cartridges.absent = s.cartridges.absent ∧
          t.cartridges.totals = put s.cartridges.totals x.slot
            { s.cartridges.totals[x.slot] with
              confirmed := s.cartridges.totals[x.slot].confirmed + BitVec.ofNat 64 u }) ∧
        (count ≤ last → (∀ u, c.uncertain = some u → count + u ≠ last) →
          c.owed < s.cartridges.policy.threshold → d = { passed with uncertain := none } ∧ kept ∧ passes)) ∧
      ∀ (e : AbsentEntry) (last : Nat) (before after : List AbsentEntry),
        good → a.plane = x.slot → c.serial ≠ some a.serial → (c.serial = none → c.owed = 0) →
        s.cartridges.absent = before ++ e :: after → e.serial = a.serial → e.plane = x.slot →
        (∀ b ∈ before, b.serial ≠ a.serial) → e.remaining = some last →
        let others := before ++ after
        let totals := lostFrom others
        t.cartridges.absent = joined others ∧
        (leaves others = true → t.writer.notices.getLsbD 4 = true) ∧
        (last < count →
          d = { failed with
            serial := some a.serial, remaining := some last, owed := e.owed, uncertain := e.uncertain
            verdict := .rejected } ∧
          t.cartridges.totals = totals ∧ ProbeAnswered s t x.slot 3 4) ∧
        (∀ u, e.uncertain = some u → count + u = last → e.owed - u < s.cartridges.policy.threshold →
          d = { passed with owed := e.owed - u, uncertain := none } ∧ passes ∧
          t.cartridges.totals = put totals x.slot
            { totals[x.slot] with confirmed := totals[x.slot].confirmed + BitVec.ofNat 64 u }) ∧
        (count ≤ last → (∀ u, e.uncertain = some u → count + u ≠ last) →
          e.owed < s.cartridges.policy.threshold →
          d = { passed with owed := e.owed, uncertain := none } ∧ passes ∧ t.cartridges.totals = totals))

/-- A good confirmation lowers the owed draw by the amount, raises the plane's confirmed total by it and takes the new
remaining. A confirmation whose tag fails or whose new remaining is too high, and a debit that ends SILENT, leave the
amount in the owed draw as the uncertain debit, make the slot DOUBTFUL and ask for a probe; that a confirmation not
delivered ends the debit SILENT is the model's choice (log entry 10). -/
def Obligations.ConfirmationSettlesTheDebit : Prop :=
  ∀ (s : State) (x : LineExchange) (amount : Nat) (nonce : Nonce) (tag : LineTag),
    let c := s.cartridges.slots[x.slot]
    s.orders.resetWait = none → s.cartridges.line = some x → x.message = .debit amount nonce tag →
    0 < amount → amount ≤ c.owed →
    let endsBadly := fun t : State =>
      let d := t.cartridges.slots[x.slot]
      d.owed = c.owed ∧ d.uncertain = some amount ∧ d.verdict = .doubtful ∧ d.remaining = c.remaining ∧
      d.serial = c.serial ∧ d.history = c.history ∧ t.cartridges.totals = s.cartridges.totals ∧
      t.cartridges.absent = s.cartridges.absent ∧
      (c.seated = true → d.probePending = true ∨ d.exchange = .probe) ∧
      (c.verdict ≠ .doubtful → t.writer.notices.getLsbD (16 + x.slot.val) = true)
    (∀ k : DebitConfirmation, x.phase = .read →
      let good := k.tag =
          confirmationTag s.fuses.familySecret (c.serial.getD 0) nonce amount k.remaining.toNat ∧
        k.remaining.toNat ≤ c.remaining.getD 0 - amount
      ∃ t, exec (.confirmationReadEnd (some k)) s = .next t ∧
        let d := t.cartridges.slots[x.slot]
        (good →
          d.owed = c.owed - amount ∧ d.remaining = some k.remaining.toNat ∧ d.verdict = c.verdict ∧
          d.uncertain = c.uncertain ∧ d.serial = c.serial ∧ d.history = c.history ∧
          t.cartridges.absent = s.cartridges.absent ∧
          t.cartridges.totals = put s.cartridges.totals x.slot
            { s.cartridges.totals[x.slot] with
              confirmed := s.cartridges.totals[x.slot].confirmed + BitVec.ofNat 64 amount } ∧
          (c.probePending = false → c.debitPending = false → c.owed - amount < s.cartridges.policy.threshold →
            d.exchange = .idle)) ∧
        (¬good → endsBadly t ∧ d.everFailed = true ∧ d.everSilent = c.everSilent)) ∧
    (∀ cmd, endsSilent x cmd →
      ∃ t, exec cmd s = .next t ∧ endsBadly t ∧ t.cartridges.slots[x.slot].everSilent = true ∧
        t.cartridges.slots[x.slot].everFailed = c.everFailed)

/-! ### Orders of the classifier and the job table -/

/-- SOURCE SET replaces the tag's class and reports the tag and both classes; a tag above 63 or another class is
refused with BAD_ARG and changes nothing. -/
def Obligations.SourceSetReplacesTheClass : Prop :=
  ∀ (s : State) (e : OrderEntry) (rest : List OrderEntry), s.Executes 0x01#8 e rest →
    (∀ (tag : Fin 64) (c : SourceClass), e.num 3 1 = tag.val → e.num 4 1 = c.code →
      ∃ t, exec .sourceSet s = .next t ∧
        Answered s t e rest none [u8 tag.val, u8 s.classifier.sources[tag].code, u8 c.code] ∧
        t.ledger = { s.ledger with
          classifier := { s.classifier with sources := put s.classifier.sources tag c } }) ∧
    (63 < e.num 3 1 ∨ 3 < e.num 4 1 →
      ∃ t, exec .sourceSet s = .next t ∧ Answered s t e rest (some .badArg) [] ∧ t.ledger = s.ledger)

/-- REGION DEFINE installs the record, LIVE and bound to the job that holds the tag, and raises that job's count, when
every check of R10 passes; otherwise it is refused with the first failing check's reason and changes nothing. -/
def Obligations.RegionDefineInstallsOrRefuses : Prop :=
  ∀ (s : State) (e : OrderEntry) (rest : List OrderEntry) (tag : Option Nat), s.Executes 0x02#8 e rest →
    (e.byte 13 = 0#8 ∧ tag = none) ∨ (e.byte 13 = 1#8 ∧ tag = some (e.num 14 2)) →
    (∀ before reason fails after, regionFaults s e tag = before ++ (reason, fails) :: after →
      (∀ x ∈ before, ¬x.2) → fails → RefusedBy s .regionDefine e rest reason) ∧
    (∀ slot : Fin 32, e.num 3 1 = slot.val → (∀ x ∈ regionFaults s e tag, ¬x.2) →
      ∃ t, exec .regionDefine s = .next t ∧ Answered s t e rest none [u8 slot.val] ∧
        t.ledger = { s.ledger with
          classifier :=
            { s.classifier with
              nextUid := s.classifier.nextUid + 1
              regions := put s.classifier.regions slot (some
                { uid := s.classifier.nextUid, state := .live, base := e.num 4 4, size := e.num 8 4
                  kind := if e.num 12 1 = 1 then .band (Fin.ofNat 4 (e.num 16 1)) (e.num 17 1) (e.num 18 2)
                    else .priv
                  job := tag.bind s.jobWithTag, refusals := 0 }) }
          jobs := match tag.bind s.jobWithTag with
            | some k => put s.jobs k (s.jobs[k].map fun j => { j with regions := j.regions + 1 })
            | none => s.jobs })

/-- REGION REMOVE frees the slot at once, and lowers the bound job's count, when no merge is in flight on the region;
so does the attempt of a parked removal; the RESULT carries the record. The zeros in the band fields of a PRIVATE
region are the model's choice (log entry 13), and so is REGION_REMOVE_ATTEMPT as a command of its own (log entry 3). -/
def Obligations.RegionRemovalFreesTheSlot : Prop :=
  ∀ (s : State) (i : Fin 32) (r : Region),
    s.classifier.regions[i] = some r → s.mergesOn r.uid = 0 → s.planeMetering r.kind = false →
    s.orders.completed = [] → s.orders.holding.length < 8 → s.orders.resetWait = none →
    let freed : Ledger := { s.ledger with
      classifier := { s.classifier with regions := put s.classifier.regions i none }
      jobs := match r.state, r.job with
        | .live, some j => put s.jobs j (s.jobs[j].map fun x => { x with regions := x.regions - 1 })
        | _, _ => s.jobs }
    let values : List Val :=
      [u8 i.val, u8 (match r.state with | .live => 1 | .orphan => 2), u32 r.base, u32 r.size,
        u8 (match r.kind with | .priv => 0 | .band _ _ _ => 1)] ++
      (match r.job with
        | some k => [u8 1, u8 k.val]
        | none => [u8 0, u8 0]) ++
      [u16 r.refusals] ++
      (match r.kind with
        | .priv => [u8 0, u8 0, u16 0]
        | .band p d n => [u8 p.val, u8 d, u16 n])
    (∀ (e : OrderEntry) (rest : List OrderEntry), s.Executes 0x03#8 e rest → e.num 3 1 = i.val →
      (∀ p ∈ s.orders.parked, p.object ≠ .region i) → s.orders.parked.length < 8 →
      ∃ t, exec .regionRemove s = .next t ∧ Answered s t e rest none values ∧ t.ledger = freed) ∧
    (∀ (p : ParkedOrder) (before after : List ParkedOrder), s.orders.parked = before ++ p :: after →
      p.object = .region i → (∀ q ∈ before, q.object ≠ .region i) →
      ∃ t, exec (.regionRemoveAttempt i) s = .next t ∧ t.ledger = freed ∧ t.orders.parked = before ++ after ∧
        t.orders.holding = s.orders.holding ++
          [{ serial := p.serial, kind := p.kind, window := p.window, reason := none, values }])

/-- JOB OPEN takes the lowest FREE slot with a key drawn from the random source, or with the key that the given wrapped
key unwraps to, SEALED and with every count 0; a wrapped key that does not unwrap is refused with BAD_WRAP, and the
owner found stands in that RESULT too. The codes 0 for a drawn and 1 for an unwrapped key, and the id before the slot
in the refusal, are the model's choice (log entry 13). -/
def Obligations.JobOpenTakesTheLowestFreeSlot : Prop :=
  ∀ (s : State) (e : OrderEntry) (rest : List OrderEntry) (kind : JobKind) (i : Fin 16) (u : Fin 64) (r : User),
    s.Executes 0x10#8 e rest → e.num 5 1 = kind.code → e.num 3 2 ≠ 0 → e.num 6 4 ≠ 0 → s.accountsBusy = false →
    s.jobWithTag (e.num 3 2) = none → s.jobs[i] = none → (∀ k : Fin 16, k < i → s.jobs[k] ≠ none) →
    s.userWithId (e.num 6 4) = some u → s.accounts.users[u] = some r → r.state = .active →
    let opened := fun key : Key =>
      ({ state := .active, tag := e.num 3 2, kind, owner := u, release := .sealed, key, regions := 0, sides := 0
         merges := 0, lines := 0, enciphered := 0, settled := 0, closePending := false
         voidRequested := false } : Job)
    let vals := fun unwrapped : Nat =>
      [u8 i.val, u16 (e.num 3 2), u8 kind.code, u32 (e.num 6 4), u8 u.val, u8 unwrapped]
    (e.byte 10 = 0#8 →
      ∃ t, exec .jobOpen s = .next t ∧ Answered s t e rest none (vals 0) ∧
        t.ledger = { s.ledger with jobs := put s.jobs i (some (opened (Config.randomBits s.draws))) }) ∧
    (∀ key, e.byte 10 = 1#8 → unwrapKey s.fuses.deviceKey kind (e.bits 11 40) = some key →
      ∃ t, exec .jobOpen s = .next t ∧ Answered s t e rest none (vals 1) ∧
        t.ledger = { s.ledger with jobs := put s.jobs i (some (opened key)) }) ∧
    (e.byte 10 = 1#8 → unwrapKey s.fuses.deviceKey kind (e.bits 11 40) = none →
      ∃ t, exec .jobOpen s = .next t ∧ Answered s t e rest (some .badWrap) [u32 (e.num 6 4), u8 u.val] ∧
        t.ledger = s.ledger)

/-- JOB RELEASE and JOB SEAL set the release state of an ACTIVE or CLOSING job and report it before and after, behind
tag and slot (that order of the values is the model's choice, log entry 13); JOB KEY EXPORT reports a wrap of an ACTIVE
job's key that unwraps to it, and changes no job. -/
def Obligations.ReleaseSealAndKeyExport : Prop :=
  ∀ (s : State) (e : OrderEntry) (rest : List OrderEntry) (i : Fin 16) (j : Job),
    e.num 3 2 ≠ 0 → s.jobWithTag (e.num 3 2) = some i → s.jobs[i] = some j →
    (s.Executes 0x11#8 e rest →
      ∃ t, exec .jobRelease s = .next t ∧
        Answered s t e rest none [u16 j.tag, u8 i.val, u8 j.release.code, u8 1] ∧
        t.ledger = { s.ledger with jobs := put s.jobs i (some { j with release := .released }) }) ∧
    (s.Executes 0x12#8 e rest →
      ∃ t, exec .jobSeal s = .next t ∧
        Answered s t e rest none [u16 j.tag, u8 i.val, u8 j.release.code, u8 0] ∧
        t.ledger = { s.ledger with jobs := put s.jobs i (some { j with release := .sealed }) }) ∧
    (s.Executes 0x13#8 e rest → j.state = .active →
      ∃ t wrapped, exec .jobKeyExport s = .next t ∧
        Answered s t e rest none
          [u8 i.val, u16 j.tag, u8 j.kind.code, { width := 40, value := BitVec.toNat wrapped }] ∧
        unwrapKey s.fuses.deviceKey j.kind wrapped = some j.key ∧ t.ledger = s.ledger)

/-- Closing a job with no side, merge or line left frees its slot, key included, makes its LIVE regions ORPHAN without
a binding, and reports its totals, at JOB CLOSE itself or at a later completion; with work left, JOB CLOSE parks and
the job is CLOSING. With the void flag its ADMITTED sides are voided first: they are SETTLED in the order of their
admission, leave the side count and release their reserves. JOB_CLOSE_COMPLETION as a command of its own is the
model's choice (log entry 3). -/
def Obligations.JobCloseWaitsForItsCounts : Prop :=
  ∀ (s : State) (i : Fin 16) (j : Job),
    s.jobs[i] = some j → s.orders.resetWait = none → s.orders.completed = [] → s.orders.holding.length < 8 →
    let closed : Ledger := { s.ledger with
      jobs := put s.jobs i none
      classifier := { s.classifier with
        regions := s.classifier.regions.map fun (x : Option Region) => x.map fun r =>
          if r.state = .live ∧ r.job = some i then { r with state := .orphan, job := none } else r } }
    let vals := fun voided : Nat =>
      [u8 i.val, u16 j.tag, u8 j.kind.code, u32 (s.userId j.owner), u32 j.enciphered, u32 j.settled, u8 voided,
        u8 (boundRegions i s.classifier.regions)]
    (∀ (e : OrderEntry) (rest : List OrderEntry), s.Executes 0x15#8 e rest → j.state = .active → e.num 3 2 ≠ 0 →
      s.jobWithTag (e.num 3 2) = some i → s.orders.parked.length < 8 → e.byte 5 = 0#8 →
      (j.sides = 0 → j.merges = 0 → j.lines = 0 → (∀ p ∈ s.orders.parked, p.object.isJob i = false) →
        ∃ t, exec .jobClose s = .next t ∧ Answered s t e rest none (vals 0) ∧ t.ledger = closed) ∧
      (¬(j.sides = 0 ∧ j.merges = 0 ∧ j.lines = 0) →
        ∃ t, exec .jobClose s = .next t ∧ Parked s t e rest (.job i 0) ∧
          t.ledger = { s.ledger with jobs := put s.jobs i (some
            { j with state := .closing, closePending := true, voidRequested := false }) })) ∧
    (∀ (e : OrderEntry) (rest : List OrderEntry), s.Executes 0x15#8 e rest → j.state = .active → e.num 3 2 ≠ 0 →
      s.jobWithTag (e.num 3 2) = some i → s.orders.parked.length < 8 → e.byte 5 = 1#8 →
      SidesNumbered s.sides → WarningsSet s →
      let voided := s.sides.records.filter fun r => decide (r.state = .admitted) && decide (r.jobSlot = i)
      let sides : SideList := { s.sides with
        settledOrder := s.sides.settledOrder ++ voided.map Side.uid
        records := s.sides.records.map fun r =>
          if r.state = .admitted ∧ r.jobSlot = i then { r with state := .settled, outcome := some .voided } else r }
      let accounts : AccountTable := { s.accounts with
        users := Vector.ofFn fun k => (s.accounts.users[k]).map (releasedUser voided k) }
      (j.sides = voided.length → j.merges = 0 → j.lines = 0 →
        (∀ p ∈ s.orders.parked, p.object.isJob i = false) →
        ∃ t, exec .jobClose s = .next t ∧ Answered s t e rest none (vals voided.length) ∧
          t.ledger = { closed with sides, accounts }) ∧
      (voided.length ≤ j.sides → ¬(j.sides = voided.length ∧ j.merges = 0 ∧ j.lines = 0) →
        ∃ t, exec .jobClose s = .next t ∧ Parked s t e rest (.job i voided.length) ∧
          t.ledger = { s.ledger with
            sides, accounts
            jobs := put s.jobs i (some
              { j with
                state := .closing, closePending := true, voidRequested := true
                sides := j.sides - voided.length }) })) ∧
    (∀ (p : ParkedOrder) (voided : Nat) (before after : List ParkedOrder), s.orders.parked = before ++ p :: after →
      p.object = .job i voided → (∀ q ∈ before, q.object.isJob i = false) → j.state = .closing → j.sides = 0 →
      j.merges = 0 → j.lines = 0 →
      ∃ t, exec (.jobCloseCompletion i) s = .next t ∧ t.ledger = closed ∧ t.orders.parked = before ++ after ∧
        t.orders.holding = s.orders.holding ++
          [{ serial := p.serial, kind := p.kind, window := p.window, reason := none, values := vals voided }])

/-! ### Orders of the coverage meter and the parameter store -/

/-- METERS FLUSH reports the unattributed records and their draws, adds the draws to the drawn totals, routes them to
the owed draw of a GENUINE slot or to the unproven total (R156), and sets the records to zero; sides, accounts,
parameters and jobs stay. -/
def Obligations.MetersFlushConvertsTheRecords : Prop :=
  ∀ (s : State) (e : OrderEntry) (rest : List OrderEntry), s.Executes 0x20#8 e rest →
    ∃ t, exec .metersFlush s = .next t ∧
      Answered s t e rest none
        ((allPlanes.map fun p => { width := 5, value := s.unattributed[p].sum }) ++
          (allPlanes.map fun p => u32 s.unattributed[p].tally) ++
          (allPlanes.map fun p => u32 (conversionDraw s p)) ++
          [planesVal (planesWhere fun p => s.unattributed[p].saturated), u16 s.store.liveGen]) ∧
      (∀ p : Plane, t.unattributed[p] = { sum := 0, tally := 0, saturated := false }) ∧
      DrawRouted s t (fun _ => none) (fun p => some (conversionDraw s p)) ∧
      t.mem = s.mem ∧ t.sides = s.sides ∧ t.accounts = s.accounts ∧ t.store = s.store ∧ t.jobs = s.jobs ∧
      t.classifier = s.classifier

/-- CURVE LOAD replaces the staged curve of the plane, or is refused with BAD_ARG for its plane and with GEOMETRY for
its points, and then changes nothing (R83). That the plane is looked at before the points is the model's reading (log
entry 14). -/
def Obligations.CurveLoadStagesACurve : Prop :=
  ∀ (s : State) (e : OrderEntry) (rest : List OrderEntry), s.Executes 0x21#8 e rest →
    let point := fun i : Nat => e.num (4 + 2 * i) 2
    (3 < e.num 3 1 → RefusedBy s .curveLoad e rest .badArg) ∧
    (e.num 3 1 ≤ 3 → (∃ i < 17, 4095 < point i) ∨ (∃ i < 16, point (i + 1) < point i) →
      RefusedBy s .curveLoad e rest .geometry) ∧
    (∀ p : Plane, e.num 3 1 = p.val → (∀ i < 17, point i ≤ 4095) → (∀ i < 16, point i ≤ point (i + 1)) →
      StagedBy s .curveLoad e rest
        { s.store.staged with
          curves := put s.store.staged.curves p (Vector.ofFn fun i : Fin 17 => point i.val) }
        [u8 p.val])

/-- FACTORS LOAD replaces the staged factors of the selected planes, or is refused with BAD_ARG for an empty selection
or a selected factor above 65,535, and then changes nothing (R84). Bits 4 to 7 of the selection byte name no plane and
are ignored, which is the model's choice (log entry 6); the statement is about selections that leave them 0. -/
def Obligations.FactorsLoadStagesTheSelected : Prop :=
  ∀ (s : State) (e : OrderEntry) (rest : List OrderEntry), s.Executes 0x22#8 e rest → e.num 3 1 < 16 →
    let given := fun p : Plane => e.num (4 + 4 * p.val) 4
    let selected := fun p : Plane => (e.byte 3).getLsbD p.val
    (e.num 3 1 = 0 ∨ (∃ p : Plane, selected p = true ∧ 65535 < given p) →
      RefusedBy s .factorsLoad e rest .badArg) ∧
    (e.num 3 1 ≠ 0 → (∀ p : Plane, selected p = true → given p ≤ 65535) →
      let factors : Vector Nat 4 := Vector.ofFn fun p => if selected p then given p else s.store.staged.factors[p]
      StagedBy s .factorsLoad e rest { s.store.staged with factors } (factors.toList.map u32))

/-- CLASSES LOAD replaces the staged threshold, bounds and mask together, or is refused with BAD_ARG when any one of
them is out of range, and then changes nothing (R85). -/
def Obligations.ClassesLoadStagesAllFour : Prop :=
  ∀ (s : State) (e : OrderEntry) (rest : List OrderEntry), s.Executes 0x23#8 e rest →
    let bad := 10000 < e.num 3 2 ∨ e.num 7 2 < e.num 5 2 ∨ 40000 < e.num 7 2 ∨ 15 < e.num 9 1
    (bad → RefusedBy s .classesLoad e rest .badArg) ∧
    (¬bad →
      StagedBy s .classesLoad e rest
        { s.store.staged with
          colourThreshold := e.num 3 2, bound1 := e.num 5 2, bound2 := e.num 7 2
          mask := BitVec.ofNat 4 (e.num 9 1) }
        [u16 (e.num 3 2), u16 (e.num 5 2), u16 (e.num 7 2), u8 (e.num 9 1)])

/-- PRICES LOAD replaces the staged price table, or is refused with BAD_ARG when an entry exceeds 65,535, and then
changes nothing (R86). -/
def Obligations.PricesLoadStagesTheTable : Prop :=
  ∀ (s : State) (e : OrderEntry) (rest : List OrderEntry), s.Executes 0x24#8 e rest →
    let price := fun i : Nat => e.num (3 + 4 * i) 4
    ((∃ i < 6, 65535 < price i) → RefusedBy s .pricesLoad e rest .badArg) ∧
    ((∀ i < 6, price i ≤ 65535) →
      StagedBy s .pricesLoad e rest
        { s.store.staged with prices := Vector.ofFn fun i : Fin 6 => price i.val } [])

/-- METERS APPLY without the now option parks with a copy of the staged set; a second one replaces the copy, takes the
first one's place in the list, and the first one completes SUPERSEDED without values. -/
def Obligations.MetersApplyParksACopy : Prop :=
  ∀ (s : State) (e : OrderEntry) (rest : List OrderEntry), s.Executes 0x25#8 e rest → e.byte 3 = 0#8 →
    s.orders.completed = [] →
    let copied : Ledger := { s.ledger with
      store := { s.store with pending := some { set := s.store.staged, serial := e.serial } } }
    (s.store.pending = none → s.orders.parked.length < 8 →
      ∃ t, exec .metersApply s = .next t ∧ Parked s t e rest .switch ∧ t.ledger = copied ∧
        t.orders.holding = s.orders.holding) ∧
    (s.store.pending = none → 8 ≤ s.orders.parked.length → RefusedBy s .metersApply e rest .busy) ∧
    (∀ (p : ParkedOrder) (before after : List ParkedOrder), s.store.pending.isSome →
      s.orders.parked = before ++ p :: after → p.object = .switch → (∀ q ∈ before, q.object.isSwitch = false) →
      ∃ t, exec .metersApply s = .next t ∧ LeavesQueue s t rest ∧ t.ledger = copied ∧
        t.orders.parked = before ++
          { kind := e.kind, serial := e.serial, window := e.window, object := .switch } :: after ∧
        t.orders.holding = s.orders.holding ++
          [{ serial := p.serial, kind := p.kind, window := p.window, reason := some .superseded, values := [] }])

/-- METERS APPLY with the now option is refused with BUSY while a side is METERING; otherwise the staged set becomes
live under the next generation in its event, and it reports both generations. A pending copy is then discarded, and its
order completes SUPERSEDED, behind the order's own result (R171). -/
def Obligations.MetersApplyNowSwitchesAtOnce : Prop :=
  ∀ (s : State) (e : OrderEntry) (rest : List OrderEntry), s.Executes 0x25#8 e rest → e.byte 3 = 1#8 →
    let new := (s.store.liveGen + 1) % 65536
    let switched : Ledger := { s.ledger with
      store := { live := s.store.staged, liveGen := new, staged := s.store.staged, pending := none } }
    (s.meteringSide.isSome → RefusedBy s .metersApplyNow e rest .busy) ∧
    (s.meteringSide = none → s.store.pending = none →
      ∃ t, exec .metersApplyNow s = .next t ∧ Answered s t e rest none [u16 s.store.liveGen, u16 new] ∧
        t.ledger = switched) ∧
    (∀ (p : ParkedOrder) (before after : List ParkedOrder), s.meteringSide = none → s.store.pending.isSome →
      s.orders.parked = before ++ p :: after → p.object = .switch → (∀ q ∈ before, q.object.isSwitch = false) →
      s.orders.completed = [] →
      let own : Result :=
        { serial := e.serial, kind := e.kind, window := e.window, reason := none
          values := [u16 s.store.liveGen, u16 new] }
      let superseded : Result :=
        { serial := p.serial, kind := p.kind, window := p.window, reason := some .superseded, values := [] }
      ∃ t, exec .metersApplyNow s = .next t ∧ LeavesQueue s t rest ∧ t.ledger = switched ∧
        t.orders.parked = before ++ after ∧
        (s.orders.holding.length < 7 →
          t.orders.holding = s.orders.holding ++ [own, superseded] ∧ t.orders.completed = []) ∧
        (s.orders.holding.length = 7 →
          t.orders.holding = s.orders.holding ++ [own] ∧ t.orders.completed = [superseded]))

/-! ### Orders of the side list -/

/-- SIDE BEGIN, when every check of R97 passes, appends an ADMITTED record with the next side id that no record holds,
its reserve from the live price table, its expected lines from the row length of the plane's bands, no generation and
clear flags, adds the reserve to the owner's hold and one to the job's side count; with every check but the last passed,
it is refused with QUOTA and reports the four figures. That the RESULT holds expected lines, 0, for a plane outside the
plane set is the model's choice (log entry 13). -/
def Obligations.SideBeginAdmitsOrRefusesQuota : Prop :=
  ∀ (s : State) (e : OrderEntry) (rest : List OrderEntry) (mode : SideMode) (face : Face) (row : Plane → Nat)
      (i : Fin 16) (j : Job) (u : User),
    let code := fun x : SideMode => match x with | .mono => 0 | .colour => 1 | .auto => 2
    s.Executes 0x30#8 e rest → e.num 3 2 ≠ 0 → e.num 5 1 = code mode →
    e.num 6 1 = (match face with | .simplex => 0 | .front => 1 | .back => 2) →
    s.sides.records.length < 8 → s.accountsBusy = false →
    s.jobWithTag (e.num 3 2) = some i → s.jobs[i] = some j → s.accounts.users[j.owner] = some u →
    j.state = .active → j.kind ≠ .scan → (j.kind = .print → j.release = .released) →
    let m : SideMode := if mode = .auto ∧ u.colour = false then .mono else mode
    let planes : PlaneSet := if m = .mono then 0x8#4 else 0xF#4
    let band := fun (p : Plane) (n : Nat) => ∃ (k : Fin 32) (r : Region) (d : Nat),
      s.classifier.regions[k] = some r ∧ r.state = .live ∧ r.kind = .band p d n ∧ (r.job = none ∨ r.job = some i)
    (∀ p : Plane, hasPlane planes p = true → band p (row p) ∧ ∀ n, band p n → n = row p) →
    16 ≤ e.num 7 4 → e.num 7 4 ≤ 65535 → u.state = .active → (m = .colour → u.colour = true) →
    (∀ p : Plane, hasPlane planes p = true → s.cartridges.slots[p].verdict ≠ .rejected ∧
      (hasPlane s.cartridges.policy.requireGenuine p = true → s.cartridges.slots[p].verdict = .genuine)) →
    1 ≤ s.sides.nextId → s.sides.nextId ≤ 65535 →
    let price := s.store.live.prices
    let mono : Nat := max price[0] (max price[1] price[2])
    let colour : Nat := max price[3] (max price[4] price[5])
    let reserve : Nat := match m with | .mono => mono | .colour => colour | .auto => max mono colour
    let expected : Vector Nat 4 := Vector.ofFn fun p => if hasPlane planes p then e.num 7 4 * row p else 0
    let idAt := fun n : Nat => (s.sides.nextId - 1 + n) % 65535 + 1
    (u.credit - u.spent - u.hold - reserve < u.floor →
      ∃ t, exec .sideBegin s = .next t ∧ t.ledger = s.ledger ∧
        Answered s t e rest (some .quota) [i32 (u.credit - u.spent), u32 u.hold, i32 u.floor, u16 reserve]) ∧
    (u.floor ≤ u.credit - u.spent - u.hold - reserve →
      ∃ t n, exec .sideBegin s = .next t ∧ (∀ x ∈ s.sides.records, x.id ≠ idAt n) ∧
        (∀ k < n, ∃ x ∈ s.sides.records, x.id = idAt k) ∧
        t.sides = { s.sides with
          records := s.sides.records ++
            [{ uid := s.sides.nextUid, id := idAt n, jobSlot := i, jobTag := j.tag, userSlot := j.owner
               userId := u.id, mode := m, downgraded := decide (mode = .auto) && !u.colour, face
               rows := e.num 7 4, planes, expected, reserve, state := .admitted, generation := none
               serials := Vector.replicate 4 none, context := none, blanked := 0, figures := none, charge := none
               outcome := none, capped := false, unproven := 0, partsWritten := 0 }]
          nextId := if idAt n = 65535 then 1 else idAt n + 1, nextUid := s.sides.nextUid + 1 } ∧
        Answered s t e rest none
          ([u16 (idAt n), u8 (code m), u8 (if mode = .auto ∧ u.colour = false then 1 else 0), u8 planes.toNat] ++
            expected.toList.map u32 ++ [u16 reserve, u8 (s.sides.records.length + 1)]) ∧
        t.jobs = put s.jobs i (some { j with sides := j.sides + 1 }) ∧
        t.accounts = { s.accounts with users := put s.accounts.users j.owner (some
          { u with
            hold := u.hold + reserve
            warned := decide (u.credit - u.spent - (u.hold + reserve : Nat) < u.warn) }) } ∧
        t.mem = s.mem ∧ t.store = s.store ∧ t.classifier = s.classifier ∧ t.unattributed = s.unattributed ∧
        t.ledger.slots = s.ledger.slots ∧ t.cartridges.absent = s.cartridges.absent ∧
        t.cartridges.totals = s.cartridges.totals)

/-- SIDE CANCEL voids an ADMITTED side: its reserve leaves the hold, it leaves its job's side count, nothing is charged
or counted, and its record is SETTLED with outcome VOIDED. -/
def Obligations.SideCancelVoidsAnAdmittedSide : Prop :=
  ∀ (s : State) (e : OrderEntry) (rest : List OrderEntry) (r : Side) (j : Job) (u : User),
    s.Executes 0x31#8 e rest → SidesNumbered s.sides → e.num 3 2 ≠ 0 → s.sideWithId (e.num 3 2) = some r →
    r.state = .admitted → s.jobs[r.jobSlot] = some j → j.keepsSlot → s.accounts.users[r.userSlot] = some u →
    ∃ t, exec .sideCancel s = .next t ∧ Answered s t e rest none [u16 r.id, u16 r.reserve] ∧
      t.sides = { s.sides with
        settledOrder := s.sides.settledOrder ++ [r.uid]
        records := s.sides.records.map fun x =>
          if x.uid = r.uid then { x with state := .settled, outcome := some .voided } else x } ∧
      t.jobs = put s.jobs r.jobSlot (some { j with sides := j.sides - 1 }) ∧
      t.accounts = { s.accounts with users := put s.accounts.users r.userSlot (some
        { u with
          hold := u.hold - r.reserve
          warned := decide (u.credit - u.spent - (u.hold - r.reserve : Nat) < u.warn) }) } ∧
      t.cartridges.totals = s.cartridges.totals ∧ t.mem = s.mem ∧ t.store = s.store ∧ t.classifier = s.classifier

/-- SIDE JAM closes the METERING side JAMMED: no charge, the hold released, the spoiled counters raised, the record
SETTLED and every other record as before, and the draw of every plane of the side added to its drawn total and sent
where R155 says. That the RESULT holds a coverage, 0, for a plane outside the plane set is the model's choice (log entry
13), and so is that entries of the absent list are found by serial and plane (log entry 10). -/
def Obligations.SideJamChargesOnlyTheCartridges : Prop :=
  ∀ (s : State) (e : OrderEntry) (rest : List OrderEntry) (r : Side) (j : Job) (u : User),
    s.Executes 0x32#8 e rest → SidesNumbered s.sides → e.num 3 2 ≠ 0 → s.meteringSide = some r →
    r.id = e.num 3 2 → s.jobs[r.jobSlot] = some j → j.keepsSlot → j.settled < 4294967295 →
    s.accounts.users[r.userSlot] = some u → u.counters[7] < 4294967295 → s.accounts.meters.sides[7] < 4294967295 →
    ∃ t, exec .sideJam s = .next t ∧
      Answered s t e rest none (u16 r.id :: (closeFigures s.store.live r).coverage.toList.map u16) ∧
      t.sides = { s.sides with
        settledOrder := s.sides.settledOrder ++ [r.uid]
        records := s.sides.records.map fun x => if x.uid = r.uid then closedRecord s r .jammed 0 false x else x } ∧
      t.jobs = put s.jobs r.jobSlot (some { j with sides := j.sides - 1, settled := j.settled + 1 }) ∧
      t.accounts = { s.accounts with
        users := put s.accounts.users r.userSlot (some
          { u with
            hold := u.hold - r.reserve, counters := put u.counters 7 (u.counters[7] + 1)
            warned := decide (u.credit - u.spent - (u.hold - r.reserve : Nat) < u.warn) })
        meters := { s.accounts.meters with
          sides := put s.accounts.meters.sides 7 (s.accounts.meters.sides[7] + 1) } } ∧
      DrawRouted s t (sideDraws s r) (fun _ => none) ∧
      t.mem = s.mem ∧ t.store = s.store ∧ t.classifier = s.classifier

/-- READOUT POLICY replaces strict readout and reports it before and after; a value that is neither on nor off is
refused with BAD_ARG. -/
def Obligations.ReadoutPolicySetsStrictReadout : Prop :=
  ∀ (s : State) (e : OrderEntry) (rest : List OrderEntry), s.Executes 0x33#8 e rest →
    (1 < e.num 3 1 → RefusedBy s .readoutPolicy e rest .badArg) ∧
    (∀ strict : Bool, e.num 3 1 = (if strict then 1 else 0) →
      ∃ t, exec .readoutPolicy s = .next t ∧
        Answered s t e rest none [u8 (if s.sides.strict then 1 else 0), u8 (if strict then 1 else 0)] ∧
        t.ledger = { s.ledger with sides := { s.sides with strict } })

/-! ### Account orders -/

/-- ACCOUNT OPEN puts an ACTIVE record with the opening credit, zero counters and no hold into the lowest free slot;
it starts WARNED, with the user's bit of QUOTA_LOW, when the credit is below the warn level. -/
def Obligations.AccountOpenTakesTheLowestFreeSlot : Prop :=
  ∀ (s : State) (e : OrderEntry) (rest : List OrderEntry) (i : Fin 64),
    s.Executes 0x40#8 e rest → e.num 3 4 ≠ 0 → LimitsInRange (e.int 8 4) (e.int 12 4) →
    e.num 16 4 ≤ 2147483647 → s.accounts.restore = none → s.userWithId (e.num 3 4) = none →
    s.accounts.users[i] = none → (∀ k : Fin 64, k < i → s.accounts.users[k] ≠ none) → e.num 7 1 ≤ 1 →
    let low := decide ((e.num 16 4 : Int) < e.int 12 4)
    ∃ t, exec .accountOpen s = .next t ∧
      Answered s t e rest none [u8 i.val, u32 (e.num 3 4), u32 (e.num 16 4), u8 (if low then 1 else 0)] ∧
      t.ledger = { s.ledger with
        accounts := { s.accounts with users := put s.accounts.users i (some
          { id := e.num 3 4, state := .active, colour := decide (e.num 7 1 = 1), credit := (e.num 16 4 : Int)
            spent := 0, hold := 0, floor := e.int 8 4, warn := e.int 12 4, warned := low
            counters := Vector.replicate 8 0 }) }
        userMap := if low then s.writer.userMap ||| (1#64 <<< i.val) else s.writer.userMap }

/-- ACCOUNT CREDIT adds the amount, or as much as takes the balance to 2,147,483,647 with CLAMPED; ACCOUNT SET replaces
floor, warn level and permission and, with a balance given, makes the balance that value. Both make the warning test,
which raises the user's bit of QUOTA_LOW when WARNED becomes set. The four bytes of the available balance, and the
whole group of ACCOUNT SET before and then after, are the model's choice (log entry 13). -/
def Obligations.AccountCreditAndSet : Prop :=
  ∀ (s : State) (e : OrderEntry) (rest : List OrderEntry) (i : Fin 64) (u : User),
    e.num 3 4 ≠ 0 → s.accounts.restore = none → s.userWithId (e.num 3 4) = some i →
    s.accounts.users[i] = some u →
    let now := fun w : User => ({ s.ledger with
      userMap := warnedMap s.writer.userMap i u.warned w.warned
      accounts := { s.accounts with users := put s.accounts.users i (some w) } } : Ledger)
    (s.Executes 0x41#8 e rest → u.credit - u.spent ≤ 2147483647 →
      let balance := min 2147483647 (u.credit - u.spent + e.num 7 4)
      ∃ t w, exec .accountCredit s = .next t ∧
        Answered s t e rest none
          [u32 u.id, u8 i.val, u32 (e.num 7 4), u32 (balance - (u.credit - u.spent)).toNat,
            u8 (if 2147483647 < u.credit - u.spent + e.num 7 4 then 1 else 0), i32 balance, u32 u.hold,
            i32 (balance - u.hold)] ∧
        t.ledger = now w ∧
        w = { u with credit := u.spent + balance, warned := decide (balance - u.hold < u.warn) }) ∧
    (s.Executes 0x42#8 e rest → LimitsInRange (e.int 8 4) (e.int 12 4) → e.num 7 1 ≤ 1 →
      let set := fun balance : Int =>
        ∃ t w, exec .accountSet s = .next t ∧
          Answered s t e rest none
            [u32 u.id, u8 i.val, i32 u.floor, i32 u.warn, u8 (if u.colour then 1 else 0), i32 (u.credit - u.spent),
              u8 (if u.warned then 1 else 0), i32 (e.int 8 4), i32 (e.int 12 4), u8 (e.num 7 1), i32 balance,
              u8 (if w.warned then 1 else 0)] ∧
          t.ledger = now w ∧
          w = { u with
            floor := e.int 8 4, warn := e.int 12 4, colour := decide (e.num 7 1 = 1), credit := u.spent + balance
            warned := decide (balance - u.hold < e.int 12 4) }
      (e.byte 16 = 1#8 → -2000000000 ≤ e.int 17 4 → set (e.int 17 4)) ∧
      (e.byte 16 = 0#8 → set (u.credit - u.spent)))

/-- ACCOUNT SUSPEND and ACCOUNT RESUME set the state and report it before and after, and both are refused with BUSY
while a restore buffer is open. That id and slot stand ahead of the states is the model's choice (log entry 13), and so
is that the open restore is looked at before the user id (log entry 14). -/
def Obligations.SuspendAndResumeSetTheState : Prop :=
  ∀ (s : State) (e : OrderEntry) (rest : List OrderEntry),
    (s.accounts.restore.isSome →
      (s.Executes 0x43#8 e rest → RefusedBy s .accountSuspend e rest .busy) ∧
      (s.Executes 0x44#8 e rest → RefusedBy s .accountResume e rest .busy)) ∧
    (∀ (i : Fin 64) (u : User), s.accounts.restore = none → e.num 3 4 ≠ 0 → s.userWithId (e.num 3 4) = some i →
      s.accounts.users[i] = some u →
      let now := fun x : UserState => ({ s.ledger with
        accounts := { s.accounts with users := put s.accounts.users i (some { u with state := x }) } } : Ledger)
      (s.Executes 0x43#8 e rest →
        ∃ t, exec .accountSuspend s = .next t ∧ t.ledger = now .suspended ∧
          Answered s t e rest none [u32 u.id, u8 i.val, u8 u.state.code, u8 1]) ∧
      (s.Executes 0x44#8 e rest →
        ∃ t, exec .accountResume s = .next t ∧ t.ledger = now .active ∧
          Answered s t e rest none [u32 u.id, u8 i.val, u8 u.state.code, u8 0]))

/-- ACCOUNT REMOVE frees the slot of a user without jobs and without a hold, and adds the eight counters into the
retired record, each stopping at its maximum with SATURATION; it is refused with BUSY otherwise, with the user's id and
slot (in that order by the model's choice, log entry 13). -/
def Obligations.AccountRemoveRetiresTheCounters : Prop :=
  ∀ (s : State) (e : OrderEntry) (rest : List OrderEntry) (i : Fin 64) (u : User),
    s.Executes 0x45#8 e rest → s.accounts.restore = none → e.num 3 4 ≠ 0 →
    s.userWithId (e.num 3 4) = some i → s.accounts.users[i] = some u →
    ((∃ k : Fin 16, ∃ j ∈ s.jobs[k], j.owner = i) ∨ u.hold ≠ 0 →
      ∃ t, exec .accountRemove s = .next t ∧ Answered s t e rest (some .busy) [u32 u.id, u8 i.val] ∧
        t.ledger = s.ledger) ∧
    ((∀ k : Fin 16, ∀ j ∈ s.jobs[k], j.owner ≠ i) → u.hold = 0 →
      ∃ t, exec .accountRemove s = .next t ∧
        Answered s t e rest none
          ([u8 i.val, u32 u.id, u8 u.state.code, u8 (if u.colour then 1 else 0), i32 (u.credit - u.spent),
            i32 u.floor, i32 u.warn] ++ u.counters.toList.map u32) ∧
        t.ledger = { s.ledger with
          accounts := { s.accounts with
            users := put s.accounts.users i none
            retired := Vector.ofFn fun k => min 4294967295 (s.accounts.retired[k] + u.counters[k]) }
          notices := if ∃ k : Fin 8, 4294967295 < s.accounts.retired[k] + u.counters[k] then
              s.writer.notices ||| 8#32
            else s.writer.notices })

/-! ### Orders that export and restore the accounts -/

/-- ACCOUNTS EXPORT parks with a copy of every occupied user slot in slot order, the retired record, the device meters
and the draw totals, and changes no table; its tag checks for that copy alone, and every earlier tag for its own
content. It is what the tag function gives the copy, unless an earlier content has that tag (the tagged contents are the
model's, log entry 18). RESTORE BEGIN opens an empty buffer, RESTORE ABANDON closes it, and the records that RESTORE
ACCOUNT and RESTORE METERS carry join it in export order; without an open buffer they are refused with NO_RESTORE. That
the number of buffered or discarded records has one byte is the model's choice (log entry 13). -/
def Obligations.ExportCopiesAndRestoreBuffers : Prop :=
  ∀ (s : State) (e : OrderEntry) (rest : List OrderEntry),
    (s.Executes 0x48#8 e rest → s.sides.records = [] → s.accountsBusy = false →
      s.orders.parked.length + s.orders.completed.length < 8 → s.accounts.tagged.length < 2 ^ 256 →
      let copy : Snapshot :=
        { users := (List.finRange 64).filterMap fun i => (s.accounts.users[i]).map fun u =>
            { slot := i, id := u.id, state := u.state, colour := u.colour, credit := u.credit, spent := u.spent
              floor := u.floor, warn := u.warn, counters := u.counters }
          retired := s.accounts.retired, meters := s.accounts.meters, totals := s.cartridges.totals }
      let checks := fun (x : State) (tag : BitVec 256) (c : Snapshot) =>
        snapshotTagChecks s.fuses.deviceKey x.accounts.tagged tag c
      let tagOf := snapshotTagOf s.fuses.deviceKey s.accounts.tagged
      ∃ t tag, exec .accountsExport s = .next t ∧ Parked s t e rest (.snapshot copy tag 0) ∧
        t.ledger = { s.ledger with accounts := { s.accounts with tagged := t.accounts.tagged } } ∧
        (∀ c : Snapshot, checks t tag c = true ↔ c = copy) ∧
        (∀ earlier ∈ s.accounts.tagged, ∀ c : Snapshot, checks t (tagOf earlier) c = true ↔ c = earlier) ∧
        ((∀ earlier ∈ s.accounts.tagged, earlier ≠ copy → tagOf earlier ≠ snapshotTag s.fuses.deviceKey copy) →
          tag = snapshotTag s.fuses.deviceKey copy)) ∧
    (s.Executes 0x49#8 e rest → s.accountsBusy = false → (∀ i : Fin 16, s.jobs[i] = none) →
      s.sides.records = [] →
      ∃ t, exec .restoreBegin s = .next t ∧ Answered s t e rest none [] ∧
        t.ledger = { s.ledger with
          accounts := { s.accounts with restore := some { users := [], retired := none, parts := [] } } }) ∧
    (s.accounts.restore = none →
      (s.Executes 0x4A#8 e rest → RefusedBy s .restoreAccountUser e rest .noRestore) ∧
      (s.Executes 0x4B#8 e rest → RefusedBy s .restoreAccountRetired e rest .noRestore) ∧
      (s.Executes 0x4C#8 e rest → RefusedBy s .restoreMeters e rest .noRestore) ∧
      (s.Executes 0x4D#8 e rest → RefusedBy s .restoreEnd e rest .noRestore) ∧
      (s.Executes 0x4E#8 e rest → RefusedBy s .restoreAbandon e rest .noRestore)) ∧
    (∀ b, s.accounts.restore = some b →
      let joined := fun x : RestoreBuffer =>
        ({ s.ledger with accounts := { s.accounts with restore := some x } } : Ledger)
      let u : UserCopy :=
        { slot := Fin.ofNat 64 (e.num 3 1), id := e.num 4 4
          state := if (e.byte 3).getLsbD 6 then .suspended else .active, colour := (e.byte 3).getLsbD 7
          credit := e.int 8 8, spent := e.num 16 8, floor := e.int 24 4, warn := e.int 28 4
          counters := Vector.ofFn fun k => e.num (32 + 4 * k.val) 4 }
      (s.Executes 0x4A#8 e rest → u.id ≠ 0 → LimitsInRange u.floor u.warn → u.spent ≤ 2 ^ 62 →
        -2147483648 ≤ u.credit - u.spent → u.credit - u.spent ≤ 2147483647 → b.retired = none → b.parts = [] →
        (∀ x ∈ b.users, x.slot < u.slot ∧ x.id ≠ u.id) →
        ∃ t, exec .restoreAccountUser s = .next t ∧ Answered s t e rest none [u8 (b.users.length + 1)] ∧
          t.ledger = joined { b with users := b.users ++ [u] }) ∧
      (s.Executes 0x4B#8 e rest → b.retired = none → b.parts = [] →
        ∃ t, exec .restoreAccountRetired s = .next t ∧ Answered s t e rest none [u8 (b.users.length + 1)] ∧
          t.ledger = joined { b with retired := some (Vector.ofFn fun i : Fin 8 => e.num (3 + 4 * i.val) 4) }) ∧
      (s.Executes 0x4C#8 e rest → b.retired.isSome → e.num 3 1 = b.parts.length → e.num 3 1 ≤ 4 →
        let part : MetersPart := if e.num 3 1 = 0 then
            .device
              { sides := Vector.ofFn fun k => e.num (4 + 4 * k.val) 4, unaccounted := e.num 36 4
                unattributed := Vector.ofFn fun k => e.num (40 + 4 * k.val) 4, blanked := e.num 56 4 }
          else
            .plane { drawn := e.bits 4 8, confirmed := e.bits 12 8, unproven := e.bits 20 8, lost := e.bits 28 8 }
        ∃ t, exec .restoreMeters s = .next t ∧
          Answered s t e rest none [u8 (b.users.length + 1 + if e.num 3 1 = 4 then 1 else 0)] ∧
          t.ledger = joined { b with parts := b.parts ++ [part] }) ∧
      (s.Executes 0x4E#8 e rest →
        ∃ t, exec .restoreAbandon s = .next t ∧
          Answered s t e rest none
            [u8 (b.users.length + (if b.retired.isSome then 1 else 0) + if b.parts = [] then 0 else 1)] ∧
          t.ledger = { s.ledger with accounts := { s.accounts with restore := none } }))

/-- RESTORE END with a tag that does not check closes the buffer and changes nothing else; with a tag that checks for
the buffered records it installs their users with no hold, the retired record and the device meters, closes the buffer,
and leaves the draw totals of every plane balanced with the owed draw that the part holds. The tag of a tagged content
checks exactly when the buffered records are that content, unaltered; any other tag checks when the tag function gives
it to them, and for no other content from then on (the tagged contents are the model's, log entry 18). -/
def Obligations.RestoreEndInstallsOnlyUnderItsTag : Prop :=
  ∀ (s : State) (e : OrderEntry) (rest : List OrderEntry) (b : RestoreBuffer) (c : Snapshot),
    s.Executes 0x4D#8 e rest → s.accounts.restore = some b → b.snapshot = some c →
    let key := s.fuses.deviceKey
    let checks := snapshotTagChecks key s.accounts.tagged (e.bits 3 32) c
    (∀ exported ∈ s.accounts.tagged, s.accounts.tagged.length ≤ 2 ^ 256 →
      e.bits 3 32 = snapshotTagOf key s.accounts.tagged exported → (checks = true ↔ c = exported)) ∧
    ((∀ known ∈ s.accounts.tagged, e.bits 3 32 ≠ snapshotTagOf key s.accounts.tagged known) →
      (checks = true ↔ snapshotTag key c = e.bits 3 32)) ∧
    (checks = false →
      ∃ t, exec .restoreEnd s = .next t ∧ Answered s t e rest (some .badTag) [] ∧
        t.ledger = { s.ledger with accounts := { s.accounts with restore := none } }) ∧
    (checks = true →
      ∃ t, exec .restoreEnd s = .next t ∧ Answered s t e rest none [u8 c.users.length] ∧
        (∀ d : Snapshot, snapshotTagChecks key t.accounts.tagged (e.bits 3 32) d = true ↔ d = c) ∧
        t.accounts.retired = c.retired ∧ t.accounts.meters = c.meters ∧ t.accounts.restore = none ∧
        (∀ u ∈ c.users, (c.users.map UserCopy.slot).Nodup →
          t.accounts.users[u.slot] = some
            { id := u.id, state := u.state, colour := u.colour, credit := u.credit, spent := u.spent, hold := 0
              floor := u.floor, warn := u.warn, warned := decide (u.credit - u.spent < u.warn)
              counters := u.counters }) ∧
        (∀ i : Fin 64, (∀ u ∈ c.users, u.slot ≠ i) → t.accounts.users[i] = none) ∧
        DrawLaw t.cartridges ∧
        (∀ p : Plane, t.cartridges.totals[p].confirmed = c.totals[p].confirmed ∧
          t.cartridges.totals[p].unproven = c.totals[p].unproven ∧ t.cartridges.totals[p].lost = c.totals[p].lost) ∧
        t.cartridges.absent = s.cartridges.absent ∧ t.mem = s.mem ∧ t.sides = s.sides ∧ t.jobs = s.jobs ∧
        t.store = s.store)

/-! ### Orders of the cartridge prover and the order taker -/

/-- CARTRIDGE PROBE of a seated slot that is not REJECTED parks and makes the proof due, here while the line is taken
by another exchange; an EMPTY slot is refused with NO_CARTRIDGE and a REJECTED one with SLOT_STATE. -/
def Obligations.CartridgeProbeParks : Prop :=
  ∀ (s : State) (e : OrderEntry) (rest : List OrderEntry) (p : Plane),
    s.Executes 0x50#8 e rest → e.num 3 1 = p.val →
    let c := s.cartridges.slots[p]
    (c.seated = false → RefusedBy s .cartridgeProbe e rest .noCartridge) ∧
    (c.seated = true → c.verdict = .rejected → RefusedBy s .cartridgeProbe e rest .slotState) ∧
    (c.seated = true → c.verdict ≠ .rejected → (∀ q ∈ s.orders.parked, q.object ≠ .cartridge p) →
      s.orders.parked.length + s.orders.completed.length < 8 →
      ∃ t, exec .cartridgeProbe s = .next t ∧ Parked s t e rest (.cartridge p) ∧ t.ledger = s.ledger ∧
        (s.cartridges.line.isSome →
          t.cartridges = { s.cartridges with
            slots := put s.cartridges.slots p
              { c with probePending := c.probePending || decide (c.exchange = .idle ∨ c.exchange = .debit) } }))

/-- TONER POLICY replaces the four values and reports them before and after; a debit falls due for a GENUINE slot whose
owed draw has reached the new threshold; an interval above 65,535 or a threshold of 0 is refused. TONER_LOW is raised
for the planes whose estimate is below the new low mark and was not below the old one. Every command, a cold reset
apart, raises TONER_LOW when an estimate falls below the low mark or is first known there, and TONER_OUT when it falls
to 0 or is first known to be 0; a proof that shows a cartridge new to the slot, with a count below the low mark, raises
TONER_LOW too (R158; that a serial other than the slot's makes it new is the model's reading, log entry 10). -/
def Obligations.TonerPolicyReplacesAndTests : Prop :=
  (∀ (s : State) (e : OrderEntry) (rest : List OrderEntry), s.Executes 0x52#8 e rest →
    (65535 < e.num 4 4 ∨ e.num 8 4 = 0 → RefusedBy s .tonerPolicy e rest .badArg) ∧
    (e.num 4 4 ≤ 65535 → e.num 8 4 ≠ 0 → e.num 3 1 < 16 →
      let old := s.cartridges.policy
      ∃ t, exec .tonerPolicy s = .next t ∧
        Answered s t e rest none
          [u8 old.requireGenuine.toNat, u32 old.interval, u32 old.threshold, u32 old.lowMark, u8 (e.num 3 1),
            u32 (e.num 4 4), u32 (e.num 8 4), u32 (e.num 12 4)] ∧
        t.cartridges.policy =
          { requireGenuine := BitVec.ofNat 4 (e.num 3 1), interval := e.num 4 4, threshold := e.num 8 4
            lowMark := e.num 12 4 } ∧
        t.ledger = { s.ledger with policy := t.cartridges.policy, notices := t.writer.notices } ∧
        (∀ p : Plane,
          let c := s.cartridges.slots[p]
          let estimate := c.remaining.map fun n => n - c.owed
          t.writer.notices.getLsbD (8 + p.val) = (s.writer.notices.getLsbD (8 + p.val) ||
            estimate.any fun n => decide (n < e.num 12 4) && decide (old.lowMark ≤ n)) ∧
          (s.cartridges.line.isSome →
          t.cartridges.slots[p].debitPending = (c.debitPending || (c.seated && decide (c.verdict = .genuine) &&
            decide (c.uncertain = none) && decide (c.exchange ≠ .debit) && decide (e.num 8 4 ≤ c.owed))))) ∧
        ∀ b : Nat, ¬(8 ≤ b ∧ b < 12) → t.writer.notices.getLsbD b = s.writer.notices.getLsbD b)) ∧
  ∀ (c : Instr) (s : State), (∀ m p, c ≠ .coldReset m p) → ∃ t, exec c s = .next t ∧ ∀ p : Plane,
    let estimate := fun x : State =>
      x.cartridges.slots[p].remaining.map fun n => n - x.cartridges.slots[p].owed
    ∀ n, estimate t = some n →
      (n < t.cartridges.policy.lowMark → (∀ o, estimate s = some o → s.cartridges.policy.lowMark ≤ o) →
        t.writer.notices.getLsbD (8 + p.val) = true) ∧
      (n = 0 → (∀ o, estimate s = some o → 0 < o) → t.writer.notices.getLsbD (12 + p.val) = true) ∧
      (t.cartridges.slots[p].verdict = .genuine → t.cartridges.slots[p].serial ≠ s.cartridges.slots[p].serial →
        (∀ m, t.cartridges.slots[p].remaining = some m → m < t.cartridges.policy.lowMark) →
        t.writer.notices.getLsbD (8 + p.val) = true)

/-- NOTICES ACK clears the named notices and user-map bits and reports both before and after, NOTICES ENABLE replaces
the enables and reports them before and after, attention follows in the same event, and both refuse bits that
Chapter 11 does not define. That NOTICES ACK reports both values before and then both after is the model's choice (log
entry 13). -/
def Obligations.NoticeOrdersClearAndEnable : Prop :=
  ∀ (s : State) (e : OrderEntry) (rest : List OrderEntry),
    let all := fun (bits : BitVec 32) (map : BitVec 64) => bits ||| (if map = 0 then 0#32 else 0x20#32)
    let bits := s.writer.notices &&& ~~~(e.bits 3 4)
    let map := s.writer.userMap &&& ~~~(e.bits 7 8)
    (s.Executes 0x60#8 e rest →
      (e.bits 3 4 &&& ~~~0x00FFFF1F#32 ≠ 0 → RefusedBy s .noticesAck e rest .badArg) ∧
      (e.bits 3 4 &&& ~~~0x00FFFF1F#32 = 0 →
        ∃ t, exec .noticesAck s = .next t ∧
          Answered s t e rest none
            [u32 (all s.writer.notices s.writer.userMap).toNat, u64 s.writer.userMap.toNat, u32 (all bits map).toNat,
              u64 map.toNat] ∧
          t.ledger = { s.ledger with notices := bits, userMap := map } ∧
          t.writer.attention = (decide (0 < s.writer.unread) ||
            decide (all bits map &&& s.writer.enables ≠ 0)))) ∧
    (s.Executes 0x61#8 e rest →
      (e.bits 3 4 &&& ~~~0x00FFFF3F#32 ≠ 0 → RefusedBy s .noticesEnable e rest .badArg) ∧
      (e.bits 3 4 &&& ~~~0x00FFFF3F#32 = 0 →
        ∃ t, exec .noticesEnable s = .next t ∧
          Answered s t e rest none [u32 s.writer.enables.toNat, u32 (e.bits 3 4).toNat] ∧
          t.ledger = { s.ledger with enables := e.bits 3 4 } ∧
          t.writer.attention = (decide (0 < s.writer.unread) ||
            decide (all s.writer.notices s.writer.userMap &&& e.bits 3 4 ≠ 0))))

/-- PART RESET with nothing in flight and no writer line on its way takes its reset event at once: jobs, regions, sides
and the orders are gone, each hold released with the warning test, the exchange on the cartridge line abandoned, the
unattributed records and the METERING side's sums converted and routed, the ring empty under the next epoch with the
header, the summary line and the first return of the reset sequence on their way. The order-take writes that wait for a
queue place, here with no later write behind them, are then taken, and requests that wait on the channel arrive, here to
plain lines. Page memory, every other field of the users, the retired record, device meters, parameters, policies,
sources, the absent list, notices and enables stay. With work in flight it waits, and with the drain complete it waits
for the writer's lines. RESET_EVENT carries out the same reset at the end of a wait (as a command of its own the model's
choice, log entry 3). A queued REGION QUERY is answered with memory size and control base (R12). The layout of its own
values is log entry 13, an abandoned debit of amount 0 log entry 10, the rewrites ahead of the return log entry 7, and
the place of a superseding METERS APPLY among the answers log entry 23. -/
def Obligations.PartResetEmptiesTheWorkingState : Prop :=
  ∀ s : State, s.channel.heldOrders.length ≤ 8 → (∀ q ∈ s.channel.heldOrders, q.treatment = .orderTake) →
    (s.channel.waiting = [] ∨ (s.channel.summaryWritten = true ∧ s.channel.headerWritten = true)) →
    (∀ q ∈ s.channel.waiting, q.line < s.classifier.memLines ∧
      ¬(s.classifier.controlBase ≤ q.line ∧ q.line < s.classifier.controlBase + 512) ∧
      ∀ data, q.access ≠ .write 0 data) →
    let taken := s.channel.heldOrders.filterMap fun q => match q.access, q.place with
      | .write _ data, .control w => some
          ({ window := w, kind := data.extractLsb' 0 8, serial := data.extractLsb' 8 16
             args := data.extractLsb' 24 488 } : OrderEntry)
      | _, _ => none
    let arrivals : List Req := (s.channel.waiting.zipIdx s.channel.nextId).map fun x =>
      { id := x.2, tag := x.1.tag, cls := s.classifier.sources[x.1.tag], line := x.1.line, access := x.1.access
        place := .plain, treatment := .pass }
    let live := s.sides.records.filter fun r => decide (r.state ≠ .settled)
    let gathered := fun p : Plane => match (s.meteringSide.bind Side.context).bind fun c => c.planes[p] with
      | some m => min 1099511627775 (s.unattributed[p].sum + m.sum)
      | none => s.unattributed[p].sum
    let draw := fun p : Plane => roundHalfEven (gathered p * s.store.live.factors[p]) 16777216
    let abandoned : Plane → CartridgeSlot := fun p => match s.cartridges.line with
      | none => s.cartridges.slots[p]
      | some x =>
        if x.slot = p then match x.message with
          | .challenge _ => { s.cartridges.slots[p] with answerTimer := none }
          | .debit amount _ _ =>
            { s.cartridges.slots[p] with
              answerTimer := none, verdict := .doubtful, uncertain := if amount = 0 then none else some amount }
        else s.cartridges.slots[p]
    let proven := fun p : Plane =>
      (abandoned p).seated && (abandoned p).serial.isSome && decide ((abandoned p).verdict = .genuine)
    let answer := fun (serial : BitVec 16) (kind : Byte) (window : Nat) (values : List Val) =>
      ({ serial, kind, window, reason := some .reset, values } : Result)
    let after := fun (t : State) (serial : BitVec 16) (window : Nat) (queue : List OrderEntry) =>
      let answered := s.orders.holding ++ s.orders.completed ++
        (s.orders.parked.map fun p => answer p.serial p.kind p.window (match p.object with
          | .job i _ => match s.jobs[i] with
            | some j => [u16 j.tag, u8 i.val]
            | none => []
          | _ => [])) ++
        queue.map fun e => answer e.serial e.kind e.window
          (if e.kind = 0x04#8 then [u32 s.classifier.memLines, u32 s.classifier.controlBase] else [])
      let own : Result := { serial, kind := 0x62#8, window, reason := none, values :=
        [u8 (s.jobs.toList.countP Option.isSome), u8 (s.classifier.regions.toList.countP Option.isSome), u8 live.length,
          u8 (s.sides.records.length - live.length), u8 (if s.accountsBusy then 1 else 0)] ++
        (match s.cartridges.line with
          | some x => [u8 1, u8 x.slot.val]
          | none => [u8 0, u8 0]) ++
        [u8 (s.orders.parked.length + queue.length), u8 answered.length] }
      (∀ i : Fin 16, t.jobs[i] = none) ∧
      t.classifier = { s.classifier with regions := Vector.replicate 32 none } ∧
      t.sides = { s.sides with records := [], settledOrder := [] } ∧
      t.store = { s.store with pending := none } ∧ t.mem = s.mem ∧ t.protection = s.protection ∧
      t.channel = { s.channel with
        heldOrders := [], waiting := [], nextId := s.channel.nextId + s.channel.waiting.length
        outstanding := s.channel.outstanding ++ arrivals.map fun r => { id := r.id, tag := r.tag, answer := none } } ∧
      t.accounts = { s.accounts with
        restore := none, users := Vector.ofFn fun k => (s.accounts.users[k]).map (releasedUser live k) } ∧
      (∀ p : Plane, t.unattributed[p] = { sum := 0, tally := 0, saturated := false }) ∧
      t.orders =
        { queue := taken, parked := [], completed := [], holding := [], resetWait := none
          resetSequence := own :: answered } ∧
      t.writer.writeIndex = 0 ∧ t.writer.readIndex = 0 ∧ t.writer.epoch = (s.writer.epoch + 1) % 65536 ∧
      t.writer.enables = s.writer.enables ∧ s.writer.notices &&& t.writer.notices = s.writer.notices ∧
      s.writer.userMap &&& t.writer.userMap = s.writer.userMap ∧
      (WarningsSet s → t.writer.userMap = s.writer.userMap) ∧
      t.port.upstream = s.port.upstream ++ s.channel.heldOrders ++ arrivals ∧ t.port.last = .upstream ∧
      t.port.own = s.port.own ++ [.header, .summary, .ret .orderTaker (resultLine t.writer.epoch own)] ∧
      t.cartridges.pins = s.cartridges.pins ∧ t.cartridges.policy = s.cartridges.policy ∧
      t.cartridges.absent = s.cartridges.absent ∧
      ∀ p : Plane,
        let c := abandoned p
        let old := s.cartridges.totals[p]
        t.cartridges.slots[p].standing = CartridgeSlot.standing
          { c with owed := if proven p then min 4294967295 (c.owed + draw p) else c.owed } ∧
        t.cartridges.totals[p] =
          { drawn := old.drawn + BitVec.ofNat 64 (draw p), confirmed := old.confirmed
            unproven := if proven p then old.unproven else old.unproven + BitVec.ofNat 64 (draw p)
            lost := if proven p then old.lost + BitVec.ofNat 64 (c.owed + draw p - 4294967295) else old.lost }
    (∀ (e : OrderEntry) (rest : List OrderEntry), s.Executes 0x62#8 e rest →
      (s.drainComplete = true → s.writerBusy = false →
        ∃ t, exec .partReset s = .next t ∧ after t e.serial e.window rest) ∧
      (¬(s.drainComplete = true ∧ s.writerBusy = false) →
        ∃ t, exec .partReset s = .next t ∧ t.ledger = s.ledger ∧ t.orders.queue = rest ∧
          t.orders.parked = s.orders.parked ∧
          t.orders.resetWait = some { serial := e.serial, window := e.window, drained := s.drainComplete })) ∧
    (∀ w : ResetWait, s.orders.resetWait = some w → s.drainComplete = true → s.writerBusy = false →
      ∃ t, exec .resetEvent s = .next t ∧ after t w.serial w.window s.orders.queue)

/-- The queries, and an order whose kind names no order, change no table, but for the refusal counter that REGION QUERY
clears when asked: each query reports the values that its rule and R189 list, by tag, id or slot number, and FREE or
absent where there is no record; the unknown kind is refused with BAD_ORDER, and a region slot above 31 with BAD_ARG and
the memory size and control base. The one flag before a region's binding, the zeros in the band fields of a PRIVATE
region, the order of METERS QUERY parts 0 to 3, the report of a free user slot, the four bytes of the available balance,
the three timer flags, the flag byte before an absent-list entry, and the entries' positions, in the whole list and
behind the entry, are the model's choice, and that no slot or part number stands where R189's table names none is its
reading (log entry 13). -/
def Obligations.QueriesAndUnknownKindsChangeNothing : Prop :=
  ∀ (s : State) (e : OrderEntry) (rest : List OrderEntry),
    let leaves := fun (c : Instr) (values : List Val) (l : Ledger) =>
      ∃ t, exec c s = .next t ∧ Answered s t e rest none values ∧ t.ledger = l
    let reports := fun (c : Instr) (values : List Val) => leaves c values s.ledger
    let bit := fun b : Bool => u8 (if b then 1 else 0)
    let optional := fun (width : Nat) (v : Option Nat) => [bit v.isSome, { width, value := v.getD 0 }]
    let tagOf := fun i : Fin 16 => match s.jobs[i] with
      | some j => j.tag
      | none => 0
    let idOf := fun i : Fin 64 => match s.accounts.users[i] with
      | some u => u.id
      | none => 0
    let size := [u32 s.classifier.memLines, u32 s.classifier.controlBase]
    (∀ i : Fin 32, s.Executes 0x04#8 e rest → e.num 3 1 = i.val →
      (s.classifier.regions[i] = none → reports .regionQuery (u8 0 :: size)) ∧
      ∀ r, s.classifier.regions[i] = some r →
        let values :=
          [u8 (match r.state with | .live => 1 | .orphan => 2), u32 r.base, u32 r.size,
            u8 (match r.kind with | .priv => 0 | .band _ _ _ => 1)] ++
          (match r.job with
            | some k => [u8 1, u8 k.val, u16 (tagOf k)]
            | none => [u8 0, u8 0, u16 0]) ++
          [u16 r.refusals] ++
          (match r.kind with
            | .priv => [u8 0, u8 0, u16 0]
            | .band p d n => [u8 p.val, u8 d, u16 n]) ++
          [u8 (s.mergesOn r.uid), bit (s.orders.parked.any fun p => decide (p.object = .region i))] ++ size
        (e.byte 4 = 0#8 → reports .regionQuery values) ∧
        (e.byte 4 = 1#8 → leaves .regionQuery values { s.ledger with
          classifier := { s.classifier with
            regions := put s.classifier.regions i (some { r with refusals := 0 }) } })) ∧
    (s.Executes 0x04#8 e rest → 31 < e.num 3 1 →
      ∃ t, exec .regionQuery s = .next t ∧ Answered s t e rest (some .badArg) size ∧ t.ledger = s.ledger) ∧
    (∀ i : Fin 16, s.Executes 0x14#8 e rest →
      (e.num 3 1 = 1 → e.num 4 1 = i.val → s.jobs[i] = none → reports .jobQuery [u8 0, u8 0]) ∧
      ∀ j, s.jobs[i] = some j →
        (e.num 3 1 = 1 ∧ e.num 4 1 = i.val) ∨
          (e.num 3 1 = 0 ∧ e.num 4 2 ≠ 0 ∧ s.jobWithTag (e.num 4 2) = some i) →
        reports .jobQuery
          [u8 i.val, u8 (match j.state with | .active => 1 | .closing => 2), u16 j.tag,
            u8 (match j.kind with | .scan => 0 | .copy => 1 | .print => 2), u8 j.owner.val, u32 (idOf j.owner),
            u8 (match j.release with | .sealed => 0 | .released => 1), u8 1, u8 j.regions, u8 j.sides, u8 j.merges,
            u32 j.lines, u32 j.enciphered, u32 j.settled, bit j.closePending, bit j.voidRequested]) ∧
    (s.Executes 0x26#8 e rest → e.num 3 1 ≤ 2 → e.num 4 1 ≤ 4 →
      (e.num 3 1 = 2 → s.store.pending = none → RefusedBy s .metersQuery e rest .noPending) ∧
      ∀ set, (match e.num 3 1 with
          | 0 => some s.store.live
          | 1 => some s.store.staged
          | _ => s.store.pending.map PendingCopy.set) = some set →
        (∀ p : Plane, e.num 4 1 = p.val → reports .metersQuery
          ([u16 s.store.liveGen, u16 ((s.store.liveGen + 1) % 65536), bit s.store.pending.isSome] ++
            set.curves[p].toList.map u16)) ∧
        (e.num 4 1 = 4 → reports .metersQuery
          (set.factors.toList.map u32 ++ [u16 set.colourThreshold, u16 set.bound1, u16 set.bound2] ++
            set.prices.toList.map u32 ++ [u8 set.mask.toNat, bit (decide (s.store.staged ≠ s.store.live))] ++
            optional 2 (s.store.pending.map fun c => c.serial.toNat)))) ∧
    (∀ i : Fin 64, s.Executes 0x46#8 e rest → e.num 8 1 ≤ 1 →
      (e.num 3 1 = 1 → e.num 4 1 = i.val → s.accounts.users[i] = none → reports .accountQuery [u8 i.val]) ∧
      ∀ u, s.accounts.users[i] = some u →
        (e.num 3 1 = 1 ∧ e.num 4 1 = i.val) ∨
          (e.num 3 1 = 0 ∧ e.num 4 4 ≠ 0 ∧ s.userWithId (e.num 4 4) = some i) →
        (e.num 8 1 = 0 → reports .accountQuery
          [u8 i.val, u32 u.id, u8 (match u.state with | .active => 0 | .suspended => 1), bit u.colour, i64 u.credit,
            u64 u.spent, u32 u.hold, i32 u.floor, i32 u.warn, bit u.warned, i32 (u.credit - u.spent),
            i32 (u.credit - u.spent - u.hold),
            u8 (s.sides.records.countP fun r => decide (r.state ≠ .settled) && decide (r.userSlot = i)),
            u8 (s.jobs.toList.countP fun x => x.any fun j => decide (j.owner = i))]) ∧
        (e.num 8 1 = 1 → reports .accountQuery ([u8 i.val, u32 u.id] ++ u.counters.toList.map u32))) ∧
    (∀ p : Plane, s.Executes 0x51#8 e rest → e.num 3 1 = p.val →
      let c := s.cartridges.slots[p]
      let totals := s.cartridges.totals[p]
      let policy := s.cartridges.policy
      let entries := (s.cartridges.absent.zipIdx 1).filter fun x => decide (x.1.plane = p)
      (e.num 4 1 = 0 → c.history.length ≤ 8 → ∃ history : BitVec 8,
        (∀ n : Nat, history.getLsbD n = c.history.getD n false) ∧
        reports .cartridgeQuery
          ([u8 p.val, bit c.seated] ++ optional 8 (c.serial.map BitVec.toNat) ++
            [u8 (match c.verdict with
              | .unknown => 0 | .genuine => 1 | .doubtful => 2 | .unproven => 3 | .rejected => 4),
              u8 (match c.exchange with | .idle => 0 | .settling => 1 | .probe => 2 | .debit => 3 | .retryWait => 4),
              u8 c.attempts] ++
            optional 4 c.remaining ++ [u32 c.owed] ++ optional 4 c.uncertain ++
            [u8 c.history.length, u8 history.toNat, bit c.everFailed, bit c.everSilent, u16 c.reproof,
              bit c.probePending, bit c.debitPending] ++
            optional 4 (c.remaining.map fun n => n - c.owed) ++
            [bit c.settlingTimer.isSome, bit c.retryTimer.isSome, bit c.answerTimer.isSome])) ∧
      (e.num 4 1 = 1 → reports .cartridgeQuery
        [u64 totals.drawn.toNat, u64 totals.confirmed.toNat, u64 totals.unproven.toNat, u64 totals.lost.toNat,
          u8 entries.length, bit (policy.requireGenuine.getLsbD p.val), u32 policy.interval, u32 policy.threshold,
          u32 policy.lowMark]) ∧
      (∀ n : Nat, e.num 4 1 = n + 2 → n ≤ 7 →
        (entries[n]? = none → reports .cartridgeQuery [u8 0]) ∧
        ∀ a place, entries[n]? = some (a, place) → reports .cartridgeQuery
          ([u8 1, u64 a.serial.toNat, u8 a.plane.val, u32 a.owed] ++ optional 4 a.remaining ++
            optional 4 a.uncertain ++ [u8 place]))) ∧
    (s.Executes 0x47#8 e rest →
      (2 < e.num 3 1 → RefusedBy s .countersQuery e rest .badArg) ∧
      (e.num 3 1 = 0 → reports .countersQuery
        (s.accounts.meters.sides.toList.map u32 ++ [u32 s.accounts.meters.unaccounted])) ∧
      (e.num 3 1 = 1 → reports .countersQuery
        (s.accounts.meters.unattributed.toList.map u32 ++ [u32 s.accounts.meters.blanked])) ∧
      (e.num 3 1 = 2 → reports .countersQuery (s.accounts.retired.toList.map u32))) ∧
    (s.Executes e.kind e rest → e.kind ∉ orderKinds → RefusedBy s .badOrder e rest .badOrder)
end

