-- ==== Sys2Proof/Laws/State.lean ====
section
/-! SUPPORT. One lemma for each field and each update of one record of the state: the fields an update leaves alone. -/

namespace Sys2Proof.Machine

@[simp] theorem State.onJob_pending (s : State) (i : Fin 16) (f : Job → Job) : (s.onJob i f).pending = s.pending := rfl
@[simp] theorem State.onJob_fuses (s : State) (i : Fin 16) (f : Job → Job) : (s.onJob i f).fuses = s.fuses := rfl
@[simp] theorem State.onJob_draws (s : State) (i : Fin 16) (f : Job → Job) : (s.onJob i f).draws = s.draws := rfl
@[simp] theorem State.onJob_mem (s : State) (i : Fin 16) (f : Job → Job) : (s.onJob i f).mem = s.mem := rfl
@[simp] theorem State.onJob_channel (s : State) (i : Fin 16) (f : Job → Job) : (s.onJob i f).channel = s.channel := rfl
@[simp] theorem State.onJob_classifier (s : State) (i : Fin 16) (f : Job → Job) : (s.onJob i f).classifier = s.classifier := rfl
@[simp] theorem State.onJob_protection (s : State) (i : Fin 16) (f : Job → Job) : (s.onJob i f).protection = s.protection := rfl
@[simp] theorem State.onJob_port (s : State) (i : Fin 16) (f : Job → Job) : (s.onJob i f).port = s.port := rfl
@[simp] theorem State.onJob_unattributed (s : State) (i : Fin 16) (f : Job → Job) : (s.onJob i f).unattributed = s.unattributed := rfl
@[simp] theorem State.onJob_store (s : State) (i : Fin 16) (f : Job → Job) : (s.onJob i f).store = s.store := rfl
@[simp] theorem State.onJob_sides (s : State) (i : Fin 16) (f : Job → Job) : (s.onJob i f).sides = s.sides := rfl
@[simp] theorem State.onJob_accounts (s : State) (i : Fin 16) (f : Job → Job) : (s.onJob i f).accounts = s.accounts := rfl
@[simp] theorem State.onJob_cartridges (s : State) (i : Fin 16) (f : Job → Job) : (s.onJob i f).cartridges = s.cartridges := rfl
@[simp] theorem State.onJob_orders (s : State) (i : Fin 16) (f : Job → Job) : (s.onJob i f).orders = s.orders := rfl
@[simp] theorem State.onJob_writer (s : State) (i : Fin 16) (f : Job → Job) : (s.onJob i f).writer = s.writer := rfl

@[simp] theorem State.onRegion_pending (s : State) (i : Fin 32) (f : Region → Region) : (s.onRegion i f).pending = s.pending := rfl
@[simp] theorem State.onRegion_fuses (s : State) (i : Fin 32) (f : Region → Region) : (s.onRegion i f).fuses = s.fuses := rfl
@[simp] theorem State.onRegion_draws (s : State) (i : Fin 32) (f : Region → Region) : (s.onRegion i f).draws = s.draws := rfl
@[simp] theorem State.onRegion_mem (s : State) (i : Fin 32) (f : Region → Region) : (s.onRegion i f).mem = s.mem := rfl
@[simp] theorem State.onRegion_channel (s : State) (i : Fin 32) (f : Region → Region) : (s.onRegion i f).channel = s.channel := rfl
@[simp] theorem State.onRegion_protection (s : State) (i : Fin 32) (f : Region → Region) : (s.onRegion i f).protection = s.protection := rfl
@[simp] theorem State.onRegion_port (s : State) (i : Fin 32) (f : Region → Region) : (s.onRegion i f).port = s.port := rfl
@[simp] theorem State.onRegion_jobs (s : State) (i : Fin 32) (f : Region → Region) : (s.onRegion i f).jobs = s.jobs := rfl
@[simp] theorem State.onRegion_unattributed (s : State) (i : Fin 32) (f : Region → Region) : (s.onRegion i f).unattributed = s.unattributed := rfl
@[simp] theorem State.onRegion_store (s : State) (i : Fin 32) (f : Region → Region) : (s.onRegion i f).store = s.store := rfl
@[simp] theorem State.onRegion_sides (s : State) (i : Fin 32) (f : Region → Region) : (s.onRegion i f).sides = s.sides := rfl
@[simp] theorem State.onRegion_accounts (s : State) (i : Fin 32) (f : Region → Region) : (s.onRegion i f).accounts = s.accounts := rfl
@[simp] theorem State.onRegion_cartridges (s : State) (i : Fin 32) (f : Region → Region) : (s.onRegion i f).cartridges = s.cartridges := rfl
@[simp] theorem State.onRegion_orders (s : State) (i : Fin 32) (f : Region → Region) : (s.onRegion i f).orders = s.orders := rfl
@[simp] theorem State.onRegion_writer (s : State) (i : Fin 32) (f : Region → Region) : (s.onRegion i f).writer = s.writer := rfl

@[simp] theorem State.onUser_pending (s : State) (i : Fin 64) (f : User → User) : (s.onUser i f).pending = s.pending := rfl
@[simp] theorem State.onUser_fuses (s : State) (i : Fin 64) (f : User → User) : (s.onUser i f).fuses = s.fuses := rfl
@[simp] theorem State.onUser_draws (s : State) (i : Fin 64) (f : User → User) : (s.onUser i f).draws = s.draws := rfl
@[simp] theorem State.onUser_mem (s : State) (i : Fin 64) (f : User → User) : (s.onUser i f).mem = s.mem := rfl
@[simp] theorem State.onUser_channel (s : State) (i : Fin 64) (f : User → User) : (s.onUser i f).channel = s.channel := rfl
@[simp] theorem State.onUser_classifier (s : State) (i : Fin 64) (f : User → User) : (s.onUser i f).classifier = s.classifier := rfl
@[simp] theorem State.onUser_protection (s : State) (i : Fin 64) (f : User → User) : (s.onUser i f).protection = s.protection := rfl
@[simp] theorem State.onUser_port (s : State) (i : Fin 64) (f : User → User) : (s.onUser i f).port = s.port := rfl
@[simp] theorem State.onUser_jobs (s : State) (i : Fin 64) (f : User → User) : (s.onUser i f).jobs = s.jobs := rfl
@[simp] theorem State.onUser_unattributed (s : State) (i : Fin 64) (f : User → User) : (s.onUser i f).unattributed = s.unattributed := rfl
@[simp] theorem State.onUser_store (s : State) (i : Fin 64) (f : User → User) : (s.onUser i f).store = s.store := rfl
@[simp] theorem State.onUser_sides (s : State) (i : Fin 64) (f : User → User) : (s.onUser i f).sides = s.sides := rfl
@[simp] theorem State.onUser_cartridges (s : State) (i : Fin 64) (f : User → User) : (s.onUser i f).cartridges = s.cartridges := rfl
@[simp] theorem State.onUser_orders (s : State) (i : Fin 64) (f : User → User) : (s.onUser i f).orders = s.orders := rfl
@[simp] theorem State.onUser_writer (s : State) (i : Fin 64) (f : User → User) : (s.onUser i f).writer = s.writer := rfl

@[simp] theorem State.onSlot_pending (s : State) (p : Plane) (f : CartridgeSlot → CartridgeSlot) : (s.onSlot p f).pending = s.pending := rfl
@[simp] theorem State.onSlot_fuses (s : State) (p : Plane) (f : CartridgeSlot → CartridgeSlot) : (s.onSlot p f).fuses = s.fuses := rfl
@[simp] theorem State.onSlot_draws (s : State) (p : Plane) (f : CartridgeSlot → CartridgeSlot) : (s.onSlot p f).draws = s.draws := rfl
@[simp] theorem State.onSlot_mem (s : State) (p : Plane) (f : CartridgeSlot → CartridgeSlot) : (s.onSlot p f).mem = s.mem := rfl
@[simp] theorem State.onSlot_channel (s : State) (p : Plane) (f : CartridgeSlot → CartridgeSlot) : (s.onSlot p f).channel = s.channel := rfl
@[simp] theorem State.onSlot_classifier (s : State) (p : Plane) (f : CartridgeSlot → CartridgeSlot) : (s.onSlot p f).classifier = s.classifier := rfl
@[simp] theorem State.onSlot_protection (s : State) (p : Plane) (f : CartridgeSlot → CartridgeSlot) : (s.onSlot p f).protection = s.protection := rfl
@[simp] theorem State.onSlot_port (s : State) (p : Plane) (f : CartridgeSlot → CartridgeSlot) : (s.onSlot p f).port = s.port := rfl
@[simp] theorem State.onSlot_jobs (s : State) (p : Plane) (f : CartridgeSlot → CartridgeSlot) : (s.onSlot p f).jobs = s.jobs := rfl
@[simp] theorem State.onSlot_unattributed (s : State) (p : Plane) (f : CartridgeSlot → CartridgeSlot) : (s.onSlot p f).unattributed = s.unattributed := rfl
@[simp] theorem State.onSlot_store (s : State) (p : Plane) (f : CartridgeSlot → CartridgeSlot) : (s.onSlot p f).store = s.store := rfl
@[simp] theorem State.onSlot_sides (s : State) (p : Plane) (f : CartridgeSlot → CartridgeSlot) : (s.onSlot p f).sides = s.sides := rfl
@[simp] theorem State.onSlot_accounts (s : State) (p : Plane) (f : CartridgeSlot → CartridgeSlot) : (s.onSlot p f).accounts = s.accounts := rfl
@[simp] theorem State.onSlot_orders (s : State) (p : Plane) (f : CartridgeSlot → CartridgeSlot) : (s.onSlot p f).orders = s.orders := rfl
@[simp] theorem State.onSlot_writer (s : State) (p : Plane) (f : CartridgeSlot → CartridgeSlot) : (s.onSlot p f).writer = s.writer := rfl

@[simp] theorem State.onTotals_pending (s : State) (p : Plane) (f : DrawTotals → DrawTotals) : (s.onTotals p f).pending = s.pending := rfl
@[simp] theorem State.onTotals_fuses (s : State) (p : Plane) (f : DrawTotals → DrawTotals) : (s.onTotals p f).fuses = s.fuses := rfl
@[simp] theorem State.onTotals_draws (s : State) (p : Plane) (f : DrawTotals → DrawTotals) : (s.onTotals p f).draws = s.draws := rfl
@[simp] theorem State.onTotals_mem (s : State) (p : Plane) (f : DrawTotals → DrawTotals) : (s.onTotals p f).mem = s.mem := rfl
@[simp] theorem State.onTotals_channel (s : State) (p : Plane) (f : DrawTotals → DrawTotals) : (s.onTotals p f).channel = s.channel := rfl
@[simp] theorem State.onTotals_classifier (s : State) (p : Plane) (f : DrawTotals → DrawTotals) : (s.onTotals p f).classifier = s.classifier := rfl
@[simp] theorem State.onTotals_protection (s : State) (p : Plane) (f : DrawTotals → DrawTotals) : (s.onTotals p f).protection = s.protection := rfl
@[simp] theorem State.onTotals_port (s : State) (p : Plane) (f : DrawTotals → DrawTotals) : (s.onTotals p f).port = s.port := rfl
@[simp] theorem State.onTotals_jobs (s : State) (p : Plane) (f : DrawTotals → DrawTotals) : (s.onTotals p f).jobs = s.jobs := rfl
@[simp] theorem State.onTotals_unattributed (s : State) (p : Plane) (f : DrawTotals → DrawTotals) : (s.onTotals p f).unattributed = s.unattributed := rfl
@[simp] theorem State.onTotals_store (s : State) (p : Plane) (f : DrawTotals → DrawTotals) : (s.onTotals p f).store = s.store := rfl
@[simp] theorem State.onTotals_sides (s : State) (p : Plane) (f : DrawTotals → DrawTotals) : (s.onTotals p f).sides = s.sides := rfl
@[simp] theorem State.onTotals_accounts (s : State) (p : Plane) (f : DrawTotals → DrawTotals) : (s.onTotals p f).accounts = s.accounts := rfl
@[simp] theorem State.onTotals_orders (s : State) (p : Plane) (f : DrawTotals → DrawTotals) : (s.onTotals p f).orders = s.orders := rfl
@[simp] theorem State.onTotals_writer (s : State) (p : Plane) (f : DrawTotals → DrawTotals) : (s.onTotals p f).writer = s.writer := rfl

@[simp] theorem State.onSide_pending (s : State) (uid : Nat) (f : Side → Side) : (s.onSide uid f).pending = s.pending := rfl
@[simp] theorem State.onSide_fuses (s : State) (uid : Nat) (f : Side → Side) : (s.onSide uid f).fuses = s.fuses := rfl
@[simp] theorem State.onSide_draws (s : State) (uid : Nat) (f : Side → Side) : (s.onSide uid f).draws = s.draws := rfl
@[simp] theorem State.onSide_mem (s : State) (uid : Nat) (f : Side → Side) : (s.onSide uid f).mem = s.mem := rfl
@[simp] theorem State.onSide_channel (s : State) (uid : Nat) (f : Side → Side) : (s.onSide uid f).channel = s.channel := rfl
@[simp] theorem State.onSide_classifier (s : State) (uid : Nat) (f : Side → Side) : (s.onSide uid f).classifier = s.classifier := rfl
@[simp] theorem State.onSide_protection (s : State) (uid : Nat) (f : Side → Side) : (s.onSide uid f).protection = s.protection := rfl
@[simp] theorem State.onSide_port (s : State) (uid : Nat) (f : Side → Side) : (s.onSide uid f).port = s.port := rfl
@[simp] theorem State.onSide_jobs (s : State) (uid : Nat) (f : Side → Side) : (s.onSide uid f).jobs = s.jobs := rfl
@[simp] theorem State.onSide_unattributed (s : State) (uid : Nat) (f : Side → Side) : (s.onSide uid f).unattributed = s.unattributed := rfl
@[simp] theorem State.onSide_store (s : State) (uid : Nat) (f : Side → Side) : (s.onSide uid f).store = s.store := rfl
@[simp] theorem State.onSide_accounts (s : State) (uid : Nat) (f : Side → Side) : (s.onSide uid f).accounts = s.accounts := rfl
@[simp] theorem State.onSide_cartridges (s : State) (uid : Nat) (f : Side → Side) : (s.onSide uid f).cartridges = s.cartridges := rfl
@[simp] theorem State.onSide_orders (s : State) (uid : Nat) (f : Side → Side) : (s.onSide uid f).orders = s.orders := rfl
@[simp] theorem State.onSide_writer (s : State) (uid : Nat) (f : Side → Side) : (s.onSide uid f).writer = s.writer := rfl

@[simp] theorem State.raise_pending (s : State) (n : Notice) : (s.raise n).pending = s.pending := rfl
@[simp] theorem State.raise_fuses (s : State) (n : Notice) : (s.raise n).fuses = s.fuses := rfl
@[simp] theorem State.raise_draws (s : State) (n : Notice) : (s.raise n).draws = s.draws := rfl
@[simp] theorem State.raise_mem (s : State) (n : Notice) : (s.raise n).mem = s.mem := rfl
@[simp] theorem State.raise_channel (s : State) (n : Notice) : (s.raise n).channel = s.channel := rfl
@[simp] theorem State.raise_classifier (s : State) (n : Notice) : (s.raise n).classifier = s.classifier := rfl
@[simp] theorem State.raise_protection (s : State) (n : Notice) : (s.raise n).protection = s.protection := rfl
@[simp] theorem State.raise_port (s : State) (n : Notice) : (s.raise n).port = s.port := rfl
@[simp] theorem State.raise_jobs (s : State) (n : Notice) : (s.raise n).jobs = s.jobs := rfl
@[simp] theorem State.raise_unattributed (s : State) (n : Notice) : (s.raise n).unattributed = s.unattributed := rfl
@[simp] theorem State.raise_store (s : State) (n : Notice) : (s.raise n).store = s.store := rfl
@[simp] theorem State.raise_sides (s : State) (n : Notice) : (s.raise n).sides = s.sides := rfl
@[simp] theorem State.raise_accounts (s : State) (n : Notice) : (s.raise n).accounts = s.accounts := rfl
@[simp] theorem State.raise_cartridges (s : State) (n : Notice) : (s.raise n).cartridges = s.cartridges := rfl
@[simp] theorem State.raise_orders (s : State) (n : Notice) : (s.raise n).orders = s.orders := rfl

@[simp] theorem State.raiseQuota_pending (s : State) (u : Fin 64) : (s.raiseQuota u).pending = s.pending := rfl
@[simp] theorem State.raiseQuota_fuses (s : State) (u : Fin 64) : (s.raiseQuota u).fuses = s.fuses := rfl
@[simp] theorem State.raiseQuota_draws (s : State) (u : Fin 64) : (s.raiseQuota u).draws = s.draws := rfl
@[simp] theorem State.raiseQuota_mem (s : State) (u : Fin 64) : (s.raiseQuota u).mem = s.mem := rfl
@[simp] theorem State.raiseQuota_channel (s : State) (u : Fin 64) : (s.raiseQuota u).channel = s.channel := rfl
@[simp] theorem State.raiseQuota_classifier (s : State) (u : Fin 64) : (s.raiseQuota u).classifier = s.classifier := rfl
@[simp] theorem State.raiseQuota_protection (s : State) (u : Fin 64) : (s.raiseQuota u).protection = s.protection := rfl
@[simp] theorem State.raiseQuota_port (s : State) (u : Fin 64) : (s.raiseQuota u).port = s.port := rfl
@[simp] theorem State.raiseQuota_jobs (s : State) (u : Fin 64) : (s.raiseQuota u).jobs = s.jobs := rfl
@[simp] theorem State.raiseQuota_unattributed (s : State) (u : Fin 64) : (s.raiseQuota u).unattributed = s.unattributed := rfl
@[simp] theorem State.raiseQuota_store (s : State) (u : Fin 64) : (s.raiseQuota u).store = s.store := rfl
@[simp] theorem State.raiseQuota_sides (s : State) (u : Fin 64) : (s.raiseQuota u).sides = s.sides := rfl
@[simp] theorem State.raiseQuota_accounts (s : State) (u : Fin 64) : (s.raiseQuota u).accounts = s.accounts := rfl
@[simp] theorem State.raiseQuota_cartridges (s : State) (u : Fin 64) : (s.raiseQuota u).cartridges = s.cartridges := rfl
@[simp] theorem State.raiseQuota_orders (s : State) (u : Fin 64) : (s.raiseQuota u).orders = s.orders := rfl

@[simp] theorem State.park_pending (s : State) (e : OrderEntry) (o : ParkObject) : (s.park e o).pending = s.pending := rfl
@[simp] theorem State.park_fuses (s : State) (e : OrderEntry) (o : ParkObject) : (s.park e o).fuses = s.fuses := rfl
@[simp] theorem State.park_draws (s : State) (e : OrderEntry) (o : ParkObject) : (s.park e o).draws = s.draws := rfl
@[simp] theorem State.park_mem (s : State) (e : OrderEntry) (o : ParkObject) : (s.park e o).mem = s.mem := rfl
@[simp] theorem State.park_channel (s : State) (e : OrderEntry) (o : ParkObject) : (s.park e o).channel = s.channel := rfl
@[simp] theorem State.park_classifier (s : State) (e : OrderEntry) (o : ParkObject) : (s.park e o).classifier = s.classifier := rfl
@[simp] theorem State.park_protection (s : State) (e : OrderEntry) (o : ParkObject) : (s.park e o).protection = s.protection := rfl
@[simp] theorem State.park_port (s : State) (e : OrderEntry) (o : ParkObject) : (s.park e o).port = s.port := rfl
@[simp] theorem State.park_jobs (s : State) (e : OrderEntry) (o : ParkObject) : (s.park e o).jobs = s.jobs := rfl
@[simp] theorem State.park_unattributed (s : State) (e : OrderEntry) (o : ParkObject) : (s.park e o).unattributed = s.unattributed := rfl
@[simp] theorem State.park_store (s : State) (e : OrderEntry) (o : ParkObject) : (s.park e o).store = s.store := rfl
@[simp] theorem State.park_sides (s : State) (e : OrderEntry) (o : ParkObject) : (s.park e o).sides = s.sides := rfl
@[simp] theorem State.park_accounts (s : State) (e : OrderEntry) (o : ParkObject) : (s.park e o).accounts = s.accounts := rfl
@[simp] theorem State.park_cartridges (s : State) (e : OrderEntry) (o : ParkObject) : (s.park e o).cartridges = s.cartridges := rfl
@[simp] theorem State.park_writer (s : State) (e : OrderEntry) (o : ParkObject) : (s.park e o).writer = s.writer := rfl

@[simp] theorem State.hold_pending (s : State) (e : OrderEntry) (r : Option Reason) (v : List Val) : (s.hold e r v).pending = s.pending := rfl
@[simp] theorem State.hold_fuses (s : State) (e : OrderEntry) (r : Option Reason) (v : List Val) : (s.hold e r v).fuses = s.fuses := rfl
@[simp] theorem State.hold_draws (s : State) (e : OrderEntry) (r : Option Reason) (v : List Val) : (s.hold e r v).draws = s.draws := rfl
@[simp] theorem State.hold_mem (s : State) (e : OrderEntry) (r : Option Reason) (v : List Val) : (s.hold e r v).mem = s.mem := rfl
@[simp] theorem State.hold_channel (s : State) (e : OrderEntry) (r : Option Reason) (v : List Val) : (s.hold e r v).channel = s.channel := rfl
@[simp] theorem State.hold_classifier (s : State) (e : OrderEntry) (r : Option Reason) (v : List Val) : (s.hold e r v).classifier = s.classifier := rfl
@[simp] theorem State.hold_protection (s : State) (e : OrderEntry) (r : Option Reason) (v : List Val) : (s.hold e r v).protection = s.protection := rfl
@[simp] theorem State.hold_port (s : State) (e : OrderEntry) (r : Option Reason) (v : List Val) : (s.hold e r v).port = s.port := rfl
@[simp] theorem State.hold_jobs (s : State) (e : OrderEntry) (r : Option Reason) (v : List Val) : (s.hold e r v).jobs = s.jobs := rfl
@[simp] theorem State.hold_unattributed (s : State) (e : OrderEntry) (r : Option Reason) (v : List Val) : (s.hold e r v).unattributed = s.unattributed := rfl
@[simp] theorem State.hold_store (s : State) (e : OrderEntry) (r : Option Reason) (v : List Val) : (s.hold e r v).store = s.store := rfl
@[simp] theorem State.hold_sides (s : State) (e : OrderEntry) (r : Option Reason) (v : List Val) : (s.hold e r v).sides = s.sides := rfl
@[simp] theorem State.hold_accounts (s : State) (e : OrderEntry) (r : Option Reason) (v : List Val) : (s.hold e r v).accounts = s.accounts := rfl
@[simp] theorem State.hold_cartridges (s : State) (e : OrderEntry) (r : Option Reason) (v : List Val) : (s.hold e r v).cartridges = s.cartridges := rfl
@[simp] theorem State.hold_writer (s : State) (e : OrderEntry) (r : Option Reason) (v : List Val) : (s.hold e r v).writer = s.writer := rfl

@[simp] theorem State.answer_pending (s : State) (id : Nat) (a : Answer) : (s.answer id a).pending = s.pending := rfl
@[simp] theorem State.answer_fuses (s : State) (id : Nat) (a : Answer) : (s.answer id a).fuses = s.fuses := rfl
@[simp] theorem State.answer_draws (s : State) (id : Nat) (a : Answer) : (s.answer id a).draws = s.draws := rfl
@[simp] theorem State.answer_mem (s : State) (id : Nat) (a : Answer) : (s.answer id a).mem = s.mem := rfl
@[simp] theorem State.answer_classifier (s : State) (id : Nat) (a : Answer) : (s.answer id a).classifier = s.classifier := rfl
@[simp] theorem State.answer_protection (s : State) (id : Nat) (a : Answer) : (s.answer id a).protection = s.protection := rfl
@[simp] theorem State.answer_port (s : State) (id : Nat) (a : Answer) : (s.answer id a).port = s.port := rfl
@[simp] theorem State.answer_jobs (s : State) (id : Nat) (a : Answer) : (s.answer id a).jobs = s.jobs := rfl
@[simp] theorem State.answer_unattributed (s : State) (id : Nat) (a : Answer) : (s.answer id a).unattributed = s.unattributed := rfl
@[simp] theorem State.answer_store (s : State) (id : Nat) (a : Answer) : (s.answer id a).store = s.store := rfl
@[simp] theorem State.answer_sides (s : State) (id : Nat) (a : Answer) : (s.answer id a).sides = s.sides := rfl
@[simp] theorem State.answer_accounts (s : State) (id : Nat) (a : Answer) : (s.answer id a).accounts = s.accounts := rfl
@[simp] theorem State.answer_cartridges (s : State) (id : Nat) (a : Answer) : (s.answer id a).cartridges = s.cartridges := rfl
@[simp] theorem State.answer_orders (s : State) (id : Nat) (a : Answer) : (s.answer id a).orders = s.orders := rfl
@[simp] theorem State.answer_writer (s : State) (id : Nat) (a : Answer) : (s.answer id a).writer = s.writer := rfl

@[simp] theorem issueOwn_pending (s : State) (ls : List OwnLine) : (issueOwn ls s).pending = s.pending := rfl
@[simp] theorem issueOwn_fuses (s : State) (ls : List OwnLine) : (issueOwn ls s).fuses = s.fuses := rfl
@[simp] theorem issueOwn_draws (s : State) (ls : List OwnLine) : (issueOwn ls s).draws = s.draws := rfl
@[simp] theorem issueOwn_mem (s : State) (ls : List OwnLine) : (issueOwn ls s).mem = s.mem := rfl
@[simp] theorem issueOwn_channel (s : State) (ls : List OwnLine) : (issueOwn ls s).channel = s.channel := rfl
@[simp] theorem issueOwn_classifier (s : State) (ls : List OwnLine) : (issueOwn ls s).classifier = s.classifier := rfl
@[simp] theorem issueOwn_protection (s : State) (ls : List OwnLine) : (issueOwn ls s).protection = s.protection := rfl
@[simp] theorem issueOwn_jobs (s : State) (ls : List OwnLine) : (issueOwn ls s).jobs = s.jobs := rfl
@[simp] theorem issueOwn_unattributed (s : State) (ls : List OwnLine) : (issueOwn ls s).unattributed = s.unattributed := rfl
@[simp] theorem issueOwn_store (s : State) (ls : List OwnLine) : (issueOwn ls s).store = s.store := rfl
@[simp] theorem issueOwn_sides (s : State) (ls : List OwnLine) : (issueOwn ls s).sides = s.sides := rfl
@[simp] theorem issueOwn_accounts (s : State) (ls : List OwnLine) : (issueOwn ls s).accounts = s.accounts := rfl
@[simp] theorem issueOwn_cartridges (s : State) (ls : List OwnLine) : (issueOwn ls s).cartridges = s.cartridges := rfl
@[simp] theorem issueOwn_orders (s : State) (ls : List OwnLine) : (issueOwn ls s).orders = s.orders := rfl
@[simp] theorem issueOwn_writer (s : State) (ls : List OwnLine) : (issueOwn ls s).writer = s.writer := rfl

@[simp] theorem issueUpstream_pending (s : State) (rs : List Req) : (issueUpstream rs s).pending = s.pending := rfl
@[simp] theorem issueUpstream_fuses (s : State) (rs : List Req) : (issueUpstream rs s).fuses = s.fuses := rfl
@[simp] theorem issueUpstream_draws (s : State) (rs : List Req) : (issueUpstream rs s).draws = s.draws := rfl
@[simp] theorem issueUpstream_mem (s : State) (rs : List Req) : (issueUpstream rs s).mem = s.mem := rfl
@[simp] theorem issueUpstream_channel (s : State) (rs : List Req) : (issueUpstream rs s).channel = s.channel := rfl
@[simp] theorem issueUpstream_classifier (s : State) (rs : List Req) : (issueUpstream rs s).classifier = s.classifier := rfl
@[simp] theorem issueUpstream_protection (s : State) (rs : List Req) : (issueUpstream rs s).protection = s.protection := rfl
@[simp] theorem issueUpstream_jobs (s : State) (rs : List Req) : (issueUpstream rs s).jobs = s.jobs := rfl
@[simp] theorem issueUpstream_unattributed (s : State) (rs : List Req) : (issueUpstream rs s).unattributed = s.unattributed := rfl
@[simp] theorem issueUpstream_store (s : State) (rs : List Req) : (issueUpstream rs s).store = s.store := rfl
@[simp] theorem issueUpstream_sides (s : State) (rs : List Req) : (issueUpstream rs s).sides = s.sides := rfl
@[simp] theorem issueUpstream_accounts (s : State) (rs : List Req) : (issueUpstream rs s).accounts = s.accounts := rfl
@[simp] theorem issueUpstream_cartridges (s : State) (rs : List Req) : (issueUpstream rs s).cartridges = s.cartridges := rfl
@[simp] theorem issueUpstream_orders (s : State) (rs : List Req) : (issueUpstream rs s).orders = s.orders := rfl
@[simp] theorem issueUpstream_writer (s : State) (rs : List Req) : (issueUpstream rs s).writer = s.writer := rfl

@[simp] theorem joinQueue_pending (s : State) (r : Req) : (joinQueue r s).pending = s.pending := rfl
@[simp] theorem joinQueue_fuses (s : State) (r : Req) : (joinQueue r s).fuses = s.fuses := rfl
@[simp] theorem joinQueue_draws (s : State) (r : Req) : (joinQueue r s).draws = s.draws := rfl
@[simp] theorem joinQueue_mem (s : State) (r : Req) : (joinQueue r s).mem = s.mem := rfl
@[simp] theorem joinQueue_channel (s : State) (r : Req) : (joinQueue r s).channel = s.channel := rfl
@[simp] theorem joinQueue_classifier (s : State) (r : Req) : (joinQueue r s).classifier = s.classifier := rfl
@[simp] theorem joinQueue_port (s : State) (r : Req) : (joinQueue r s).port = s.port := rfl
@[simp] theorem joinQueue_jobs (s : State) (r : Req) : (joinQueue r s).jobs = s.jobs := rfl
@[simp] theorem joinQueue_unattributed (s : State) (r : Req) : (joinQueue r s).unattributed = s.unattributed := rfl
@[simp] theorem joinQueue_store (s : State) (r : Req) : (joinQueue r s).store = s.store := rfl
@[simp] theorem joinQueue_sides (s : State) (r : Req) : (joinQueue r s).sides = s.sides := rfl
@[simp] theorem joinQueue_accounts (s : State) (r : Req) : (joinQueue r s).accounts = s.accounts := rfl
@[simp] theorem joinQueue_cartridges (s : State) (r : Req) : (joinQueue r s).cartridges = s.cartridges := rfl
@[simp] theorem joinQueue_orders (s : State) (r : Req) : (joinQueue r s).orders = s.orders := rfl
@[simp] theorem joinQueue_writer (s : State) (r : Req) : (joinQueue r s).writer = s.writer := rfl

@[simp] theorem setEntry_pending (s : State) (i : Fin 8) (e : Option MergeEntry) : (setEntry i e s).pending = s.pending := rfl
@[simp] theorem setEntry_fuses (s : State) (i : Fin 8) (e : Option MergeEntry) : (setEntry i e s).fuses = s.fuses := rfl
@[simp] theorem setEntry_draws (s : State) (i : Fin 8) (e : Option MergeEntry) : (setEntry i e s).draws = s.draws := rfl
@[simp] theorem setEntry_mem (s : State) (i : Fin 8) (e : Option MergeEntry) : (setEntry i e s).mem = s.mem := rfl
@[simp] theorem setEntry_channel (s : State) (i : Fin 8) (e : Option MergeEntry) : (setEntry i e s).channel = s.channel := rfl
@[simp] theorem setEntry_classifier (s : State) (i : Fin 8) (e : Option MergeEntry) : (setEntry i e s).classifier = s.classifier := rfl
@[simp] theorem setEntry_port (s : State) (i : Fin 8) (e : Option MergeEntry) : (setEntry i e s).port = s.port := rfl
@[simp] theorem setEntry_jobs (s : State) (i : Fin 8) (e : Option MergeEntry) : (setEntry i e s).jobs = s.jobs := rfl
@[simp] theorem setEntry_unattributed (s : State) (i : Fin 8) (e : Option MergeEntry) : (setEntry i e s).unattributed = s.unattributed := rfl
@[simp] theorem setEntry_store (s : State) (i : Fin 8) (e : Option MergeEntry) : (setEntry i e s).store = s.store := rfl
@[simp] theorem setEntry_sides (s : State) (i : Fin 8) (e : Option MergeEntry) : (setEntry i e s).sides = s.sides := rfl
@[simp] theorem setEntry_accounts (s : State) (i : Fin 8) (e : Option MergeEntry) : (setEntry i e s).accounts = s.accounts := rfl
@[simp] theorem setEntry_cartridges (s : State) (i : Fin 8) (e : Option MergeEntry) : (setEntry i e s).cartridges = s.cartridges := rfl
@[simp] theorem setEntry_orders (s : State) (i : Fin 8) (e : Option MergeEntry) : (setEntry i e s).orders = s.orders := rfl
@[simp] theorem setEntry_writer (s : State) (i : Fin 8) (e : Option MergeEntry) : (setEntry i e s).writer = s.writer := rfl

@[simp] theorem setUser_pending (s : State) (i : Fin 64) (u : Option User) : (setUser i u s).pending = s.pending := rfl
@[simp] theorem setUser_fuses (s : State) (i : Fin 64) (u : Option User) : (setUser i u s).fuses = s.fuses := rfl
@[simp] theorem setUser_draws (s : State) (i : Fin 64) (u : Option User) : (setUser i u s).draws = s.draws := rfl
@[simp] theorem setUser_mem (s : State) (i : Fin 64) (u : Option User) : (setUser i u s).mem = s.mem := rfl
@[simp] theorem setUser_channel (s : State) (i : Fin 64) (u : Option User) : (setUser i u s).channel = s.channel := rfl
@[simp] theorem setUser_classifier (s : State) (i : Fin 64) (u : Option User) : (setUser i u s).classifier = s.classifier := rfl
@[simp] theorem setUser_protection (s : State) (i : Fin 64) (u : Option User) : (setUser i u s).protection = s.protection := rfl
@[simp] theorem setUser_port (s : State) (i : Fin 64) (u : Option User) : (setUser i u s).port = s.port := rfl
@[simp] theorem setUser_jobs (s : State) (i : Fin 64) (u : Option User) : (setUser i u s).jobs = s.jobs := rfl
@[simp] theorem setUser_unattributed (s : State) (i : Fin 64) (u : Option User) : (setUser i u s).unattributed = s.unattributed := rfl
@[simp] theorem setUser_store (s : State) (i : Fin 64) (u : Option User) : (setUser i u s).store = s.store := rfl
@[simp] theorem setUser_sides (s : State) (i : Fin 64) (u : Option User) : (setUser i u s).sides = s.sides := rfl
@[simp] theorem setUser_cartridges (s : State) (i : Fin 64) (u : Option User) : (setUser i u s).cartridges = s.cartridges := rfl
@[simp] theorem setUser_orders (s : State) (i : Fin 64) (u : Option User) : (setUser i u s).orders = s.orders := rfl
@[simp] theorem setUser_writer (s : State) (i : Fin 64) (u : Option User) : (setUser i u s).writer = s.writer := rfl

@[simp] theorem setRestore_pending (s : State) (b : Option RestoreBuffer) : (setRestore b s).pending = s.pending := rfl
@[simp] theorem setRestore_fuses (s : State) (b : Option RestoreBuffer) : (setRestore b s).fuses = s.fuses := rfl
@[simp] theorem setRestore_draws (s : State) (b : Option RestoreBuffer) : (setRestore b s).draws = s.draws := rfl
@[simp] theorem setRestore_mem (s : State) (b : Option RestoreBuffer) : (setRestore b s).mem = s.mem := rfl
@[simp] theorem setRestore_channel (s : State) (b : Option RestoreBuffer) : (setRestore b s).channel = s.channel := rfl
@[simp] theorem setRestore_classifier (s : State) (b : Option RestoreBuffer) : (setRestore b s).classifier = s.classifier := rfl
@[simp] theorem setRestore_protection (s : State) (b : Option RestoreBuffer) : (setRestore b s).protection = s.protection := rfl
@[simp] theorem setRestore_port (s : State) (b : Option RestoreBuffer) : (setRestore b s).port = s.port := rfl
@[simp] theorem setRestore_jobs (s : State) (b : Option RestoreBuffer) : (setRestore b s).jobs = s.jobs := rfl
@[simp] theorem setRestore_unattributed (s : State) (b : Option RestoreBuffer) : (setRestore b s).unattributed = s.unattributed := rfl
@[simp] theorem setRestore_store (s : State) (b : Option RestoreBuffer) : (setRestore b s).store = s.store := rfl
@[simp] theorem setRestore_sides (s : State) (b : Option RestoreBuffer) : (setRestore b s).sides = s.sides := rfl
@[simp] theorem setRestore_cartridges (s : State) (b : Option RestoreBuffer) : (setRestore b s).cartridges = s.cartridges := rfl
@[simp] theorem setRestore_orders (s : State) (b : Option RestoreBuffer) : (setRestore b s).orders = s.orders := rfl
@[simp] theorem setRestore_writer (s : State) (b : Option RestoreBuffer) : (setRestore b s).writer = s.writer := rfl

@[simp] theorem tagContent_pending (c : Snapshot) (s : State) : (tagContent c s).pending = s.pending := rfl
@[simp] theorem tagContent_fuses (c : Snapshot) (s : State) : (tagContent c s).fuses = s.fuses := rfl
@[simp] theorem tagContent_draws (c : Snapshot) (s : State) : (tagContent c s).draws = s.draws := rfl
@[simp] theorem tagContent_mem (c : Snapshot) (s : State) : (tagContent c s).mem = s.mem := rfl
@[simp] theorem tagContent_channel (c : Snapshot) (s : State) : (tagContent c s).channel = s.channel := rfl
@[simp] theorem tagContent_classifier (c : Snapshot) (s : State) : (tagContent c s).classifier = s.classifier := rfl
@[simp] theorem tagContent_protection (c : Snapshot) (s : State) : (tagContent c s).protection = s.protection := rfl
@[simp] theorem tagContent_port (c : Snapshot) (s : State) : (tagContent c s).port = s.port := rfl
@[simp] theorem tagContent_jobs (c : Snapshot) (s : State) : (tagContent c s).jobs = s.jobs := rfl
@[simp] theorem tagContent_unattributed (c : Snapshot) (s : State) : (tagContent c s).unattributed = s.unattributed := rfl
@[simp] theorem tagContent_store (c : Snapshot) (s : State) : (tagContent c s).store = s.store := rfl
@[simp] theorem tagContent_sides (c : Snapshot) (s : State) : (tagContent c s).sides = s.sides := rfl
@[simp] theorem tagContent_cartridges (c : Snapshot) (s : State) : (tagContent c s).cartridges = s.cartridges := rfl
@[simp] theorem tagContent_orders (c : Snapshot) (s : State) : (tagContent c s).orders = s.orders := rfl
@[simp] theorem tagContent_writer (c : Snapshot) (s : State) : (tagContent c s).writer = s.writer := rfl

@[simp] theorem freeLine_pending (s : State) : (freeLine s).pending = s.pending := rfl
@[simp] theorem freeLine_fuses (s : State) : (freeLine s).fuses = s.fuses := rfl
@[simp] theorem freeLine_draws (s : State) : (freeLine s).draws = s.draws := rfl
@[simp] theorem freeLine_mem (s : State) : (freeLine s).mem = s.mem := rfl
@[simp] theorem freeLine_channel (s : State) : (freeLine s).channel = s.channel := rfl
@[simp] theorem freeLine_classifier (s : State) : (freeLine s).classifier = s.classifier := rfl
@[simp] theorem freeLine_protection (s : State) : (freeLine s).protection = s.protection := rfl
@[simp] theorem freeLine_port (s : State) : (freeLine s).port = s.port := rfl
@[simp] theorem freeLine_jobs (s : State) : (freeLine s).jobs = s.jobs := rfl
@[simp] theorem freeLine_unattributed (s : State) : (freeLine s).unattributed = s.unattributed := rfl
@[simp] theorem freeLine_store (s : State) : (freeLine s).store = s.store := rfl
@[simp] theorem freeLine_sides (s : State) : (freeLine s).sides = s.sides := rfl
@[simp] theorem freeLine_accounts (s : State) : (freeLine s).accounts = s.accounts := rfl
@[simp] theorem freeLine_orders (s : State) : (freeLine s).orders = s.orders := rfl
@[simp] theorem freeLine_writer (s : State) : (freeLine s).writer = s.writer := rfl

@[simp] theorem takeLine_pending (s : State) (p : Plane) (m : LineMessage) : (takeLine p m s).pending = s.pending := rfl
@[simp] theorem takeLine_fuses (s : State) (p : Plane) (m : LineMessage) : (takeLine p m s).fuses = s.fuses := rfl
@[simp] theorem takeLine_draws (s : State) (p : Plane) (m : LineMessage) : (takeLine p m s).draws = s.draws := rfl
@[simp] theorem takeLine_mem (s : State) (p : Plane) (m : LineMessage) : (takeLine p m s).mem = s.mem := rfl
@[simp] theorem takeLine_channel (s : State) (p : Plane) (m : LineMessage) : (takeLine p m s).channel = s.channel := rfl
@[simp] theorem takeLine_classifier (s : State) (p : Plane) (m : LineMessage) : (takeLine p m s).classifier = s.classifier := rfl
@[simp] theorem takeLine_protection (s : State) (p : Plane) (m : LineMessage) : (takeLine p m s).protection = s.protection := rfl
@[simp] theorem takeLine_port (s : State) (p : Plane) (m : LineMessage) : (takeLine p m s).port = s.port := rfl
@[simp] theorem takeLine_jobs (s : State) (p : Plane) (m : LineMessage) : (takeLine p m s).jobs = s.jobs := rfl
@[simp] theorem takeLine_unattributed (s : State) (p : Plane) (m : LineMessage) : (takeLine p m s).unattributed = s.unattributed := rfl
@[simp] theorem takeLine_store (s : State) (p : Plane) (m : LineMessage) : (takeLine p m s).store = s.store := rfl
@[simp] theorem takeLine_sides (s : State) (p : Plane) (m : LineMessage) : (takeLine p m s).sides = s.sides := rfl
@[simp] theorem takeLine_accounts (s : State) (p : Plane) (m : LineMessage) : (takeLine p m s).accounts = s.accounts := rfl
@[simp] theorem takeLine_orders (s : State) (p : Plane) (m : LineMessage) : (takeLine p m s).orders = s.orders := rfl
@[simp] theorem takeLine_writer (s : State) (p : Plane) (m : LineMessage) : (takeLine p m s).writer = s.writer := rfl

@[simp] theorem setPin_pending (s : State) (p : Plane) (b : Bool) : (setPin p b s).pending = s.pending := rfl
@[simp] theorem setPin_fuses (s : State) (p : Plane) (b : Bool) : (setPin p b s).fuses = s.fuses := rfl
@[simp] theorem setPin_draws (s : State) (p : Plane) (b : Bool) : (setPin p b s).draws = s.draws := rfl
@[simp] theorem setPin_mem (s : State) (p : Plane) (b : Bool) : (setPin p b s).mem = s.mem := rfl
@[simp] theorem setPin_channel (s : State) (p : Plane) (b : Bool) : (setPin p b s).channel = s.channel := rfl
@[simp] theorem setPin_classifier (s : State) (p : Plane) (b : Bool) : (setPin p b s).classifier = s.classifier := rfl
@[simp] theorem setPin_protection (s : State) (p : Plane) (b : Bool) : (setPin p b s).protection = s.protection := rfl
@[simp] theorem setPin_port (s : State) (p : Plane) (b : Bool) : (setPin p b s).port = s.port := rfl
@[simp] theorem setPin_jobs (s : State) (p : Plane) (b : Bool) : (setPin p b s).jobs = s.jobs := rfl
@[simp] theorem setPin_unattributed (s : State) (p : Plane) (b : Bool) : (setPin p b s).unattributed = s.unattributed := rfl
@[simp] theorem setPin_store (s : State) (p : Plane) (b : Bool) : (setPin p b s).store = s.store := rfl
@[simp] theorem setPin_sides (s : State) (p : Plane) (b : Bool) : (setPin p b s).sides = s.sides := rfl
@[simp] theorem setPin_accounts (s : State) (p : Plane) (b : Bool) : (setPin p b s).accounts = s.accounts := rfl
@[simp] theorem setPin_orders (s : State) (p : Plane) (b : Bool) : (setPin p b s).orders = s.orders := rfl
@[simp] theorem setPin_writer (s : State) (p : Plane) (b : Bool) : (setPin p b s).writer = s.writer := rfl

@[simp] theorem moveCompleted_pending (s : State) : (moveCompleted s).pending = s.pending := rfl
@[simp] theorem moveCompleted_fuses (s : State) : (moveCompleted s).fuses = s.fuses := rfl
@[simp] theorem moveCompleted_draws (s : State) : (moveCompleted s).draws = s.draws := rfl
@[simp] theorem moveCompleted_mem (s : State) : (moveCompleted s).mem = s.mem := rfl
@[simp] theorem moveCompleted_channel (s : State) : (moveCompleted s).channel = s.channel := rfl
@[simp] theorem moveCompleted_classifier (s : State) : (moveCompleted s).classifier = s.classifier := rfl
@[simp] theorem moveCompleted_protection (s : State) : (moveCompleted s).protection = s.protection := rfl
@[simp] theorem moveCompleted_port (s : State) : (moveCompleted s).port = s.port := rfl
@[simp] theorem moveCompleted_jobs (s : State) : (moveCompleted s).jobs = s.jobs := rfl
@[simp] theorem moveCompleted_unattributed (s : State) : (moveCompleted s).unattributed = s.unattributed := rfl
@[simp] theorem moveCompleted_store (s : State) : (moveCompleted s).store = s.store := rfl
@[simp] theorem moveCompleted_sides (s : State) : (moveCompleted s).sides = s.sides := rfl
@[simp] theorem moveCompleted_accounts (s : State) : (moveCompleted s).accounts = s.accounts := rfl
@[simp] theorem moveCompleted_cartridges (s : State) : (moveCompleted s).cartridges = s.cartridges := rfl
@[simp] theorem moveCompleted_writer (s : State) : (moveCompleted s).writer = s.writer := rfl

@[simp] theorem evaluateAttention_pending (s : State) : (evaluateAttention s).pending = s.pending := rfl
@[simp] theorem evaluateAttention_fuses (s : State) : (evaluateAttention s).fuses = s.fuses := rfl
@[simp] theorem evaluateAttention_draws (s : State) : (evaluateAttention s).draws = s.draws := rfl
@[simp] theorem evaluateAttention_mem (s : State) : (evaluateAttention s).mem = s.mem := rfl
@[simp] theorem evaluateAttention_channel (s : State) : (evaluateAttention s).channel = s.channel := rfl
@[simp] theorem evaluateAttention_classifier (s : State) : (evaluateAttention s).classifier = s.classifier := rfl
@[simp] theorem evaluateAttention_protection (s : State) : (evaluateAttention s).protection = s.protection := rfl
@[simp] theorem evaluateAttention_port (s : State) : (evaluateAttention s).port = s.port := rfl
@[simp] theorem evaluateAttention_jobs (s : State) : (evaluateAttention s).jobs = s.jobs := rfl
@[simp] theorem evaluateAttention_unattributed (s : State) : (evaluateAttention s).unattributed = s.unattributed := rfl
@[simp] theorem evaluateAttention_store (s : State) : (evaluateAttention s).store = s.store := rfl
@[simp] theorem evaluateAttention_sides (s : State) : (evaluateAttention s).sides = s.sides := rfl
@[simp] theorem evaluateAttention_accounts (s : State) : (evaluateAttention s).accounts = s.accounts := rfl
@[simp] theorem evaluateAttention_cartridges (s : State) : (evaluateAttention s).cartridges = s.cartridges := rfl
@[simp] theorem evaluateAttention_orders (s : State) : (evaluateAttention s).orders = s.orders := rfl

@[simp] theorem grantOwn_pending (s : State) : (grantOwn s).pending = s.pending := rfl
@[simp] theorem grantOwn_fuses (s : State) : (grantOwn s).fuses = s.fuses := rfl
@[simp] theorem grantOwn_draws (s : State) : (grantOwn s).draws = s.draws := rfl
@[simp] theorem grantOwn_mem (s : State) : (grantOwn s).mem = s.mem := rfl
@[simp] theorem grantOwn_channel (s : State) : (grantOwn s).channel = s.channel := rfl
@[simp] theorem grantOwn_classifier (s : State) : (grantOwn s).classifier = s.classifier := rfl
@[simp] theorem grantOwn_protection (s : State) : (grantOwn s).protection = s.protection := rfl
@[simp] theorem grantOwn_jobs (s : State) : (grantOwn s).jobs = s.jobs := rfl
@[simp] theorem grantOwn_unattributed (s : State) : (grantOwn s).unattributed = s.unattributed := rfl
@[simp] theorem grantOwn_store (s : State) : (grantOwn s).store = s.store := rfl
@[simp] theorem grantOwn_sides (s : State) : (grantOwn s).sides = s.sides := rfl
@[simp] theorem grantOwn_accounts (s : State) : (grantOwn s).accounts = s.accounts := rfl
@[simp] theorem grantOwn_cartridges (s : State) : (grantOwn s).cartridges = s.cartridges := rfl
@[simp] theorem grantOwn_orders (s : State) : (grantOwn s).orders = s.orders := rfl
@[simp] theorem grantOwn_writer (s : State) : (grantOwn s).writer = s.writer := rfl

@[simp] theorem State.raiseIf_pending (s : State) (c : Bool) (n : Notice) : (s.raiseIf c n).pending = s.pending := by
  cases c <;> rfl
@[simp] theorem State.raiseIf_fuses (s : State) (c : Bool) (n : Notice) : (s.raiseIf c n).fuses = s.fuses := by
  cases c <;> rfl
@[simp] theorem State.raiseIf_draws (s : State) (c : Bool) (n : Notice) : (s.raiseIf c n).draws = s.draws := by
  cases c <;> rfl
@[simp] theorem State.raiseIf_mem (s : State) (c : Bool) (n : Notice) : (s.raiseIf c n).mem = s.mem := by
  cases c <;> rfl
@[simp] theorem State.raiseIf_channel (s : State) (c : Bool) (n : Notice) : (s.raiseIf c n).channel = s.channel := by
  cases c <;> rfl
@[simp] theorem State.raiseIf_classifier (s : State) (c : Bool) (n : Notice) : (s.raiseIf c n).classifier = s.classifier := by
  cases c <;> rfl
@[simp] theorem State.raiseIf_protection (s : State) (c : Bool) (n : Notice) : (s.raiseIf c n).protection = s.protection := by
  cases c <;> rfl
@[simp] theorem State.raiseIf_port (s : State) (c : Bool) (n : Notice) : (s.raiseIf c n).port = s.port := by
  cases c <;> rfl
@[simp] theorem State.raiseIf_jobs (s : State) (c : Bool) (n : Notice) : (s.raiseIf c n).jobs = s.jobs := by
  cases c <;> rfl
@[simp] theorem State.raiseIf_unattributed (s : State) (c : Bool) (n : Notice) : (s.raiseIf c n).unattributed = s.unattributed := by
  cases c <;> rfl
@[simp] theorem State.raiseIf_store (s : State) (c : Bool) (n : Notice) : (s.raiseIf c n).store = s.store := by
  cases c <;> rfl
@[simp] theorem State.raiseIf_sides (s : State) (c : Bool) (n : Notice) : (s.raiseIf c n).sides = s.sides := by
  cases c <;> rfl
@[simp] theorem State.raiseIf_accounts (s : State) (c : Bool) (n : Notice) : (s.raiseIf c n).accounts = s.accounts := by
  cases c <;> rfl
@[simp] theorem State.raiseIf_cartridges (s : State) (c : Bool) (n : Notice) : (s.raiseIf c n).cartridges = s.cartridges := by
  cases c <;> rfl
@[simp] theorem State.raiseIf_orders (s : State) (c : Bool) (n : Notice) : (s.raiseIf c n).orders = s.orders := by
  cases c <;> rfl

@[simp] theorem State.completeParked_pending (s : State) (f : ParkObject → Bool) (r : Option Reason) (v : List Val) :
    (s.completeParked f r v).pending = s.pending := by
  unfold State.completeParked; split <;> rfl
@[simp] theorem State.completeParked_fuses (s : State) (f : ParkObject → Bool) (r : Option Reason) (v : List Val) :
    (s.completeParked f r v).fuses = s.fuses := by
  unfold State.completeParked; split <;> rfl
@[simp] theorem State.completeParked_draws (s : State) (f : ParkObject → Bool) (r : Option Reason) (v : List Val) :
    (s.completeParked f r v).draws = s.draws := by
  unfold State.completeParked; split <;> rfl
@[simp] theorem State.completeParked_mem (s : State) (f : ParkObject → Bool) (r : Option Reason) (v : List Val) :
    (s.completeParked f r v).mem = s.mem := by
  unfold State.completeParked; split <;> rfl
@[simp] theorem State.completeParked_channel (s : State) (f : ParkObject → Bool) (r : Option Reason) (v : List Val) :
    (s.completeParked f r v).channel = s.channel := by
  unfold State.completeParked; split <;> rfl
@[simp] theorem State.completeParked_classifier (s : State) (f : ParkObject → Bool) (r : Option Reason) (v : List Val) :
    (s.completeParked f r v).classifier = s.classifier := by
  unfold State.completeParked; split <;> rfl
@[simp] theorem State.completeParked_protection (s : State) (f : ParkObject → Bool) (r : Option Reason) (v : List Val) :
    (s.completeParked f r v).protection = s.protection := by
  unfold State.completeParked; split <;> rfl
@[simp] theorem State.completeParked_port (s : State) (f : ParkObject → Bool) (r : Option Reason) (v : List Val) :
    (s.completeParked f r v).port = s.port := by
  unfold State.completeParked; split <;> rfl
@[simp] theorem State.completeParked_jobs (s : State) (f : ParkObject → Bool) (r : Option Reason) (v : List Val) :
    (s.completeParked f r v).jobs = s.jobs := by
  unfold State.completeParked; split <;> rfl
@[simp] theorem State.completeParked_unattributed (s : State) (f : ParkObject → Bool) (r : Option Reason) (v : List Val) :
    (s.completeParked f r v).unattributed = s.unattributed := by
  unfold State.completeParked; split <;> rfl
@[simp] theorem State.completeParked_store (s : State) (f : ParkObject → Bool) (r : Option Reason) (v : List Val) :
    (s.completeParked f r v).store = s.store := by
  unfold State.completeParked; split <;> rfl
@[simp] theorem State.completeParked_sides (s : State) (f : ParkObject → Bool) (r : Option Reason) (v : List Val) :
    (s.completeParked f r v).sides = s.sides := by
  unfold State.completeParked; split <;> rfl
@[simp] theorem State.completeParked_accounts (s : State) (f : ParkObject → Bool) (r : Option Reason) (v : List Val) :
    (s.completeParked f r v).accounts = s.accounts := by
  unfold State.completeParked; split <;> rfl
@[simp] theorem State.completeParked_cartridges (s : State) (f : ParkObject → Bool) (r : Option Reason) (v : List Val) :
    (s.completeParked f r v).cartridges = s.cartridges := by
  unfold State.completeParked; split <;> rfl
@[simp] theorem State.completeParked_writer (s : State) (f : ParkObject → Bool) (r : Option Reason) (v : List Val) :
    (s.completeParked f r v).writer = s.writer := by
  unfold State.completeParked; split <;> rfl

/-! ### Within the record that an update changes -/

@[simp] theorem State.onSlot_slots (s : State) (p : Plane) (f : CartridgeSlot → CartridgeSlot) :
    (s.onSlot p f).cartridges.slots = put s.cartridges.slots p (f s.cartridges.slots[p]) := rfl
@[simp] theorem State.onSlot_line (s : State) (p : Plane) (f : CartridgeSlot → CartridgeSlot) :
    (s.onSlot p f).cartridges.line = s.cartridges.line := rfl
@[simp] theorem State.onSlot_absent (s : State) (p : Plane) (f : CartridgeSlot → CartridgeSlot) :
    (s.onSlot p f).cartridges.absent = s.cartridges.absent := rfl
@[simp] theorem State.onSlot_totals (s : State) (p : Plane) (f : CartridgeSlot → CartridgeSlot) :
    (s.onSlot p f).cartridges.totals = s.cartridges.totals := rfl
@[simp] theorem State.onSlot_policy (s : State) (p : Plane) (f : CartridgeSlot → CartridgeSlot) :
    (s.onSlot p f).cartridges.policy = s.cartridges.policy := rfl
@[simp] theorem State.onTotals_slots (s : State) (p : Plane) (f : DrawTotals → DrawTotals) :
    (s.onTotals p f).cartridges.slots = s.cartridges.slots := rfl
@[simp] theorem State.onTotals_absent (s : State) (p : Plane) (f : DrawTotals → DrawTotals) :
    (s.onTotals p f).cartridges.absent = s.cartridges.absent := rfl
@[simp] theorem State.onTotals_line (s : State) (p : Plane) (f : DrawTotals → DrawTotals) :
    (s.onTotals p f).cartridges.line = s.cartridges.line := rfl
@[simp] theorem State.onTotals_totals (s : State) (p : Plane) (f : DrawTotals → DrawTotals) :
    (s.onTotals p f).cartridges.totals = put s.cartridges.totals p (f s.cartridges.totals[p]) := rfl

/-! ### Tables -/

@[simp] theorem put_same {α : Type} {n : Nat} (v : Vector α n) (i : Fin n) (x : α) : (put v i x)[i] = x := by
  simp [put]

theorem put_other {α : Type} {n : Nat} (v : Vector α n) (i j : Fin n) (x : α) (h : i ≠ j) :
    (put v i x)[j] = v[j] := by
  have : i.val ≠ j.val := fun e => h (Fin.ext e)
  simp [put, Vector.getElem_set_ne, this]

end Sys2Proof.Machine
end

