-- ==== Sys2Proof/Laws/Base.lean ====
section
/-! SUPPORT. What no block but the memory port touches: the commands that wait, the fuse values and page memory stay
as they are in every operation of the other blocks, and the commands and the fuse values in every one. -/

set_option linter.unusedTactic false
set_option linter.unreachableTactic false
set_option linter.unnecessarySeqFocus false

namespace Sys2Proof.Machine
/-! ### `pending` -/

theorem foldl_pending {α : Type} (f : State → α → State) (h : ∀ s a, (f s a).pending = s.pending) (l : List α) (s : State) :
    (l.foldl f s).pending = s.pending := by
  induction l generalizing s with
  | nil => rfl
  | cons a l ih => rw [List.foldl_cons, ih, h]

theorem meterUp_pending (s : State) (v : Nat) (g : Nat → State → State) (h : ∀ v s, (g v s).pending = s.pending) : (meterUp s v g).pending = s.pending := by
  unfold meterUp; simp [h]
@[simp] theorem countUnaccounted_pending (s : State) : (countUnaccounted s).pending = s.pending := meterUp_pending _ _ _ fun _ _ => rfl
@[simp] theorem countBlanked_pending (s : State) : (countBlanked s).pending = s.pending := meterUp_pending _ _ _ fun _ _ => rfl
@[simp] theorem countUnattributed_pending (s : State) (p : Plane) : (countUnattributed p s).pending = s.pending := meterUp_pending _ _ _ fun _ _ => rfl
@[simp] theorem countSideMeter_pending (s : State) (i : Fin 8) : (countSideMeter i s).pending = s.pending := meterUp_pending _ _ _ fun _ _ => rfl
@[simp] theorem countUser_pending (s : State) (u : Fin 64) (i : Fin 8) : (countUser u i s).pending = s.pending := by
  unfold countUser; split
  · rfl
  · exact meterUp_pending _ _ _ fun _ _ => rfl
@[simp] theorem changeVerdict_pending (s : State) (p : Plane) (v : Verdict) : (changeVerdict p v s).pending = s.pending := by
  unfold changeVerdict; try dsimp only
  all_goals (repeat' split) <;> simp
@[simp] theorem requestProbe_pending (s : State) (p : Plane) : (requestProbe p s).pending = s.pending := by
  unfold requestProbe; try dsimp only
  all_goals (repeat' split) <;> simp
@[simp] theorem thresholdTest_pending (s : State) (p : Plane) : (thresholdTest p s).pending = s.pending := by
  unfold thresholdTest; try dsimp only
  all_goals (repeat' split) <;> simp
@[simp] theorem drawRandom_pending (s : State) : (drawRandom s).2.pending = s.pending := rfl
@[simp] theorem beginProof_pending (s : State) (p : Plane) : (beginProof p s).pending = s.pending := by
  unfold beginProof; try dsimp only
  all_goals (repeat' split) <;> simp
@[simp] theorem beginDebit_pending (s : State) (p : Plane) : (beginDebit p s).pending = s.pending := by
  unfold beginDebit; try dsimp only
  all_goals (repeat' split) <;> simp
@[simp] theorem arbitrate_pending (s : State) : (arbitrate s).pending = s.pending := by
  unfold arbitrate; try dsimp only
  all_goals (repeat' split) <;> simp
@[simp] theorem addLost_pending (s : State) (p : Plane) (d : Nat) : (addLost p d s).pending = s.pending := by
  unfold addLost; try dsimp only
  all_goals (repeat' split) <;> simp
@[simp] theorem addDrawn_pending (s : State) (p : Plane) (d : Nat) : (addDrawn p d s).pending = s.pending := by
  unfold addDrawn; try dsimp only
  all_goals (repeat' split) <;> simp
@[simp] theorem addUnproven_pending (s : State) (p : Plane) (d : Nat) : (addUnproven p d s).pending = s.pending := by
  unfold addUnproven; try dsimp only
  all_goals (repeat' split) <;> simp
@[simp] theorem addConfirmed_pending (s : State) (p : Plane) (d : Nat) : (addConfirmed p d s).pending = s.pending := by
  unfold addConfirmed; try dsimp only
  all_goals (repeat' split) <;> simp
@[simp] theorem loseExcess_pending (s : State) (p : Plane) (o d : Nat) : (loseExcess p o d s).pending = s.pending := by
  unfold loseExcess; try dsimp only
  all_goals (repeat' split) <;> simp
@[simp] theorem oweSlot_pending (s : State) (p : Plane) (d : Nat) : (oweSlot p d s).pending = s.pending := by
  unfold oweSlot; try dsimp only
  all_goals (repeat' split) <;> simp
@[simp] theorem oweAbsent_pending (s : State) (a : AbsentEntry) (d : Nat) : (oweAbsent a d s).pending = s.pending := by
  unfold oweAbsent; try dsimp only
  all_goals (repeat' split) <;> simp
@[simp] theorem joinAbsent_pending (s : State) (a : AbsentEntry) : (joinAbsent a s).pending = s.pending := by
  unfold joinAbsent; try dsimp only
  all_goals (repeat' split) <;> simp
@[simp] theorem stashSlot_pending (s : State) (p : Plane) : (stashSlot p s).pending = s.pending := by
  unfold stashSlot; try dsimp only
  all_goals (repeat' split) <;> simp
@[simp] theorem routeUnattributed_pending (s : State) (p : Plane) (d : Nat) : (routeUnattributed p d s).pending = s.pending := by
  unfold routeUnattributed; try dsimp only
  all_goals (repeat' split) <;> simp
@[simp] theorem routeSideDraw_pending (s : State) (p : Plane) (d : Nat) (v : Option Serial) :
    (routeSideDraw p d v s).1.pending = s.pending := by
  unfold routeSideDraw; dsimp only
  all_goals (repeat' split) <;> simp
@[simp] theorem countReproof_pending (s : State) (p : Plane) : (countReproof p s).pending = s.pending := by
  unfold countReproof; try dsimp only
  all_goals (repeat' split) <;> simp
@[simp] theorem testEstimate_pending (s : State) (b : State) (p : Plane) : (testEstimate b p s).pending = s.pending := by
  unfold testEstimate; try dsimp only
  all_goals (repeat' split) <;> simp
@[simp] theorem testEstimates_pending (s : State) (b : State) : (testEstimates b s).pending = s.pending := by
  unfold testEstimates; exact foldl_pending _ (fun s p => testEstimate_pending s b p) _ _
@[simp] theorem completeProbe_pending (s : State) (p : Plane) (o : ProofOutcome) (n : Nat) : (completeProbe p o n s).pending = s.pending := by
  unfold completeProbe; try dsimp only
  all_goals (repeat' split) <;> simp
@[simp] theorem endAttempt_pending (s : State) (p : Plane) (o : ProofOutcome) : (endAttempt p o s).pending = s.pending := by
  unfold endAttempt; try dsimp only
  all_goals (repeat' split) <;> simp
@[simp] theorem endDebitBadly_pending (s : State) (p : Plane) (a : Nat) (b : Bool) : (endDebitBadly p a b s).pending = s.pending := by
  unfold endDebitBadly; try dsimp only
  all_goals (repeat' split) <;> simp
@[simp] theorem addUnattributedWeight_pending (s : State) (p : Plane) (n : Nat) : (addUnattributedWeight p n s).pending = s.pending := by
  unfold addUnattributedWeight; try dsimp only
  all_goals (repeat' split) <;> simp
@[simp] theorem tallyUnattributed_pending (s : State) (p : Plane) : (tallyUnattributed p s).pending = s.pending := by
  unfold tallyUnattributed; try dsimp only
  all_goals (repeat' split) <;> simp
@[simp] theorem takeUnattributed_pending (s : State) (p : Plane) (n : Nat) : (takeUnattributed p n s).pending = s.pending := by
  unfold takeUnattributed; try dsimp only
  all_goals (repeat' split) <;> simp
@[simp] theorem convertPlane_pending (s : State) (p : Plane) : (convertPlane s p).pending = s.pending := by
  unfold convertPlane; try dsimp only
  all_goals (repeat' split) <;> simp
@[simp] theorem convertUnattributed_pending (s : State) : (convertUnattributed s).pending = s.pending := by
  unfold convertUnattributed; exact foldl_pending _ convertPlane_pending _ _
@[simp] theorem attemptRemove_pending (s : State) (i : Fin 32) : (attemptRemove i s).pending = s.pending := by
  unfold attemptRemove; try dsimp only
  all_goals (repeat' split) <;> simp
@[simp] theorem completeClose_pending (s : State) (i : Fin 16) (j : Job) : (completeClose i j s).pending = s.pending := by
  unfold completeClose; try dsimp only
  all_goals (repeat' split) <;> simp
@[simp] theorem attemptClose_pending (s : State) (i : Fin 16) : (attemptClose i s).pending = s.pending := by
  unfold attemptClose; try dsimp only
  all_goals (repeat' split) <;> simp
@[simp] theorem lineArrives_pending (s : State) (i : Fin 16) : (lineArrives i s).pending = s.pending := by
  unfold lineArrives; try dsimp only
  all_goals (repeat' split) <;> simp
@[simp] theorem lineLeaves_pending (s : State) (i : Fin 16) : (lineLeaves i s).pending = s.pending := by
  unfold lineLeaves; try dsimp only
  all_goals (repeat' split) <;> simp
@[simp] theorem countEnciphered_pending (s : State) (i : Fin 16) : (countEnciphered i s).pending = s.pending := by
  unfold countEnciphered; try dsimp only
  all_goals (repeat' split) <;> simp
@[simp] theorem countSettled_pending (s : State) (i : Fin 16) : (countSettled i s).pending = s.pending := by
  unfold countSettled; try dsimp only
  all_goals (repeat' split) <;> simp
@[simp] theorem sideLeaves_pending (s : State) (i : Fin 16) : (sideLeaves i s).pending = s.pending := by
  unfold sideLeaves; try dsimp only
  all_goals (repeat' split) <;> simp
@[simp] theorem warningTest_pending (s : State) (u : Fin 64) : (warningTest u s).pending = s.pending := by
  unfold warningTest; try dsimp only
  all_goals (repeat' split) <;> simp
@[simp] theorem takeHold_pending (s : State) (u : Fin 64) (n : Nat) : (takeHold u n s).pending = s.pending := by
  unfold takeHold; try dsimp only
  all_goals (repeat' split) <;> simp
@[simp] theorem releaseHold_pending (s : State) (u : Fin 64) (n : Nat) : (releaseHold u n s).pending = s.pending := by
  unfold releaseHold; try dsimp only
  all_goals (repeat' split) <;> simp
@[simp] theorem chargeUser_pending (s : State) (u : Fin 64) (n : Nat) : (chargeUser u n s).pending = s.pending := by
  unfold chargeUser; try dsimp only
  all_goals (repeat' split) <;> simp
@[simp] theorem countBoth_pending (s : State) (u : Fin 64) (i : Fin 8) : (countBoth u i s).pending = s.pending := by
  unfold countBoth; try dsimp only
  all_goals (repeat' split) <;> simp
@[simp] theorem settleAccount_pending (s : State) (r : Side) (o : SideOutcome) (f : CloseFigures) (n : Nat) : (settleAccount r o f n s).pending = s.pending := by
  unfold settleAccount; try dsimp only
  all_goals (repeat' split) <;> simp
@[simp] theorem handPlaneDraw_pending (s : State) (r : Side) (f : CloseFigures) (p : Plane) : (handPlaneDraw r f s p).pending = s.pending := by
  unfold handPlaneDraw; try dsimp only
  all_goals (repeat' split) <;> simp
@[simp] theorem handDraw_pending (s : State) (r : Side) (f : CloseFigures) : (handDraw r f s).pending = s.pending := by
  unfold handDraw; exact foldl_pending _ (fun s p => handPlaneDraw_pending s r f p) _ _
@[simp] theorem markSettled_pending (s : State) (u : Nat) (g : Side → Side) : (markSettled u g s).pending = s.pending := by
  unfold markSettled; try dsimp only
  all_goals (repeat' split) <;> simp
@[simp] theorem closeSide_pending (s : State) (r : Side) (o : SideOutcome) : (closeSide r o s).pending = s.pending := by
  unfold closeSide; try dsimp only
  all_goals (repeat' split) <;> simp
@[simp] theorem voidSide_pending (s : State) (r : Side) : (voidSide r s).pending = s.pending := by
  unfold voidSide; try dsimp only
  all_goals (repeat' split) <;> simp
@[simp] theorem countSideBlanked_pending (s : State) : (countSideBlanked s).pending = s.pending := by
  unfold countSideBlanked; try dsimp only
  all_goals (repeat' split) <;> simp
@[simp] theorem countBlank_pending (s : State) (c : BlankCount) : (countBlank c s).pending = s.pending := by
  unfold countBlank; try dsimp only
  all_goals (repeat' split) <;> simp
@[simp] theorem meterToSide_pending (s : State) (m : Side) (r : Readout) (l : Line) : (meterToSide m r l s).pending = s.pending := by
  unfold meterToSide; try dsimp only
  all_goals (repeat' split) <;> simp
@[simp] theorem handOver_pending (s : State) (r : Readout) (l : Line) : (handOver r l s).pending = s.pending := by
  unfold handOver; try dsimp only
  all_goals (repeat' split) <;> simp
@[simp] theorem switchPending_pending (s : State) : (switchPending s).pending = s.pending := by
  unfold switchPending; try dsimp only
  all_goals (repeat' split) <;> simp
@[simp] theorem startSide_pending (s : State) (r : Side) : (startSide r s).pending = s.pending := by
  unfold startSide; try dsimp only
  all_goals (repeat' split) <;> simp
@[simp] theorem takeMark_pending (s : State) : (takeMark s).pending = s.pending := by
  unfold takeMark; try dsimp only
  all_goals (repeat' split) <;> simp
@[simp] theorem towardPort_pending (s : State) (r : Req) : (towardPort r s).pending = s.pending := by
  unfold towardPort; try dsimp only
  all_goals (repeat' split) <;> simp
@[simp] theorem issueRead_pending (s : State) (i : Fin 8) : (issueRead i s).pending = s.pending := by
  unfold issueRead; try dsimp only
  all_goals (repeat' split) <;> simp
@[simp] theorem giveEntry_pending (s : State) (i : Fin 8) (r : Req) : (giveEntry i r s).pending = s.pending := by
  unfold giveEntry; try dsimp only
  all_goals (repeat' split) <;> simp
@[simp] theorem claimMerge_pending (s : State) (r : Req) : (claimMerge r s).pending = s.pending := by
  unfold claimMerge; try dsimp only
  all_goals (repeat' split) <;> simp
@[simp] theorem setQueue_pending (s : State) (l : Nat) (q : List Req) : (setQueue l q s).pending = s.pending := by
  unfold setQueue; try dsimp only
  all_goals (repeat' split) <;> simp
@[simp] theorem dropClaim_pending (s : State) (l : Nat) : (dropClaim l s).pending = s.pending := by
  unfold dropClaim; try dsimp only
  all_goals (repeat' split) <;> simp
@[simp] theorem refillEntry_pending (s : State) (i : Fin 8) : (refillEntry i s).pending = s.pending := by
  unfold refillEntry; try dsimp only
  all_goals (repeat' split) <;> simp
@[simp] theorem serveQueue_pending (s : State) (i : Fin 8) (l : Nat) : (serveQueue i l s).pending = s.pending := by
  unfold serveQueue; try dsimp only
  all_goals (repeat' split) <;> simp
@[simp] theorem leaveLineCount_pending (s : State) (i : Fin 16) : (leaveLineCount i s).pending = s.pending := by
  unfold leaveLineCount; try dsimp only
  all_goals (repeat' split) <;> simp
@[simp] theorem wakeEntries_pending (s : State) (l : Nat) : (wakeEntries l s).pending = s.pending := by
  unfold wakeEntries
  refine foldl_pending _ (fun s i => ?_) _ _
  all_goals (repeat' split) <;> simp
@[simp] theorem grantMergeRead_pending (s : State) (i : Fin 8) : (grantMergeRead i s).pending = s.pending := by
  unfold grantMergeRead; try dsimp only
  all_goals (repeat' split) <;> simp
@[simp] theorem attemptRemoveOf_pending (s : State) (r : Req) : (attemptRemoveOf r s).pending = s.pending := by
  unfold attemptRemoveOf; try dsimp only
  all_goals (repeat' split) <;> simp
@[simp] theorem takeOrder_pending (s : State) (r : Req) : (takeOrder r s).pending = s.pending := by
  unfold takeOrder; try dsimp only
  all_goals (repeat' split) <;> simp
@[simp] theorem holdWrite_pending (s : State) (r : Req) : (holdWrite r s).pending = s.pending := rfl
@[simp] theorem takeHeld_pending (s : State) : (takeHeld s).pending = s.pending := by
  unfold takeHeld; try dsimp only
  split
  · rfl
  · split
    · rw [foldl_pending _ (fun s q => towardPort_pending s q), takeOrder_pending]
    · rfl
@[simp] theorem takeHeldUpTo_pending (s : State) (n : Nat) : (takeHeldUpTo n s).pending = s.pending := by
  induction n generalizing s with
  | zero => rfl
  | succ n ih => unfold takeHeldUpTo; (repeat' split) <;> simp [ih]
@[simp] theorem countRefusal_pending (s : State) (p : Place) : (countRefusal p s).pending = s.pending := by
  unfold countRefusal; try dsimp only
  all_goals (repeat' split) <;> simp
@[simp] theorem offerIndex_pending (s : State) (a : Access) : (offerIndex a s).pending = s.pending := by
  unfold offerIndex; try dsimp only
  all_goals (repeat' split) <;> simp
@[simp] theorem countArrival_pending (s : State) (r : Req) : (countArrival r s).pending = s.pending := by
  unfold countArrival; try dsimp only
  all_goals (repeat' split) <;> simp
@[simp] theorem admitRequest_pending (s : State) (r : Req) : (admitRequest r s).pending = s.pending := by
  unfold admitRequest; try dsimp only
  all_goals (repeat' split) <;> simp
@[simp] theorem handleRequest_pending (s : State) (r : Req) : (handleRequest r s).pending = s.pending := by
  unfold handleRequest; try dsimp only
  all_goals (repeat' split) <;> simp
@[simp] theorem arrive_pending (s : State) (q : LineReq) : (arrive q s).pending = s.pending := by
  unfold arrive; try dsimp only
  all_goals (repeat' split) <;> simp
@[simp] theorem present_pending (s : State) (q : LineReq) : (present q s).pending = s.pending := by
  unfold present; try dsimp only
  all_goals (repeat' split) <;> simp
@[simp] theorem openChannel_pending (s : State) : (openChannel s).pending = s.pending := by
  unfold openChannel
  split
  · exact foldl_pending _ (fun s q => arrive_pending s q) _ _
  · rfl
@[simp] theorem issueReturn_pending (s : State) : (issueReturn s).pending = s.pending := by
  unfold issueReturn; try dsimp only
  all_goals (repeat' split) <;> simp
@[simp] theorem tellSideList_pending (s : State) : (tellSideList s).pending = s.pending := by
  unfold tellSideList; try dsimp only
  all_goals (repeat' split) <;> simp
@[simp] theorem tellOrderTaker_pending (s : State) : (tellOrderTaker s).pending = s.pending := by
  unfold tellOrderTaker; try dsimp only
  all_goals (repeat' split) <;> simp
@[simp] theorem tellExport_pending (s : State) : (tellExport s).pending = s.pending := by
  unfold tellExport; try dsimp only
  all_goals (repeat' split) <;> simp
@[simp] theorem tellOwner_pending (s : State) (o : Owner) : (tellOwner o s).pending = s.pending := by
  unfold tellOwner; try dsimp only
  all_goals (repeat' split) <;> simp
@[simp] theorem issueHeader_pending (s : State) (b : State) : (issueHeader b s).pending = s.pending := by
  unfold issueHeader; try dsimp only
  all_goals (repeat' split) <;> simp
@[simp] theorem issueSummary_pending (s : State) (b : State) : (issueSummary b s).pending = s.pending := by
  unfold issueSummary; try dsimp only
  all_goals (repeat' split) <;> simp
@[simp] theorem abandonExchange_pending (s : State) : (abandonExchange s).pending = s.pending := by
  unfold abandonExchange; try dsimp only
  all_goals (repeat' split) <;> simp
@[simp] theorem resetSide_pending (s : State) (r : Side) : (resetSide s r).pending = s.pending := by
  unfold resetSide; try dsimp only
  all_goals (repeat' split) <;> simp
@[simp] theorem releaseContext_pending (s : State) (r : Side) (p : Plane) : (releaseContext r s p).pending = s.pending := by
  unfold releaseContext; try dsimp only
  all_goals (repeat' split) <;> simp
@[simp] theorem resetSides_pending (s : State) : (resetSides s).pending = s.pending := by
  unfold resetSides
  simp only [convertUnattributed_pending]
  split
  · rw [foldl_pending _ (fun s p => releaseContext_pending s _ p) _ _, foldl_pending _ resetSide_pending _ _]
  · rw [foldl_pending _ resetSide_pending _ _]
@[simp] theorem resetTables_pending (s : State) (l : List Result) : (resetTables l s).pending = s.pending := by
  unfold resetTables; try dsimp only
  all_goals (repeat' split) <;> simp
@[simp] theorem resetRing_pending (s : State) : (resetRing s).pending = s.pending := by
  unfold resetRing; try dsimp only
  all_goals (repeat' split) <;> simp
@[simp] theorem warmReset_pending (s : State) (w : ResetWait) : (warmReset w s).pending = s.pending := by
  unfold warmReset; try dsimp only
  all_goals (repeat' split) <;> simp
@[simp] theorem noteDrain_pending (s : State) : (noteDrain s).pending = s.pending := by
  unfold noteDrain; try dsimp only
  all_goals (repeat' split) <;> simp
@[simp] theorem tryReset_pending (s : State) : (tryReset s).pending = s.pending := by
  unfold tryReset; try dsimp only
  all_goals (repeat' split) <;> simp
@[simp] theorem concludeEvent_pending (s : State) (b : State) : (concludeEvent b s).pending = s.pending := by
  unfold concludeEvent; try dsimp only
  all_goals (repeat' split) <;> simp

/-! ### `fuses` -/

theorem foldl_fuses {α : Type} (f : State → α → State) (h : ∀ s a, (f s a).fuses = s.fuses) (l : List α) (s : State) :
    (l.foldl f s).fuses = s.fuses := by
  induction l generalizing s with
  | nil => rfl
  | cons a l ih => rw [List.foldl_cons, ih, h]

theorem meterUp_fuses (s : State) (v : Nat) (g : Nat → State → State) (h : ∀ v s, (g v s).fuses = s.fuses) : (meterUp s v g).fuses = s.fuses := by
  unfold meterUp; simp [h]
@[simp] theorem countUnaccounted_fuses (s : State) : (countUnaccounted s).fuses = s.fuses := meterUp_fuses _ _ _ fun _ _ => rfl
@[simp] theorem countBlanked_fuses (s : State) : (countBlanked s).fuses = s.fuses := meterUp_fuses _ _ _ fun _ _ => rfl
@[simp] theorem countUnattributed_fuses (s : State) (p : Plane) : (countUnattributed p s).fuses = s.fuses := meterUp_fuses _ _ _ fun _ _ => rfl
@[simp] theorem countSideMeter_fuses (s : State) (i : Fin 8) : (countSideMeter i s).fuses = s.fuses := meterUp_fuses _ _ _ fun _ _ => rfl
@[simp] theorem countUser_fuses (s : State) (u : Fin 64) (i : Fin 8) : (countUser u i s).fuses = s.fuses := by
  unfold countUser; split
  · rfl
  · exact meterUp_fuses _ _ _ fun _ _ => rfl
@[simp] theorem changeVerdict_fuses (s : State) (p : Plane) (v : Verdict) : (changeVerdict p v s).fuses = s.fuses := by
  unfold changeVerdict; try dsimp only
  all_goals (repeat' split) <;> simp
@[simp] theorem requestProbe_fuses (s : State) (p : Plane) : (requestProbe p s).fuses = s.fuses := by
  unfold requestProbe; try dsimp only
  all_goals (repeat' split) <;> simp
@[simp] theorem thresholdTest_fuses (s : State) (p : Plane) : (thresholdTest p s).fuses = s.fuses := by
  unfold thresholdTest; try dsimp only
  all_goals (repeat' split) <;> simp
@[simp] theorem drawRandom_fuses (s : State) : (drawRandom s).2.fuses = s.fuses := rfl
@[simp] theorem beginProof_fuses (s : State) (p : Plane) : (beginProof p s).fuses = s.fuses := by
  unfold beginProof; try dsimp only
  all_goals (repeat' split) <;> simp
@[simp] theorem beginDebit_fuses (s : State) (p : Plane) : (beginDebit p s).fuses = s.fuses := by
  unfold beginDebit; try dsimp only
  all_goals (repeat' split) <;> simp
@[simp] theorem arbitrate_fuses (s : State) : (arbitrate s).fuses = s.fuses := by
  unfold arbitrate; try dsimp only
  all_goals (repeat' split) <;> simp
@[simp] theorem addLost_fuses (s : State) (p : Plane) (d : Nat) : (addLost p d s).fuses = s.fuses := by
  unfold addLost; try dsimp only
  all_goals (repeat' split) <;> simp
@[simp] theorem addDrawn_fuses (s : State) (p : Plane) (d : Nat) : (addDrawn p d s).fuses = s.fuses := by
  unfold addDrawn; try dsimp only
  all_goals (repeat' split) <;> simp
@[simp] theorem addUnproven_fuses (s : State) (p : Plane) (d : Nat) : (addUnproven p d s).fuses = s.fuses := by
  unfold addUnproven; try dsimp only
  all_goals (repeat' split) <;> simp
@[simp] theorem addConfirmed_fuses (s : State) (p : Plane) (d : Nat) : (addConfirmed p d s).fuses = s.fuses := by
  unfold addConfirmed; try dsimp only
  all_goals (repeat' split) <;> simp
@[simp] theorem loseExcess_fuses (s : State) (p : Plane) (o d : Nat) : (loseExcess p o d s).fuses = s.fuses := by
  unfold loseExcess; try dsimp only
  all_goals (repeat' split) <;> simp
@[simp] theorem oweSlot_fuses (s : State) (p : Plane) (d : Nat) : (oweSlot p d s).fuses = s.fuses := by
  unfold oweSlot; try dsimp only
  all_goals (repeat' split) <;> simp
@[simp] theorem oweAbsent_fuses (s : State) (a : AbsentEntry) (d : Nat) : (oweAbsent a d s).fuses = s.fuses := by
  unfold oweAbsent; try dsimp only
  all_goals (repeat' split) <;> simp
@[simp] theorem joinAbsent_fuses (s : State) (a : AbsentEntry) : (joinAbsent a s).fuses = s.fuses := by
  unfold joinAbsent; try dsimp only
  all_goals (repeat' split) <;> simp
@[simp] theorem stashSlot_fuses (s : State) (p : Plane) : (stashSlot p s).fuses = s.fuses := by
  unfold stashSlot; try dsimp only
  all_goals (repeat' split) <;> simp
@[simp] theorem routeUnattributed_fuses (s : State) (p : Plane) (d : Nat) : (routeUnattributed p d s).fuses = s.fuses := by
  unfold routeUnattributed; try dsimp only
  all_goals (repeat' split) <;> simp
@[simp] theorem routeSideDraw_fuses (s : State) (p : Plane) (d : Nat) (v : Option Serial) :
    (routeSideDraw p d v s).1.fuses = s.fuses := by
  unfold routeSideDraw; dsimp only
  all_goals (repeat' split) <;> simp
@[simp] theorem countReproof_fuses (s : State) (p : Plane) : (countReproof p s).fuses = s.fuses := by
  unfold countReproof; try dsimp only
  all_goals (repeat' split) <;> simp
@[simp] theorem testEstimate_fuses (s : State) (b : State) (p : Plane) : (testEstimate b p s).fuses = s.fuses := by
  unfold testEstimate; try dsimp only
  all_goals (repeat' split) <;> simp
@[simp] theorem testEstimates_fuses (s : State) (b : State) : (testEstimates b s).fuses = s.fuses := by
  unfold testEstimates; exact foldl_fuses _ (fun s p => testEstimate_fuses s b p) _ _
@[simp] theorem completeProbe_fuses (s : State) (p : Plane) (o : ProofOutcome) (n : Nat) : (completeProbe p o n s).fuses = s.fuses := by
  unfold completeProbe; try dsimp only
  all_goals (repeat' split) <;> simp
@[simp] theorem endAttempt_fuses (s : State) (p : Plane) (o : ProofOutcome) : (endAttempt p o s).fuses = s.fuses := by
  unfold endAttempt; try dsimp only
  all_goals (repeat' split) <;> simp
@[simp] theorem endDebitBadly_fuses (s : State) (p : Plane) (a : Nat) (b : Bool) : (endDebitBadly p a b s).fuses = s.fuses := by
  unfold endDebitBadly; try dsimp only
  all_goals (repeat' split) <;> simp
@[simp] theorem addUnattributedWeight_fuses (s : State) (p : Plane) (n : Nat) : (addUnattributedWeight p n s).fuses = s.fuses := by
  unfold addUnattributedWeight; try dsimp only
  all_goals (repeat' split) <;> simp
@[simp] theorem tallyUnattributed_fuses (s : State) (p : Plane) : (tallyUnattributed p s).fuses = s.fuses := by
  unfold tallyUnattributed; try dsimp only
  all_goals (repeat' split) <;> simp
@[simp] theorem takeUnattributed_fuses (s : State) (p : Plane) (n : Nat) : (takeUnattributed p n s).fuses = s.fuses := by
  unfold takeUnattributed; try dsimp only
  all_goals (repeat' split) <;> simp
@[simp] theorem convertPlane_fuses (s : State) (p : Plane) : (convertPlane s p).fuses = s.fuses := by
  unfold convertPlane; try dsimp only
  all_goals (repeat' split) <;> simp
@[simp] theorem convertUnattributed_fuses (s : State) : (convertUnattributed s).fuses = s.fuses := by
  unfold convertUnattributed; exact foldl_fuses _ convertPlane_fuses _ _
@[simp] theorem attemptRemove_fuses (s : State) (i : Fin 32) : (attemptRemove i s).fuses = s.fuses := by
  unfold attemptRemove; try dsimp only
  all_goals (repeat' split) <;> simp
@[simp] theorem completeClose_fuses (s : State) (i : Fin 16) (j : Job) : (completeClose i j s).fuses = s.fuses := by
  unfold completeClose; try dsimp only
  all_goals (repeat' split) <;> simp
@[simp] theorem attemptClose_fuses (s : State) (i : Fin 16) : (attemptClose i s).fuses = s.fuses := by
  unfold attemptClose; try dsimp only
  all_goals (repeat' split) <;> simp
@[simp] theorem lineArrives_fuses (s : State) (i : Fin 16) : (lineArrives i s).fuses = s.fuses := by
  unfold lineArrives; try dsimp only
  all_goals (repeat' split) <;> simp
@[simp] theorem lineLeaves_fuses (s : State) (i : Fin 16) : (lineLeaves i s).fuses = s.fuses := by
  unfold lineLeaves; try dsimp only
  all_goals (repeat' split) <;> simp
@[simp] theorem countEnciphered_fuses (s : State) (i : Fin 16) : (countEnciphered i s).fuses = s.fuses := by
  unfold countEnciphered; try dsimp only
  all_goals (repeat' split) <;> simp
@[simp] theorem countSettled_fuses (s : State) (i : Fin 16) : (countSettled i s).fuses = s.fuses := by
  unfold countSettled; try dsimp only
  all_goals (repeat' split) <;> simp
@[simp] theorem sideLeaves_fuses (s : State) (i : Fin 16) : (sideLeaves i s).fuses = s.fuses := by
  unfold sideLeaves; try dsimp only
  all_goals (repeat' split) <;> simp
@[simp] theorem warningTest_fuses (s : State) (u : Fin 64) : (warningTest u s).fuses = s.fuses := by
  unfold warningTest; try dsimp only
  all_goals (repeat' split) <;> simp
@[simp] theorem takeHold_fuses (s : State) (u : Fin 64) (n : Nat) : (takeHold u n s).fuses = s.fuses := by
  unfold takeHold; try dsimp only
  all_goals (repeat' split) <;> simp
@[simp] theorem releaseHold_fuses (s : State) (u : Fin 64) (n : Nat) : (releaseHold u n s).fuses = s.fuses := by
  unfold releaseHold; try dsimp only
  all_goals (repeat' split) <;> simp
@[simp] theorem chargeUser_fuses (s : State) (u : Fin 64) (n : Nat) : (chargeUser u n s).fuses = s.fuses := by
  unfold chargeUser; try dsimp only
  all_goals (repeat' split) <;> simp
@[simp] theorem countBoth_fuses (s : State) (u : Fin 64) (i : Fin 8) : (countBoth u i s).fuses = s.fuses := by
  unfold countBoth; try dsimp only
  all_goals (repeat' split) <;> simp
@[simp] theorem settleAccount_fuses (s : State) (r : Side) (o : SideOutcome) (f : CloseFigures) (n : Nat) : (settleAccount r o f n s).fuses = s.fuses := by
  unfold settleAccount; try dsimp only
  all_goals (repeat' split) <;> simp
@[simp] theorem handPlaneDraw_fuses (s : State) (r : Side) (f : CloseFigures) (p : Plane) : (handPlaneDraw r f s p).fuses = s.fuses := by
  unfold handPlaneDraw; try dsimp only
  all_goals (repeat' split) <;> simp
@[simp] theorem handDraw_fuses (s : State) (r : Side) (f : CloseFigures) : (handDraw r f s).fuses = s.fuses := by
  unfold handDraw; exact foldl_fuses _ (fun s p => handPlaneDraw_fuses s r f p) _ _
@[simp] theorem markSettled_fuses (s : State) (u : Nat) (g : Side → Side) : (markSettled u g s).fuses = s.fuses := by
  unfold markSettled; try dsimp only
  all_goals (repeat' split) <;> simp
@[simp] theorem closeSide_fuses (s : State) (r : Side) (o : SideOutcome) : (closeSide r o s).fuses = s.fuses := by
  unfold closeSide; try dsimp only
  all_goals (repeat' split) <;> simp
@[simp] theorem voidSide_fuses (s : State) (r : Side) : (voidSide r s).fuses = s.fuses := by
  unfold voidSide; try dsimp only
  all_goals (repeat' split) <;> simp
@[simp] theorem countSideBlanked_fuses (s : State) : (countSideBlanked s).fuses = s.fuses := by
  unfold countSideBlanked; try dsimp only
  all_goals (repeat' split) <;> simp
@[simp] theorem countBlank_fuses (s : State) (c : BlankCount) : (countBlank c s).fuses = s.fuses := by
  unfold countBlank; try dsimp only
  all_goals (repeat' split) <;> simp
@[simp] theorem meterToSide_fuses (s : State) (m : Side) (r : Readout) (l : Line) : (meterToSide m r l s).fuses = s.fuses := by
  unfold meterToSide; try dsimp only
  all_goals (repeat' split) <;> simp
@[simp] theorem handOver_fuses (s : State) (r : Readout) (l : Line) : (handOver r l s).fuses = s.fuses := by
  unfold handOver; try dsimp only
  all_goals (repeat' split) <;> simp
@[simp] theorem switchPending_fuses (s : State) : (switchPending s).fuses = s.fuses := by
  unfold switchPending; try dsimp only
  all_goals (repeat' split) <;> simp
@[simp] theorem startSide_fuses (s : State) (r : Side) : (startSide r s).fuses = s.fuses := by
  unfold startSide; try dsimp only
  all_goals (repeat' split) <;> simp
@[simp] theorem takeMark_fuses (s : State) : (takeMark s).fuses = s.fuses := by
  unfold takeMark; try dsimp only
  all_goals (repeat' split) <;> simp
@[simp] theorem towardPort_fuses (s : State) (r : Req) : (towardPort r s).fuses = s.fuses := by
  unfold towardPort; try dsimp only
  all_goals (repeat' split) <;> simp
@[simp] theorem issueRead_fuses (s : State) (i : Fin 8) : (issueRead i s).fuses = s.fuses := by
  unfold issueRead; try dsimp only
  all_goals (repeat' split) <;> simp
@[simp] theorem giveEntry_fuses (s : State) (i : Fin 8) (r : Req) : (giveEntry i r s).fuses = s.fuses := by
  unfold giveEntry; try dsimp only
  all_goals (repeat' split) <;> simp
@[simp] theorem claimMerge_fuses (s : State) (r : Req) : (claimMerge r s).fuses = s.fuses := by
  unfold claimMerge; try dsimp only
  all_goals (repeat' split) <;> simp
@[simp] theorem setQueue_fuses (s : State) (l : Nat) (q : List Req) : (setQueue l q s).fuses = s.fuses := by
  unfold setQueue; try dsimp only
  all_goals (repeat' split) <;> simp
@[simp] theorem dropClaim_fuses (s : State) (l : Nat) : (dropClaim l s).fuses = s.fuses := by
  unfold dropClaim; try dsimp only
  all_goals (repeat' split) <;> simp
@[simp] theorem refillEntry_fuses (s : State) (i : Fin 8) : (refillEntry i s).fuses = s.fuses := by
  unfold refillEntry; try dsimp only
  all_goals (repeat' split) <;> simp
@[simp] theorem serveQueue_fuses (s : State) (i : Fin 8) (l : Nat) : (serveQueue i l s).fuses = s.fuses := by
  unfold serveQueue; try dsimp only
  all_goals (repeat' split) <;> simp
@[simp] theorem leaveLineCount_fuses (s : State) (i : Fin 16) : (leaveLineCount i s).fuses = s.fuses := by
  unfold leaveLineCount; try dsimp only
  all_goals (repeat' split) <;> simp
@[simp] theorem wakeEntries_fuses (s : State) (l : Nat) : (wakeEntries l s).fuses = s.fuses := by
  unfold wakeEntries
  refine foldl_fuses _ (fun s i => ?_) _ _
  all_goals (repeat' split) <;> simp
@[simp] theorem grantMergeRead_fuses (s : State) (i : Fin 8) : (grantMergeRead i s).fuses = s.fuses := by
  unfold grantMergeRead; try dsimp only
  all_goals (repeat' split) <;> simp
@[simp] theorem attemptRemoveOf_fuses (s : State) (r : Req) : (attemptRemoveOf r s).fuses = s.fuses := by
  unfold attemptRemoveOf; try dsimp only
  all_goals (repeat' split) <;> simp
@[simp] theorem takeOrder_fuses (s : State) (r : Req) : (takeOrder r s).fuses = s.fuses := by
  unfold takeOrder; try dsimp only
  all_goals (repeat' split) <;> simp
@[simp] theorem holdWrite_fuses (s : State) (r : Req) : (holdWrite r s).fuses = s.fuses := rfl
@[simp] theorem takeHeld_fuses (s : State) : (takeHeld s).fuses = s.fuses := by
  unfold takeHeld; try dsimp only
  split
  · rfl
  · split
    · rw [foldl_fuses _ (fun s q => towardPort_fuses s q), takeOrder_fuses]
    · rfl
@[simp] theorem takeHeldUpTo_fuses (s : State) (n : Nat) : (takeHeldUpTo n s).fuses = s.fuses := by
  induction n generalizing s with
  | zero => rfl
  | succ n ih => unfold takeHeldUpTo; (repeat' split) <;> simp [ih]
@[simp] theorem countRefusal_fuses (s : State) (p : Place) : (countRefusal p s).fuses = s.fuses := by
  unfold countRefusal; try dsimp only
  all_goals (repeat' split) <;> simp
@[simp] theorem offerIndex_fuses (s : State) (a : Access) : (offerIndex a s).fuses = s.fuses := by
  unfold offerIndex; try dsimp only
  all_goals (repeat' split) <;> simp
@[simp] theorem countArrival_fuses (s : State) (r : Req) : (countArrival r s).fuses = s.fuses := by
  unfold countArrival; try dsimp only
  all_goals (repeat' split) <;> simp
@[simp] theorem admitRequest_fuses (s : State) (r : Req) : (admitRequest r s).fuses = s.fuses := by
  unfold admitRequest; try dsimp only
  all_goals (repeat' split) <;> simp
@[simp] theorem handleRequest_fuses (s : State) (r : Req) : (handleRequest r s).fuses = s.fuses := by
  unfold handleRequest; try dsimp only
  all_goals (repeat' split) <;> simp
@[simp] theorem arrive_fuses (s : State) (q : LineReq) : (arrive q s).fuses = s.fuses := by
  unfold arrive; try dsimp only
  all_goals (repeat' split) <;> simp
@[simp] theorem present_fuses (s : State) (q : LineReq) : (present q s).fuses = s.fuses := by
  unfold present; try dsimp only
  all_goals (repeat' split) <;> simp
@[simp] theorem openChannel_fuses (s : State) : (openChannel s).fuses = s.fuses := by
  unfold openChannel
  split
  · exact foldl_fuses _ (fun s q => arrive_fuses s q) _ _
  · rfl
@[simp] theorem issueReturn_fuses (s : State) : (issueReturn s).fuses = s.fuses := by
  unfold issueReturn; try dsimp only
  all_goals (repeat' split) <;> simp
@[simp] theorem tellSideList_fuses (s : State) : (tellSideList s).fuses = s.fuses := by
  unfold tellSideList; try dsimp only
  all_goals (repeat' split) <;> simp
@[simp] theorem tellOrderTaker_fuses (s : State) : (tellOrderTaker s).fuses = s.fuses := by
  unfold tellOrderTaker; try dsimp only
  all_goals (repeat' split) <;> simp
@[simp] theorem tellExport_fuses (s : State) : (tellExport s).fuses = s.fuses := by
  unfold tellExport; try dsimp only
  all_goals (repeat' split) <;> simp
@[simp] theorem tellOwner_fuses (s : State) (o : Owner) : (tellOwner o s).fuses = s.fuses := by
  unfold tellOwner; try dsimp only
  all_goals (repeat' split) <;> simp
@[simp] theorem issueHeader_fuses (s : State) (b : State) : (issueHeader b s).fuses = s.fuses := by
  unfold issueHeader; try dsimp only
  all_goals (repeat' split) <;> simp
@[simp] theorem issueSummary_fuses (s : State) (b : State) : (issueSummary b s).fuses = s.fuses := by
  unfold issueSummary; try dsimp only
  all_goals (repeat' split) <;> simp
@[simp] theorem abandonExchange_fuses (s : State) : (abandonExchange s).fuses = s.fuses := by
  unfold abandonExchange; try dsimp only
  all_goals (repeat' split) <;> simp
@[simp] theorem resetSide_fuses (s : State) (r : Side) : (resetSide s r).fuses = s.fuses := by
  unfold resetSide; try dsimp only
  all_goals (repeat' split) <;> simp
@[simp] theorem releaseContext_fuses (s : State) (r : Side) (p : Plane) : (releaseContext r s p).fuses = s.fuses := by
  unfold releaseContext; try dsimp only
  all_goals (repeat' split) <;> simp
@[simp] theorem resetSides_fuses (s : State) : (resetSides s).fuses = s.fuses := by
  unfold resetSides
  simp only [convertUnattributed_fuses]
  split
  · rw [foldl_fuses _ (fun s p => releaseContext_fuses s _ p) _ _, foldl_fuses _ resetSide_fuses _ _]
  · rw [foldl_fuses _ resetSide_fuses _ _]
@[simp] theorem resetTables_fuses (s : State) (l : List Result) : (resetTables l s).fuses = s.fuses := by
  unfold resetTables; try dsimp only
  all_goals (repeat' split) <;> simp
@[simp] theorem resetRing_fuses (s : State) : (resetRing s).fuses = s.fuses := by
  unfold resetRing; try dsimp only
  all_goals (repeat' split) <;> simp
@[simp] theorem warmReset_fuses (s : State) (w : ResetWait) : (warmReset w s).fuses = s.fuses := by
  unfold warmReset; try dsimp only
  all_goals (repeat' split) <;> simp
@[simp] theorem noteDrain_fuses (s : State) : (noteDrain s).fuses = s.fuses := by
  unfold noteDrain; try dsimp only
  all_goals (repeat' split) <;> simp
@[simp] theorem tryReset_fuses (s : State) : (tryReset s).fuses = s.fuses := by
  unfold tryReset; try dsimp only
  all_goals (repeat' split) <;> simp
@[simp] theorem concludeEvent_fuses (s : State) (b : State) : (concludeEvent b s).fuses = s.fuses := by
  unfold concludeEvent; try dsimp only
  all_goals (repeat' split) <;> simp

/-! ### `mem` -/

theorem foldl_mem {α : Type} (f : State → α → State) (h : ∀ s a, (f s a).mem = s.mem) (l : List α) (s : State) :
    (l.foldl f s).mem = s.mem := by
  induction l generalizing s with
  | nil => rfl
  | cons a l ih => rw [List.foldl_cons, ih, h]

theorem meterUp_mem (s : State) (v : Nat) (g : Nat → State → State) (h : ∀ v s, (g v s).mem = s.mem) : (meterUp s v g).mem = s.mem := by
  unfold meterUp; simp [h]
@[simp] theorem countUnaccounted_mem (s : State) : (countUnaccounted s).mem = s.mem := meterUp_mem _ _ _ fun _ _ => rfl
@[simp] theorem countBlanked_mem (s : State) : (countBlanked s).mem = s.mem := meterUp_mem _ _ _ fun _ _ => rfl
@[simp] theorem countUnattributed_mem (s : State) (p : Plane) : (countUnattributed p s).mem = s.mem := meterUp_mem _ _ _ fun _ _ => rfl
@[simp] theorem countSideMeter_mem (s : State) (i : Fin 8) : (countSideMeter i s).mem = s.mem := meterUp_mem _ _ _ fun _ _ => rfl
@[simp] theorem countUser_mem (s : State) (u : Fin 64) (i : Fin 8) : (countUser u i s).mem = s.mem := by
  unfold countUser; split
  · rfl
  · exact meterUp_mem _ _ _ fun _ _ => rfl
@[simp] theorem changeVerdict_mem (s : State) (p : Plane) (v : Verdict) : (changeVerdict p v s).mem = s.mem := by
  unfold changeVerdict; try dsimp only
  all_goals (repeat' split) <;> simp
@[simp] theorem requestProbe_mem (s : State) (p : Plane) : (requestProbe p s).mem = s.mem := by
  unfold requestProbe; try dsimp only
  all_goals (repeat' split) <;> simp
@[simp] theorem thresholdTest_mem (s : State) (p : Plane) : (thresholdTest p s).mem = s.mem := by
  unfold thresholdTest; try dsimp only
  all_goals (repeat' split) <;> simp
@[simp] theorem drawRandom_mem (s : State) : (drawRandom s).2.mem = s.mem := rfl
@[simp] theorem beginProof_mem (s : State) (p : Plane) : (beginProof p s).mem = s.mem := by
  unfold beginProof; try dsimp only
  all_goals (repeat' split) <;> simp
@[simp] theorem beginDebit_mem (s : State) (p : Plane) : (beginDebit p s).mem = s.mem := by
  unfold beginDebit; try dsimp only
  all_goals (repeat' split) <;> simp
@[simp] theorem arbitrate_mem (s : State) : (arbitrate s).mem = s.mem := by
  unfold arbitrate; try dsimp only
  all_goals (repeat' split) <;> simp
@[simp] theorem addLost_mem (s : State) (p : Plane) (d : Nat) : (addLost p d s).mem = s.mem := by
  unfold addLost; try dsimp only
  all_goals (repeat' split) <;> simp
@[simp] theorem addDrawn_mem (s : State) (p : Plane) (d : Nat) : (addDrawn p d s).mem = s.mem := by
  unfold addDrawn; try dsimp only
  all_goals (repeat' split) <;> simp
@[simp] theorem addUnproven_mem (s : State) (p : Plane) (d : Nat) : (addUnproven p d s).mem = s.mem := by
  unfold addUnproven; try dsimp only
  all_goals (repeat' split) <;> simp
@[simp] theorem addConfirmed_mem (s : State) (p : Plane) (d : Nat) : (addConfirmed p d s).mem = s.mem := by
  unfold addConfirmed; try dsimp only
  all_goals (repeat' split) <;> simp
@[simp] theorem loseExcess_mem (s : State) (p : Plane) (o d : Nat) : (loseExcess p o d s).mem = s.mem := by
  unfold loseExcess; try dsimp only
  all_goals (repeat' split) <;> simp
@[simp] theorem oweSlot_mem (s : State) (p : Plane) (d : Nat) : (oweSlot p d s).mem = s.mem := by
  unfold oweSlot; try dsimp only
  all_goals (repeat' split) <;> simp
@[simp] theorem oweAbsent_mem (s : State) (a : AbsentEntry) (d : Nat) : (oweAbsent a d s).mem = s.mem := by
  unfold oweAbsent; try dsimp only
  all_goals (repeat' split) <;> simp
@[simp] theorem joinAbsent_mem (s : State) (a : AbsentEntry) : (joinAbsent a s).mem = s.mem := by
  unfold joinAbsent; try dsimp only
  all_goals (repeat' split) <;> simp
@[simp] theorem stashSlot_mem (s : State) (p : Plane) : (stashSlot p s).mem = s.mem := by
  unfold stashSlot; try dsimp only
  all_goals (repeat' split) <;> simp
@[simp] theorem routeUnattributed_mem (s : State) (p : Plane) (d : Nat) : (routeUnattributed p d s).mem = s.mem := by
  unfold routeUnattributed; try dsimp only
  all_goals (repeat' split) <;> simp
@[simp] theorem routeSideDraw_mem (s : State) (p : Plane) (d : Nat) (v : Option Serial) :
    (routeSideDraw p d v s).1.mem = s.mem := by
  unfold routeSideDraw; dsimp only
  all_goals (repeat' split) <;> simp
@[simp] theorem countReproof_mem (s : State) (p : Plane) : (countReproof p s).mem = s.mem := by
  unfold countReproof; try dsimp only
  all_goals (repeat' split) <;> simp
@[simp] theorem testEstimate_mem (s : State) (b : State) (p : Plane) : (testEstimate b p s).mem = s.mem := by
  unfold testEstimate; try dsimp only
  all_goals (repeat' split) <;> simp
@[simp] theorem testEstimates_mem (s : State) (b : State) : (testEstimates b s).mem = s.mem := by
  unfold testEstimates; exact foldl_mem _ (fun s p => testEstimate_mem s b p) _ _
@[simp] theorem completeProbe_mem (s : State) (p : Plane) (o : ProofOutcome) (n : Nat) : (completeProbe p o n s).mem = s.mem := by
  unfold completeProbe; try dsimp only
  all_goals (repeat' split) <;> simp
@[simp] theorem endAttempt_mem (s : State) (p : Plane) (o : ProofOutcome) : (endAttempt p o s).mem = s.mem := by
  unfold endAttempt; try dsimp only
  all_goals (repeat' split) <;> simp
@[simp] theorem endDebitBadly_mem (s : State) (p : Plane) (a : Nat) (b : Bool) : (endDebitBadly p a b s).mem = s.mem := by
  unfold endDebitBadly; try dsimp only
  all_goals (repeat' split) <;> simp
@[simp] theorem addUnattributedWeight_mem (s : State) (p : Plane) (n : Nat) : (addUnattributedWeight p n s).mem = s.mem := by
  unfold addUnattributedWeight; try dsimp only
  all_goals (repeat' split) <;> simp
@[simp] theorem tallyUnattributed_mem (s : State) (p : Plane) : (tallyUnattributed p s).mem = s.mem := by
  unfold tallyUnattributed; try dsimp only
  all_goals (repeat' split) <;> simp
@[simp] theorem takeUnattributed_mem (s : State) (p : Plane) (n : Nat) : (takeUnattributed p n s).mem = s.mem := by
  unfold takeUnattributed; try dsimp only
  all_goals (repeat' split) <;> simp
@[simp] theorem convertPlane_mem (s : State) (p : Plane) : (convertPlane s p).mem = s.mem := by
  unfold convertPlane; try dsimp only
  all_goals (repeat' split) <;> simp
@[simp] theorem convertUnattributed_mem (s : State) : (convertUnattributed s).mem = s.mem := by
  unfold convertUnattributed; exact foldl_mem _ convertPlane_mem _ _
@[simp] theorem attemptRemove_mem (s : State) (i : Fin 32) : (attemptRemove i s).mem = s.mem := by
  unfold attemptRemove; try dsimp only
  all_goals (repeat' split) <;> simp
@[simp] theorem completeClose_mem (s : State) (i : Fin 16) (j : Job) : (completeClose i j s).mem = s.mem := by
  unfold completeClose; try dsimp only
  all_goals (repeat' split) <;> simp
@[simp] theorem attemptClose_mem (s : State) (i : Fin 16) : (attemptClose i s).mem = s.mem := by
  unfold attemptClose; try dsimp only
  all_goals (repeat' split) <;> simp
@[simp] theorem lineArrives_mem (s : State) (i : Fin 16) : (lineArrives i s).mem = s.mem := by
  unfold lineArrives; try dsimp only
  all_goals (repeat' split) <;> simp
@[simp] theorem lineLeaves_mem (s : State) (i : Fin 16) : (lineLeaves i s).mem = s.mem := by
  unfold lineLeaves; try dsimp only
  all_goals (repeat' split) <;> simp
@[simp] theorem countEnciphered_mem (s : State) (i : Fin 16) : (countEnciphered i s).mem = s.mem := by
  unfold countEnciphered; try dsimp only
  all_goals (repeat' split) <;> simp
@[simp] theorem countSettled_mem (s : State) (i : Fin 16) : (countSettled i s).mem = s.mem := by
  unfold countSettled; try dsimp only
  all_goals (repeat' split) <;> simp
@[simp] theorem sideLeaves_mem (s : State) (i : Fin 16) : (sideLeaves i s).mem = s.mem := by
  unfold sideLeaves; try dsimp only
  all_goals (repeat' split) <;> simp
@[simp] theorem warningTest_mem (s : State) (u : Fin 64) : (warningTest u s).mem = s.mem := by
  unfold warningTest; try dsimp only
  all_goals (repeat' split) <;> simp
@[simp] theorem takeHold_mem (s : State) (u : Fin 64) (n : Nat) : (takeHold u n s).mem = s.mem := by
  unfold takeHold; try dsimp only
  all_goals (repeat' split) <;> simp
@[simp] theorem releaseHold_mem (s : State) (u : Fin 64) (n : Nat) : (releaseHold u n s).mem = s.mem := by
  unfold releaseHold; try dsimp only
  all_goals (repeat' split) <;> simp
@[simp] theorem chargeUser_mem (s : State) (u : Fin 64) (n : Nat) : (chargeUser u n s).mem = s.mem := by
  unfold chargeUser; try dsimp only
  all_goals (repeat' split) <;> simp
@[simp] theorem countBoth_mem (s : State) (u : Fin 64) (i : Fin 8) : (countBoth u i s).mem = s.mem := by
  unfold countBoth; try dsimp only
  all_goals (repeat' split) <;> simp
@[simp] theorem settleAccount_mem (s : State) (r : Side) (o : SideOutcome) (f : CloseFigures) (n : Nat) : (settleAccount r o f n s).mem = s.mem := by
  unfold settleAccount; try dsimp only
  all_goals (repeat' split) <;> simp
@[simp] theorem handPlaneDraw_mem (s : State) (r : Side) (f : CloseFigures) (p : Plane) : (handPlaneDraw r f s p).mem = s.mem := by
  unfold handPlaneDraw; try dsimp only
  all_goals (repeat' split) <;> simp
@[simp] theorem handDraw_mem (s : State) (r : Side) (f : CloseFigures) : (handDraw r f s).mem = s.mem := by
  unfold handDraw; exact foldl_mem _ (fun s p => handPlaneDraw_mem s r f p) _ _
@[simp] theorem markSettled_mem (s : State) (u : Nat) (g : Side → Side) : (markSettled u g s).mem = s.mem := by
  unfold markSettled; try dsimp only
  all_goals (repeat' split) <;> simp
@[simp] theorem closeSide_mem (s : State) (r : Side) (o : SideOutcome) : (closeSide r o s).mem = s.mem := by
  unfold closeSide; try dsimp only
  all_goals (repeat' split) <;> simp
@[simp] theorem voidSide_mem (s : State) (r : Side) : (voidSide r s).mem = s.mem := by
  unfold voidSide; try dsimp only
  all_goals (repeat' split) <;> simp
@[simp] theorem countSideBlanked_mem (s : State) : (countSideBlanked s).mem = s.mem := by
  unfold countSideBlanked; try dsimp only
  all_goals (repeat' split) <;> simp
@[simp] theorem countBlank_mem (s : State) (c : BlankCount) : (countBlank c s).mem = s.mem := by
  unfold countBlank; try dsimp only
  all_goals (repeat' split) <;> simp
@[simp] theorem meterToSide_mem (s : State) (m : Side) (r : Readout) (l : Line) : (meterToSide m r l s).mem = s.mem := by
  unfold meterToSide; try dsimp only
  all_goals (repeat' split) <;> simp
@[simp] theorem handOver_mem (s : State) (r : Readout) (l : Line) : (handOver r l s).mem = s.mem := by
  unfold handOver; try dsimp only
  all_goals (repeat' split) <;> simp
@[simp] theorem switchPending_mem (s : State) : (switchPending s).mem = s.mem := by
  unfold switchPending; try dsimp only
  all_goals (repeat' split) <;> simp
@[simp] theorem startSide_mem (s : State) (r : Side) : (startSide r s).mem = s.mem := by
  unfold startSide; try dsimp only
  all_goals (repeat' split) <;> simp
@[simp] theorem takeMark_mem (s : State) : (takeMark s).mem = s.mem := by
  unfold takeMark; try dsimp only
  all_goals (repeat' split) <;> simp
@[simp] theorem towardPort_mem (s : State) (r : Req) : (towardPort r s).mem = s.mem := by
  unfold towardPort; try dsimp only
  all_goals (repeat' split) <;> simp
@[simp] theorem issueRead_mem (s : State) (i : Fin 8) : (issueRead i s).mem = s.mem := by
  unfold issueRead; try dsimp only
  all_goals (repeat' split) <;> simp
@[simp] theorem giveEntry_mem (s : State) (i : Fin 8) (r : Req) : (giveEntry i r s).mem = s.mem := by
  unfold giveEntry; try dsimp only
  all_goals (repeat' split) <;> simp
@[simp] theorem claimMerge_mem (s : State) (r : Req) : (claimMerge r s).mem = s.mem := by
  unfold claimMerge; try dsimp only
  all_goals (repeat' split) <;> simp
@[simp] theorem setQueue_mem (s : State) (l : Nat) (q : List Req) : (setQueue l q s).mem = s.mem := by
  unfold setQueue; try dsimp only
  all_goals (repeat' split) <;> simp
@[simp] theorem dropClaim_mem (s : State) (l : Nat) : (dropClaim l s).mem = s.mem := by
  unfold dropClaim; try dsimp only
  all_goals (repeat' split) <;> simp
@[simp] theorem refillEntry_mem (s : State) (i : Fin 8) : (refillEntry i s).mem = s.mem := by
  unfold refillEntry; try dsimp only
  all_goals (repeat' split) <;> simp
@[simp] theorem serveQueue_mem (s : State) (i : Fin 8) (l : Nat) : (serveQueue i l s).mem = s.mem := by
  unfold serveQueue; try dsimp only
  all_goals (repeat' split) <;> simp
@[simp] theorem leaveLineCount_mem (s : State) (i : Fin 16) : (leaveLineCount i s).mem = s.mem := by
  unfold leaveLineCount; try dsimp only
  all_goals (repeat' split) <;> simp
@[simp] theorem wakeEntries_mem (s : State) (l : Nat) : (wakeEntries l s).mem = s.mem := by
  unfold wakeEntries
  refine foldl_mem _ (fun s i => ?_) _ _
  all_goals (repeat' split) <;> simp
@[simp] theorem grantMergeRead_mem (s : State) (i : Fin 8) : (grantMergeRead i s).mem = s.mem := by
  unfold grantMergeRead; try dsimp only
  all_goals (repeat' split) <;> simp
@[simp] theorem attemptRemoveOf_mem (s : State) (r : Req) : (attemptRemoveOf r s).mem = s.mem := by
  unfold attemptRemoveOf; try dsimp only
  all_goals (repeat' split) <;> simp
@[simp] theorem takeOrder_mem (s : State) (r : Req) : (takeOrder r s).mem = s.mem := by
  unfold takeOrder; try dsimp only
  all_goals (repeat' split) <;> simp
@[simp] theorem holdWrite_mem (s : State) (r : Req) : (holdWrite r s).mem = s.mem := rfl
@[simp] theorem takeHeld_mem (s : State) : (takeHeld s).mem = s.mem := by
  unfold takeHeld; try dsimp only
  split
  · rfl
  · split
    · rw [foldl_mem _ (fun s q => towardPort_mem s q), takeOrder_mem]
    · rfl
@[simp] theorem takeHeldUpTo_mem (s : State) (n : Nat) : (takeHeldUpTo n s).mem = s.mem := by
  induction n generalizing s with
  | zero => rfl
  | succ n ih => unfold takeHeldUpTo; (repeat' split) <;> simp [ih]
@[simp] theorem countRefusal_mem (s : State) (p : Place) : (countRefusal p s).mem = s.mem := by
  unfold countRefusal; try dsimp only
  all_goals (repeat' split) <;> simp
@[simp] theorem offerIndex_mem (s : State) (a : Access) : (offerIndex a s).mem = s.mem := by
  unfold offerIndex; try dsimp only
  all_goals (repeat' split) <;> simp
@[simp] theorem countArrival_mem (s : State) (r : Req) : (countArrival r s).mem = s.mem := by
  unfold countArrival; try dsimp only
  all_goals (repeat' split) <;> simp
@[simp] theorem admitRequest_mem (s : State) (r : Req) : (admitRequest r s).mem = s.mem := by
  unfold admitRequest; try dsimp only
  all_goals (repeat' split) <;> simp
@[simp] theorem handleRequest_mem (s : State) (r : Req) : (handleRequest r s).mem = s.mem := by
  unfold handleRequest; try dsimp only
  all_goals (repeat' split) <;> simp
@[simp] theorem arrive_mem (s : State) (q : LineReq) : (arrive q s).mem = s.mem := by
  unfold arrive; try dsimp only
  all_goals (repeat' split) <;> simp
@[simp] theorem present_mem (s : State) (q : LineReq) : (present q s).mem = s.mem := by
  unfold present; try dsimp only
  all_goals (repeat' split) <;> simp
@[simp] theorem openChannel_mem (s : State) : (openChannel s).mem = s.mem := by
  unfold openChannel
  split
  · exact foldl_mem _ (fun s q => arrive_mem s q) _ _
  · rfl
@[simp] theorem issueReturn_mem (s : State) : (issueReturn s).mem = s.mem := by
  unfold issueReturn; try dsimp only
  all_goals (repeat' split) <;> simp
@[simp] theorem tellSideList_mem (s : State) : (tellSideList s).mem = s.mem := by
  unfold tellSideList; try dsimp only
  all_goals (repeat' split) <;> simp
@[simp] theorem tellOrderTaker_mem (s : State) : (tellOrderTaker s).mem = s.mem := by
  unfold tellOrderTaker; try dsimp only
  all_goals (repeat' split) <;> simp
@[simp] theorem tellExport_mem (s : State) : (tellExport s).mem = s.mem := by
  unfold tellExport; try dsimp only
  all_goals (repeat' split) <;> simp
@[simp] theorem tellOwner_mem (s : State) (o : Owner) : (tellOwner o s).mem = s.mem := by
  unfold tellOwner; try dsimp only
  all_goals (repeat' split) <;> simp
@[simp] theorem issueHeader_mem (s : State) (b : State) : (issueHeader b s).mem = s.mem := by
  unfold issueHeader; try dsimp only
  all_goals (repeat' split) <;> simp
@[simp] theorem issueSummary_mem (s : State) (b : State) : (issueSummary b s).mem = s.mem := by
  unfold issueSummary; try dsimp only
  all_goals (repeat' split) <;> simp
@[simp] theorem abandonExchange_mem (s : State) : (abandonExchange s).mem = s.mem := by
  unfold abandonExchange; try dsimp only
  all_goals (repeat' split) <;> simp
@[simp] theorem resetSide_mem (s : State) (r : Side) : (resetSide s r).mem = s.mem := by
  unfold resetSide; try dsimp only
  all_goals (repeat' split) <;> simp
@[simp] theorem releaseContext_mem (s : State) (r : Side) (p : Plane) : (releaseContext r s p).mem = s.mem := by
  unfold releaseContext; try dsimp only
  all_goals (repeat' split) <;> simp
@[simp] theorem resetSides_mem (s : State) : (resetSides s).mem = s.mem := by
  unfold resetSides
  simp only [convertUnattributed_mem]
  split
  · rw [foldl_mem _ (fun s p => releaseContext_mem s _ p) _ _, foldl_mem _ resetSide_mem _ _]
  · rw [foldl_mem _ resetSide_mem _ _]
@[simp] theorem resetTables_mem (s : State) (l : List Result) : (resetTables l s).mem = s.mem := by
  unfold resetTables; try dsimp only
  all_goals (repeat' split) <;> simp
@[simp] theorem resetRing_mem (s : State) : (resetRing s).mem = s.mem := by
  unfold resetRing; try dsimp only
  all_goals (repeat' split) <;> simp
@[simp] theorem warmReset_mem (s : State) (w : ResetWait) : (warmReset w s).mem = s.mem := by
  unfold warmReset; try dsimp only
  all_goals (repeat' split) <;> simp
@[simp] theorem noteDrain_mem (s : State) : (noteDrain s).mem = s.mem := by
  unfold noteDrain; try dsimp only
  all_goals (repeat' split) <;> simp
@[simp] theorem tryReset_mem (s : State) : (tryReset s).mem = s.mem := by
  unfold tryReset; try dsimp only
  all_goals (repeat' split) <;> simp
@[simp] theorem concludeEvent_mem (s : State) (b : State) : (concludeEvent b s).mem = s.mem := by
  unfold concludeEvent; try dsimp only
  all_goals (repeat' split) <;> simp

end Sys2Proof.Machine
end

