-- ==== Sys2Proof/Laws/Ledger.lean ====
section
/-! SUPPORT. The end of an event leaves the ledger alone: what each of its stages can do, said once. -/

namespace Sys2Proof.Machine

/-! ### Slots whose standing stays -/

/-- Replacing a slot record by one of the same standing leaves the standings as they are. -/
theorem map_standing_put (v : Vector CartridgeSlot 4) (p : Plane) (c : CartridgeSlot)
    (h : c.standing = v[p].standing) :
    (put v p c).map CartridgeSlot.standing = v.map CartridgeSlot.standing := by
  ext i hi
  all_goals
    simp only [put, Vector.getElem_map, Vector.getElem_set]
    split
    · subst_vars; rw [h]; rfl
    · rfl

theorem onSlot_ledger (s : State) (p : Plane) (f : CartridgeSlot → CartridgeSlot)
    (h : (f s.cartridges.slots[p]).standing = s.cartridges.slots[p].standing) :
    (s.onSlot p f).ledger = s.ledger := by
  simp only [State.ledger, State.onSlot]
  rw [map_standing_put _ _ _ h]

/-! ### The stages of the end of an event -/

@[simp] theorem takeLine_ledger (s : State) (p : Plane) (m : LineMessage) :
    (takeLine p m s).ledger = s.ledger := rfl

@[simp] theorem beginProof_ledger (s : State) (p : Plane) : (beginProof p s).ledger = s.ledger := by
  unfold beginProof
  rw [takeLine_ledger]
  exact onSlot_ledger _ _ _ rfl

@[simp] theorem beginDebit_ledger (s : State) (p : Plane) : (beginDebit p s).ledger = s.ledger := by
  unfold beginDebit
  rw [takeLine_ledger]
  exact onSlot_ledger _ _ _ rfl

@[simp] theorem arbitrate_ledger (s : State) : (arbitrate s).ledger = s.ledger := by
  unfold arbitrate
  repeat' split
  all_goals simp

@[simp] theorem arbitrate_orders (s : State) : (arbitrate s).orders = s.orders := by
  unfold arbitrate
  repeat' split
  all_goals rfl

@[simp] theorem arbitrate_channel (s : State) : (arbitrate s).channel = s.channel := by
  unfold arbitrate
  repeat' split
  all_goals rfl

@[simp] theorem arbitrate_port (s : State) : (arbitrate s).port = s.port := by
  unfold arbitrate
  repeat' split
  all_goals rfl

@[simp] theorem moveCompleted_ledger (s : State) : (moveCompleted s).ledger = s.ledger := rfl

@[simp] theorem issueReturn_ledger (s : State) : (issueReturn s).ledger = s.ledger := by
  unfold issueReturn
  repeat' split
  all_goals rfl

@[simp] theorem issueReturn_orders (s : State) : (issueReturn s).orders = s.orders := by
  unfold issueReturn
  repeat' split
  all_goals rfl

@[simp] theorem issueReturn_channel (s : State) : (issueReturn s).channel = s.channel := by
  unfold issueReturn
  repeat' split
  all_goals rfl

@[simp] theorem issueHeader_ledger (b s : State) : (issueHeader b s).ledger = s.ledger := by
  unfold issueHeader
  repeat' split
  all_goals rfl

@[simp] theorem issueHeader_orders (b s : State) : (issueHeader b s).orders = s.orders := by
  unfold issueHeader
  repeat' split
  all_goals rfl

@[simp] theorem issueHeader_channel (b s : State) : (issueHeader b s).channel = s.channel := by
  unfold issueHeader
  repeat' split
  all_goals rfl

@[simp] theorem issueSummary_ledger (b s : State) : (issueSummary b s).ledger = s.ledger := by
  unfold issueSummary
  repeat' split
  all_goals rfl

@[simp] theorem issueSummary_orders (b s : State) : (issueSummary b s).orders = s.orders := by
  unfold issueSummary
  repeat' split
  all_goals rfl

@[simp] theorem issueSummary_channel (b s : State) : (issueSummary b s).channel = s.channel := by
  unfold issueSummary
  repeat' split
  all_goals rfl

@[simp] theorem evaluateAttention_ledger (s : State) : (evaluateAttention s).ledger = s.ledger := rfl

@[simp] theorem testEstimate_orders (b s : State) (p : Plane) : (testEstimate b p s).orders = s.orders := by
  unfold testEstimate
  dsimp only
  split <;> simp

@[simp] theorem testEstimate_channel (b s : State) (p : Plane) : (testEstimate b p s).channel = s.channel := by
  unfold testEstimate
  dsimp only
  split <;> simp

@[simp] theorem testEstimates_orders (b s : State) : (testEstimates b s).orders = s.orders := by
  simp [testEstimates, allPlanes]

@[simp] theorem testEstimates_channel (b s : State) : (testEstimates b s).channel = s.channel := by
  simp [testEstimates, allPlanes]

/-- A slot whose serial, estimate and low mark stand as before raises no toner notice (R158). -/
theorem testEstimate_same (b s : State) (p : Plane)
    (hc : b.cartridges.slots[p].serial = s.cartridges.slots[p].serial)
    (he : b.cartridges.slots[p].estimate = s.cartridges.slots[p].estimate)
    (hl : b.cartridges.policy.lowMark = s.cartridges.policy.lowMark) : testEstimate b p s = s := by
  unfold testEstimate
  rw [he, hl, show newlyProven b p s = false by rw [newlyProven, hc]; simp]
  cases s.cartridges.slots[p].estimate <;> simp [State.raiseIf]

/-- Serials, estimates and a low mark that stand as before raise no toner notice (R158). -/
theorem testEstimates_same (b s : State)
    (hc : ∀ p : Plane, b.cartridges.slots[p].serial = s.cartridges.slots[p].serial)
    (he : ∀ p : Plane, b.cartridges.slots[p].estimate = s.cartridges.slots[p].estimate)
    (hl : b.cartridges.policy.lowMark = s.cartridges.policy.lowMark) : testEstimates b s = s := by
  simp only [testEstimates, allPlanes, List.foldl_cons, List.foldl_nil]
  rw [testEstimate_same b s _ (hc _) (he _) hl, testEstimate_same b s _ (hc _) (he _) hl,
    testEstimate_same b s _ (hc _) (he _) hl, testEstimate_same b s _ (hc _) (he _) hl]

/-- The drain is noted only in a reset wait (R174). -/
theorem noteDrain_of_no_wait (s : State) (h : s.orders.resetWait = none) : noteDrain s = s := by
  simp [noteDrain, h]

/-- The reset event takes place only in a reset wait (R174). -/
theorem tryReset_of_no_wait (s : State) (h : s.orders.resetWait = none) : tryReset s = s := by
  simp [tryReset, h]

/-- Outside a reset wait the end of an event moves on the ledger only by the tests of the estimates. -/
theorem concludeEvent_ledger (b s : State) (h : s.orders.resetWait = none) :
    (concludeEvent b s).ledger = (testEstimates b s).ledger := by
  unfold concludeEvent
  simp [noteDrain_of_no_wait s h, tryReset_of_no_wait s h]

/-- Outside a reset wait the end of an event leaves the ledger alone when serials, estimates and the low mark stand. -/
theorem concludeEvent_ledger_same (b s : State) (h : s.orders.resetWait = none)
    (hc : ∀ p : Plane, b.cartridges.slots[p].serial = s.cartridges.slots[p].serial)
    (he : ∀ p : Plane, b.cartridges.slots[p].estimate = s.cartridges.slots[p].estimate)
    (hl : b.cartridges.policy.lowMark = s.cartridges.policy.lowMark) :
    (concludeEvent b s).ledger = s.ledger := by
  rw [concludeEvent_ledger b s h, testEstimates_same b s hc he hl]

/-- Outside a reset wait the end of an event does to the order taker what R169 and R171 give. -/
theorem concludeEvent_orders (b s : State) (h : s.orders.resetWait = none) :
    (concludeEvent b s).orders = (moveCompleted s).orders := by
  unfold concludeEvent
  simp only [noteDrain_of_no_wait s h, tryReset_of_no_wait s h, evaluateAttention_orders, issueSummary_orders,
    issueHeader_orders, issueReturn_orders]
  simp only [moveCompleted, arbitrate_orders, testEstimates_orders]

/-- Outside a reset wait the end of an event leaves the channel front alone. -/
theorem concludeEvent_channel (b s : State) (h : s.orders.resetWait = none) :
    (concludeEvent b s).channel = s.channel := by
  unfold concludeEvent
  simp only [noteDrain_of_no_wait s h, tryReset_of_no_wait s h, evaluateAttention_channel, issueSummary_channel,
    issueHeader_channel, issueReturn_channel, moveCompleted_channel, arbitrate_channel, testEstimates_channel]

/-- Two states of one ledger have the same slots but for their work on the line. -/
theorem standing_of_ledger {s t : State} (h : s.ledger = t.ledger) (p : Plane) :
    s.cartridges.slots[p].standing = t.cartridges.slots[p].standing := by
  have hv : s.cartridges.slots.map CartridgeSlot.standing = t.cartridges.slots.map CartridgeSlot.standing :=
    congrArg Ledger.slots h
  have hp : (s.cartridges.slots.map CartridgeSlot.standing)[p] = (t.cartridges.slots.map CartridgeSlot.standing)[p] := by
    rw [hv]
  simpa only [Fin.getElem_fin, Vector.getElem_map] using hp

/-- Two states of one ledger have the same estimates. -/
theorem estimate_of_ledger {s t : State} (h : s.ledger = t.ledger) (p : Plane) :
    s.cartridges.slots[p].estimate = t.cartridges.slots[p].estimate := by
  have hs := congrArg CartridgeSlot.estimate (standing_of_ledger h p)
  exact hs

/-- Two states of one ledger have the same serials. -/
theorem serial_of_ledger {s t : State} (h : s.ledger = t.ledger) (p : Plane) :
    s.cartridges.slots[p].serial = t.cartridges.slots[p].serial := by
  have hs := congrArg CartridgeSlot.serial (standing_of_ledger h p)
  exact hs

end Sys2Proof.Machine
end

