-- ==== Sys2Proof/Laws/Orders.lean ====
section
/-! SUPPORT. The execution of an order, said once for every order: the entry leaves the queue, the result enters the
holding list, and the ledger is what the order's own effect leaves. -/

namespace Sys2Proof.Machine

/-! ### The entry leaves the queue -/

@[simp] theorem towardPort_ledger (r : Req) (s : State) : (towardPort r s).ledger = s.ledger := by
  unfold towardPort
  split <;> rfl

@[simp] theorem towardPort_orders (r : Req) (s : State) : (towardPort r s).orders = s.orders := by
  unfold towardPort
  split <;> rfl

@[simp] theorem takeOrder_ledger (r : Req) (s : State) : (takeOrder r s).ledger = s.ledger := by
  unfold takeOrder
  split
  · rw [towardPort_ledger]
    rfl
  · simp

/-- Taking an order appends at most one entry to the queue and changes nothing else of the order taker. -/
theorem takeOrder_orders (r : Req) (s : State) :
    ∃ more, (takeOrder r s).orders = { s.orders with queue := s.orders.queue ++ more } := by
  unfold takeOrder
  split
  · exact ⟨_, by rw [towardPort_orders]⟩
  · exact ⟨[], by simp⟩

/-- What no request changes on its way to the port, no list of them changes. -/
theorem foldl_towardPort {α : Type} (f : State → α) (h : ∀ r s, f (towardPort r s) = f s) (l : List Req) (s : State) :
    f (l.foldl (fun s q => towardPort q s) s) = f s := by
  induction l generalizing s with
  | nil => rfl
  | cons q l ih => rw [List.foldl_cons, ih, h]

/-- What neither the channel front, the order taker nor the way to the port shows, the taking of a waiting write keeps. -/
theorem takeHeld_keeps {α : Type} (f : State → α) (hc : ∀ s c, f { s with channel := c } = f s)
    (ho : ∀ s o, f { s with orders := o } = f s) (hp : ∀ r s, f (towardPort r s) = f s) (s : State) :
    f (takeHeld s) = f s := by
  unfold takeHeld
  split
  · rfl
  · split
    · dsimp only
      rw [foldl_towardPort f hp]
      unfold takeOrder
      split
      · rw [hp, ho, hc]
      · rw [hp, hc]
    · rfl

@[simp] theorem takeHeld_ledger (s : State) : (takeHeld s).ledger = s.ledger := by
  unfold takeHeld
  split
  · rfl
  · split
    · dsimp only
      rw [foldl_towardPort _ towardPort_ledger, takeOrder_ledger]; rfl
    · rfl

/-- Taking the oldest waiting write appends entries to the queue and changes nothing else of the order taker. -/
theorem takeHeld_orders (s : State) :
    ∃ more, (takeHeld s).orders = { s.orders with queue := s.orders.queue ++ more } := by
  unfold takeHeld
  split
  · exact ⟨[], by simp⟩
  · split
    · dsimp only
      rw [foldl_towardPort State.orders towardPort_orders]
      exact takeOrder_orders _ _
    · exact ⟨[], by simp⟩

@[simp] theorem popOrder_ledger (rest : List OrderEntry) (s : State) : (popOrder rest s).ledger = s.ledger := by
  unfold popOrder
  rw [takeHeld_ledger]
  rfl

/-- The entry leaves the queue; what a waiting write adds comes behind the rest (R166). -/
theorem popOrder_orders (rest : List OrderEntry) (s : State) :
    ∃ more, (popOrder rest s).orders = { s.orders with queue := rest ++ more } := by
  obtain ⟨more, h⟩ := takeHeld_orders { s with orders := { s.orders with queue := rest } }
  exact ⟨more, by unfold popOrder; rw [h]⟩

/-- With no waiting write the queue is what is left of it. -/
theorem popOrder_of_none (rest : List OrderEntry) (s : State) (h : s.channel.heldOrders = []) :
    popOrder rest s = { s with orders := { s.orders with queue := rest } } := by
  unfold popOrder takeHeld
  simp [h]

/-- What leaves the queue, in the words of `LeavesQueue`. -/
theorem popOrder_leaves (rest : List OrderEntry) (s : State) : LeavesQueue s (popOrder rest s) rest := by
  refine ⟨?_, fun h => by rw [popOrder_of_none rest s h]⟩
  obtain ⟨more, h⟩ := popOrder_orders rest s
  rw [h]
  exact List.prefix_append _ _

/-! ### What leaving the queue keeps -/

/-- A table that the ledger shows stays as the entry leaves the queue. -/
theorem popOrder_table {α : Type} (f : Ledger → α) (rest : List OrderEntry) (s : State) :
    f (popOrder rest s).ledger = f s.ledger := by rw [popOrder_ledger]

@[simp] theorem popOrder_pending (rest : List OrderEntry) (s : State) :
    (popOrder rest s).pending = s.pending := popOrder_table Ledger.pending rest s

@[simp] theorem popOrder_mem (rest : List OrderEntry) (s : State) :
    (popOrder rest s).mem = s.mem := popOrder_table Ledger.mem rest s

@[simp] theorem popOrder_classifier (rest : List OrderEntry) (s : State) :
    (popOrder rest s).classifier = s.classifier := popOrder_table Ledger.classifier rest s

@[simp] theorem popOrder_jobs (rest : List OrderEntry) (s : State) :
    (popOrder rest s).jobs = s.jobs := popOrder_table Ledger.jobs rest s

@[simp] theorem popOrder_store (rest : List OrderEntry) (s : State) :
    (popOrder rest s).store = s.store := popOrder_table Ledger.store rest s

@[simp] theorem popOrder_sides (rest : List OrderEntry) (s : State) :
    (popOrder rest s).sides = s.sides := popOrder_table Ledger.sides rest s

@[simp] theorem popOrder_accounts (rest : List OrderEntry) (s : State) :
    (popOrder rest s).accounts = s.accounts := popOrder_table Ledger.accounts rest s

@[simp] theorem popOrder_merges (rest : List OrderEntry) (s : State) :
    (popOrder rest s).protection.table = s.protection.table := popOrder_table Ledger.merges rest s

@[simp] theorem popOrder_claims (rest : List OrderEntry) (s : State) :
    (popOrder rest s).protection.waitList = s.protection.waitList := popOrder_table Ledger.claims rest s

@[simp] theorem popOrder_unattributed (rest : List OrderEntry) (s : State) :
    (popOrder rest s).unattributed = s.unattributed := popOrder_table Ledger.unattributed rest s

@[simp] theorem popOrder_fuses (rest : List OrderEntry) (s : State) :
    (popOrder rest s).fuses = s.fuses := popOrder_table Ledger.fuses rest s

@[simp] theorem popOrder_cartridges (rest : List OrderEntry) (s : State) : (popOrder rest s).cartridges = s.cartridges := by
  unfold popOrder
  rw [takeHeld_keeps State.cartridges (fun _ _ => rfl) (fun _ _ => rfl) fun r s => by unfold towardPort; split <;> rfl]

@[simp] theorem popOrder_writer (rest : List OrderEntry) (s : State) : (popOrder rest s).writer = s.writer := by
  unfold popOrder
  rw [takeHeld_keeps State.writer (fun _ _ => rfl) (fun _ _ => rfl) fun r s => by unfold towardPort; split <;> rfl]

@[simp] theorem popOrder_draws (rest : List OrderEntry) (s : State) : (popOrder rest s).draws = s.draws := by
  unfold popOrder
  rw [takeHeld_keeps State.draws (fun _ _ => rfl) (fun _ _ => rfl) fun r s => by unfold towardPort; split <;> rfl]

@[simp] theorem popOrder_parked (rest : List OrderEntry) (s : State) :
    (popOrder rest s).orders.parked = s.orders.parked := by
  obtain ⟨more, h⟩ := popOrder_orders rest s
  rw [h]

@[simp] theorem popOrder_completed (rest : List OrderEntry) (s : State) :
    (popOrder rest s).orders.completed = s.orders.completed := by
  obtain ⟨more, h⟩ := popOrder_orders rest s
  rw [h]

@[simp] theorem popOrder_holding (rest : List OrderEntry) (s : State) :
    (popOrder rest s).orders.holding = s.orders.holding := by
  obtain ⟨more, h⟩ := popOrder_orders rest s
  rw [h]

@[simp] theorem popOrder_resetWait (rest : List OrderEntry) (s : State) :
    (popOrder rest s).orders.resetWait = s.orders.resetWait := by
  obtain ⟨more, h⟩ := popOrder_orders rest s
  rw [h]

@[simp] theorem popOrder_resetSequence (rest : List OrderEntry) (s : State) :
    (popOrder rest s).orders.resetSequence = s.orders.resetSequence := by
  obtain ⟨more, h⟩ := popOrder_orders rest s
  rw [h]

/-- A number below the size of a table names the record of that index. -/
theorem indexOf_val {n : Nat} (i : Fin n) : indexOf n i.val = some i := by simp [indexOf]

theorem indexOf_none {n v : Nat} (h : n ≤ v) : indexOf n v = none := by simp [indexOf]; omega

/-! ### The execution -/

/-- An entry of the command's kind at the head of an unpaused taker's queue is executed (R167). -/
theorem runOrder_eq {s : State} {k : Byte} {e : OrderEntry} {rest : List OrderEntry} (h : s.Executes k e rest)
    (accepts : OrderEntry → Bool) (body : OrderEntry → State → OrderAnswer × State) (ha : accepts e = true) :
    runOrder accepts body s = .next (concludeEvent s (giveAnswer e (body e (popOrder rest s)))) := by
  unfold runOrder
  rw [h.queue]
  simp [eventIf, event, State.takerReady, h.room, h.noWait, h.noSequence, ha]

/-- The entry's kind is the command's. -/
theorem State.Executes.isKind {s : State} {k : Byte} {e : OrderEntry} {rest : List OrderEntry}
    (h : s.Executes k e rest) : Machine.isKind k e = true := by
  simp [Machine.isKind, h.kind]

/-- The answer enters the holding list and changes nothing else. -/
@[simp] theorem giveAnswer_ledger (e : OrderEntry) (r : OrderAnswer × State) :
    (giveAnswer e r).ledger = r.2.ledger := by
  unfold giveAnswer
  split <;> rfl

/-- The reason and the values of an answer that is a result. -/
def OrderAnswer.parts : OrderAnswer → Option (Option Reason × List Val)
  | .done values => some (none, values)
  | .refused reason values => some (some reason, values)
  | .parked => none

theorem giveAnswer_of_parts (e : OrderEntry) (r : OrderAnswer × State) (reason : Option Reason) (values : List Val)
    (h : r.1.parts = some (reason, values)) : giveAnswer e r = r.2.hold e reason values := by
  obtain ⟨a, s⟩ := r
  cases a <;> simp only [OrderAnswer.parts, Option.some.injEq, Prod.mk.injEq, reduceCtorEq] at h
  · obtain ⟨rfl, rfl⟩ := h; rfl
  · obtain ⟨rfl, rfl⟩ := h; rfl

/-- THE LAW OF AN EXECUTED ORDER. When the body of an order answers with a result and leaves the order taker, the serials
and the estimates alone, the command answers a next state in which the entry has left the queue, the result is held, and
the ledger is the one the body leaves. -/
theorem runOrder_answered {s : State} {k : Byte} {e : OrderEntry} {rest : List OrderEntry} (h : s.Executes k e rest)
    (accepts : OrderEntry → Bool) (body : OrderEntry → State → OrderAnswer × State) (ha : accepts e = true)
    (reason : Option Reason) (values : List Val)
    (hr : (body e (popOrder rest s)).1.parts = some (reason, values))
    (ho : (body e (popOrder rest s)).2.orders = (popOrder rest s).orders)
    (hc : ∀ p : Plane, s.cartridges.slots[p].serial = (body e (popOrder rest s)).2.cartridges.slots[p].serial)
    (he : ∀ p : Plane, s.cartridges.slots[p].estimate = (body e (popOrder rest s)).2.cartridges.slots[p].estimate)
    (hl : s.cartridges.policy.lowMark = (body e (popOrder rest s)).2.cartridges.policy.lowMark) :
    ∃ t, runOrder accepts body s = .next t ∧ Answered s t e rest reason values ∧
      t.ledger = (body e (popOrder rest s)).2.ledger := by
  refine ⟨_, runOrder_eq h accepts body ha, ?_, ?_⟩
  · obtain ⟨more, hp⟩ := popOrder_orders rest s
    rw [giveAnswer_of_parts e _ reason values hr]
    have hw : ((body e (popOrder rest s)).2.hold e reason values).orders.resetWait = none := by
      simp [State.hold, ho, hp, h.noWait]
    have ht := concludeEvent_orders s _ hw
    have hleaves := popOrder_leaves rest s
    refine ⟨⟨?_, fun hh => ?_⟩, ?_, ?_⟩
    · rw [ht]; simpa [moveCompleted, State.hold, ho] using hleaves.1
    · rw [ht]; simpa [moveCompleted, State.hold, ho] using hleaves.2 hh
    · rw [ht]; simp [moveCompleted, State.hold, ho, hp]
    · rw [ht]; simp [moveCompleted, State.hold, ho, hp]
  · rw [giveAnswer_of_parts e _ reason values hr]
    have hw : ((body e (popOrder rest s)).2.hold e reason values).orders.resetWait = none := by
      obtain ⟨more, hp⟩ := popOrder_orders rest s
      simp [State.hold, ho, hp, h.noWait]
    rw [concludeEvent_ledger_same s _ hw hc he hl]
    rfl

/-- A body that changes nothing. -/
theorem runOrder_unchanged {s : State} {k : Byte} {e : OrderEntry} {rest : List OrderEntry} (h : s.Executes k e rest)
    (accepts : OrderEntry → Bool) (body : OrderEntry → State → OrderAnswer × State) (ha : accepts e = true)
    (reason : Option Reason) (values : List Val)
    (hr : (body e (popOrder rest s)).1.parts = some (reason, values))
    (hs : (body e (popOrder rest s)).2 = popOrder rest s) :
    ∃ t, runOrder accepts body s = .next t ∧ Answered s t e rest reason values ∧ t.ledger = s.ledger := by
  obtain ⟨t, h1, h2, h3⟩ := runOrder_answered h accepts body ha reason values hr (by rw [hs])
    (fun p => by rw [hs]; exact (serial_of_ledger (popOrder_ledger rest s) p).symm)
    (fun p => by rw [hs]; exact (estimate_of_ledger (popOrder_ledger rest s) p).symm)
    (by rw [hs]; exact (congrArg (fun l : Ledger => l.policy.lowMark) (popOrder_ledger rest s)).symm)
  exact ⟨t, h1, h2, by rw [h3, hs, popOrder_ledger]⟩

end Sys2Proof.Machine
end

