-- ==== Sys2Proof/Laws/Memory.lean ====
section
/-! SUPPORT. The laws of page memory: what a read gives after a write, and that every write keeps the canonical
form. -/

namespace Sys2Proof.Machine

/-! ### One byte -/

/-- Below every listed address a read gives the value of an unlisted one. -/
theorem readByte_of_lt (m : List Host.Cell) (a : Nat) (h : ∀ c ∈ m, a < c.1) : readByte m a = unlisted := by
  induction m with
  | nil => rfl
  | cons c rest ih =>
    obtain ⟨k, v⟩ := c
    have hk : a < k := h (k, v) (by simp)
    simp only [readByte]
    rw [if_neg (by omega), ih fun d hd => h d (by simp [hd])]

/-- A written byte lists no address but its own and those that were listed. -/
theorem mem_writeByte (m : List Host.Cell) (a : Nat) (b : Byte) (c : Host.Cell) (h : c ∈ writeByte m a b) :
    c = (a, b) ∧ b ≠ unlisted ∨ c ∈ m := by
  induction m with
  | nil => simp only [writeByte] at h; split at h <;> simp_all
  | cons d rest ih =>
    obtain ⟨k, v⟩ := d
    simp only [writeByte] at h
    split at h
    · split at h
      · exact .inr h
      · simp_all
    · split at h
      · split at h
        · exact .inr (by simp [h])
        · simp_all; tauto
      · rcases List.mem_cons.mp h with h | h
        · simp [h]
        · rcases ih h with h | h <;> simp [h]

/-- A write of one byte keeps the canonical form. -/
theorem writeByte_wf (m : List Host.Cell) (a : Nat) (b : Byte) (h : MemoryWf m) : MemoryWf (writeByte m a b) := by
  induction m with
  | nil =>
    simp only [writeByte]
    split
    · exact ⟨List.Pairwise.nil, by simp⟩
    · rename_i hb; exact ⟨by simp, by simpa using hb⟩
  | cons d rest ih =>
    obtain ⟨k, v⟩ := d
    obtain ⟨hp, hv⟩ := h
    rw [List.pairwise_cons] at hp
    have hrest : MemoryWf rest := ⟨hp.2, fun c hc => hv c (by simp [hc])⟩
    simp only [writeByte]
    split
    · rename_i hlt
      split
      · exact ⟨List.pairwise_cons.mpr hp, hv⟩
      · rename_i hb
        refine ⟨List.pairwise_cons.mpr ⟨fun c hc => ?_, List.pairwise_cons.mpr hp⟩, fun c hc => ?_⟩
        · rcases List.mem_cons.mp hc with rfl | hc
          · exact hlt
          · exact Nat.lt_trans hlt (hp.1 c hc)
        · rcases List.mem_cons.mp hc with rfl | hc
          · exact hb
          · exact hv c hc
    · split
      · rename_i _ heq
        subst heq
        split
        · exact hrest
        · rename_i hb
          refine ⟨List.pairwise_cons.mpr hp, fun c hc => ?_⟩
          rcases List.mem_cons.mp hc with rfl | hc
          · exact hb
          · exact hv c (by simp [hc])
      · rename_i h1 h2
        obtain ⟨ihp, ihv⟩ := ih hrest
        refine ⟨List.pairwise_cons.mpr ⟨fun c hc => ?_, ihp⟩, fun c hc => ?_⟩
        · rcases mem_writeByte rest a b c hc with ⟨rfl, -⟩ | hc
          · simp; omega
          · exact hp.1 c hc
        · rcases List.mem_cons.mp hc with rfl | hc
          · exact hv _ (by simp)
          · exact ihv c hc

/-- THE LAW OF A WRITTEN BYTE. A read at the address written gives the byte, and a read elsewhere gives what it
gave. -/
theorem readByte_writeByte (m : List Host.Cell) (a : Nat) (b : Byte) (h : MemoryWf m) (x : Nat) :
    readByte (writeByte m a b) x = if x = a then b else readByte m x := by
  induction m with
  | nil => simp only [writeByte]; split <;> simp [readByte, *]
  | cons d rest ih =>
    obtain ⟨k, v⟩ := d
    obtain ⟨hp, hv⟩ := h
    rw [List.pairwise_cons] at hp
    have hrest : MemoryWf rest := ⟨hp.2, fun c hc => hv c (by simp [hc])⟩
    simp only [writeByte]
    split
    · rename_i hlt
      split
      · rename_i hb
        split
        · rename_i hx
          subst hx hb
          exact readByte_of_lt _ _ fun c hc => by
            rcases List.mem_cons.mp hc with rfl | hc
            · exact hlt
            · exact Nat.lt_trans hlt (hp.1 c hc)
        · rfl
      · simp [readByte]
    · split
      · rename_i _ heq
        subst heq
        split
        · rename_i hb
          split
          · rename_i hx
            subst hx hb
            exact readByte_of_lt _ _ fun c hc => hp.1 c hc
          · rename_i hx; simp [readByte, hx]
        · simp only [readByte]
          split <;> rfl
      · rename_i h1 h2
        simp only [readByte, ih hrest]
        split
        · rename_i hx
          rw [if_neg (by omega)]
        · rfl

/-! ### A line -/

/-- A write of a line keeps the canonical form. -/
theorem writeBytes_wf (m : List Host.Cell) (n : Nat) (mask : ByteMask) (data : Line) (k : Nat) (h : MemoryWf m) :
    MemoryWf (writeBytes m n mask data k) := by
  induction k with
  | zero => exact h
  | succ k ih =>
    simp only [writeBytes]
    split
    · exact writeByte_wf _ _ _ ih
    · exact ih

theorem writeLine_wf (m : List Host.Cell) (n : Nat) (mask : ByteMask) (data : Line) (h : MemoryWf m) :
    MemoryWf (writeLine m n mask data) := writeBytes_wf m n mask data 64 h

theorem readByte_writeBytes (m : List Host.Cell) (n : Nat) (mask : ByteMask) (data : Line) (k : Nat)
    (h : MemoryWf m) (x : Nat) :
    readByte (writeBytes m n mask data k) x =
      if 64 * n ≤ x ∧ x < 64 * n + k ∧ mask.getLsbD (x - 64 * n) = true then byteAt data (x - 64 * n)
      else readByte m x := by
  induction k with
  | zero => simp only [writeBytes]; rw [if_neg (by omega)]
  | succ k ih =>
    simp only [writeBytes]
    by_cases hk : mask.getLsbD k = true
    · rw [if_pos hk, readByte_writeByte _ _ _ (writeBytes_wf m n mask data k h), ih]
      by_cases hx : x = 64 * n + k
      · subst hx; simp [hk]
      · rw [if_neg hx]
        congr 1
        simp only [eq_iff_iff]
        constructor <;> intro hh <;> refine ⟨hh.1, ?_, hh.2.2⟩ <;> omega
    · rw [if_neg hk, ih]
      congr 1
      simp only [eq_iff_iff]
      constructor
      · intro hh; exact ⟨hh.1, by omega, hh.2.2⟩
      · intro hh
        refine ⟨hh.1, ?_, hh.2.2⟩
        by_contra hc
        have : x - 64 * n = k := by omega
        rw [this] at hh
        exact hk hh.2.2

/-- THE LAW OF A WRITTEN LINE. The enabled bytes of the line read as stored, and every other byte reads as before. -/
theorem readByte_writeLine (m : List Host.Cell) (n : Nat) (mask : ByteMask) (data : Line) (h : MemoryWf m)
    (x : Nat) :
    readByte (writeLine m n mask data) x =
      if 64 * n ≤ x ∧ x < 64 * n + 64 ∧ mask.getLsbD (x - 64 * n) = true then byteAt data (x - 64 * n)
      else readByte m x := readByte_writeBytes m n mask data 64 h x

/-! ### Bytes and lines -/

/-- 64 bytes are 512 bits. -/
theorem bytes_of_line : (256 : Nat) ^ 64 = 2 ^ 512 := by rw [show (256 : Nat) = 2 ^ 8 by rfl, ← pow_mul]

/-- A line's bytes put together again give the line. -/
theorem numberOfBytes_byteAt (l : Line) (n : Nat) : numberOfBytes (byteAt l) n = l.toNat % 256 ^ n := by
  induction n with
  | zero => simp [numberOfBytes, Nat.mod_one]
  | succ n ih =>
    rw [numberOfBytes, ih]
    have hb : (byteAt l n).toNat = l.toNat / 256 ^ n % 256 := by
      simp [byteAt, BitVec.extractLsb'_toNat, Nat.shiftRight_eq_div_pow, pow_mul]
    rw [hb, pow_succ, Nat.mod_mul]

theorem lineOfBytes_byteAt (l : Line) : lineOfBytes (byteAt l) = l := by
  have hm : l.toNat % 256 ^ 64 = l.toNat := by rw [bytes_of_line]; exact Nat.mod_eq_of_lt l.isLt
  rw [lineOfBytes, numberOfBytes_byteAt, hm, BitVec.ofNat_toNat, BitVec.setWidth_eq]

/-- The number of some bytes depends on those bytes alone. -/
theorem numberOfBytes_congr (f g : Nat → Byte) (n : Nat) (h : ∀ i < n, f i = g i) :
    numberOfBytes f n = numberOfBytes g n := by
  induction n with
  | zero => rfl
  | succ n ih => rw [numberOfBytes, numberOfBytes, ih fun i hi => h i (by omega), h n (by omega)]

theorem numberOfBytes_lt (f : Nat → Byte) (n : Nat) : numberOfBytes f n < 256 ^ n := by
  induction n with
  | zero => simp [numberOfBytes]
  | succ n ih =>
    rw [numberOfBytes, pow_succ]
    have := (f n).isLt
    nlinarith [pow_pos (show (0 : Nat) < 256 by norm_num) n]

theorem numberOfBytes_digit (f : Nat → Byte) (n i : Nat) (h : i < n) :
    numberOfBytes f n / 256 ^ i % 256 = (f i).toNat := by
  induction n with
  | zero => omega
  | succ n ih =>
    rw [numberOfBytes]
    by_cases hi : i = n
    · subst hi
      rw [Nat.add_mul_div_left _ _ (by positivity), Nat.div_eq_of_lt (numberOfBytes_lt f i), Nat.zero_add]
      exact Nat.mod_eq_of_lt (f i).isLt
    · have hlt : i < n := by omega
      obtain ⟨d, rfl⟩ : ∃ d, n = i + 1 + d := ⟨n - i - 1, by omega⟩
      rw [show 256 ^ (i + 1 + d) * (f (i + 1 + d)).toNat = 256 ^ i * (256 * (256 ^ d * (f (i + 1 + d)).toNat)) by
        ring, Nat.add_mul_div_left _ _ (by positivity), Nat.add_mul_mod_self_left]
      exact ih hlt

/-- Byte `i` of a line made of bytes is the `i`-th of them. -/
theorem byteAt_lineOfBytes (f : Nat → Byte) (i : Nat) (h : i < 64) : byteAt (lineOfBytes f) i = f i := by
  apply BitVec.eq_of_toNat_eq
  have hlt := numberOfBytes_lt f 64
  rw [bytes_of_line] at hlt
  simp only [byteAt, lineOfBytes, BitVec.extractLsb'_toNat, BitVec.toNat_ofNat, Nat.mod_eq_of_lt hlt,
    Nat.shiftRight_eq_div_pow, pow_mul]
  exact numberOfBytes_digit f 64 i h

/-- Byte `i` of a line of page memory. -/
theorem byteAt_readLine (m : List Host.Cell) (n i : Nat) (h : i < 64) :
    byteAt (readLine m n) i = readByte m (64 * n + i) := byteAt_lineOfBytes _ _ h

/-- Byte `i` of an overlay: the new byte where the enable is on (R46, R49). -/
theorem byteAt_overlay (mask : ByteMask) (old new : Line) (i : Nat) (h : i < 64) :
    byteAt (overlay mask old new) i = if mask.getLsbD i then byteAt new i else byteAt old i :=
  byteAt_lineOfBytes _ _ h

/-- A full-line write makes the line read as its data. -/
theorem readLine_writeLine_full (m : List Host.Cell) (n : Nat) (data : Line) (h : MemoryWf m) :
    readLine (writeLine m n fullMask data) n = data := by
  have hb : ∀ i < 64, readByte (writeLine m n fullMask data) (64 * n + i) = byteAt data i := by
    intro i hi
    have hm : fullMask.getLsbD (64 * n + i - 64 * n) = true := by
      rw [Nat.add_sub_cancel_left, fullMask, BitVec.getLsbD_allOnes]; simpa using hi
    rw [readByte_writeLine _ _ _ _ h, if_pos ⟨by omega, by omega, hm⟩, Nat.add_sub_cancel_left]
  have hl : readLine (writeLine m n fullMask data) n = lineOfBytes (byteAt data) :=
    congrArg (BitVec.ofNat 512) (numberOfBytes_congr _ _ 64 hb)
  rw [hl, lineOfBytes_byteAt]

/-! ### The ciphers -/

/-- Deciphering what was enciphered under the same key and offset gives the line back (R43). -/
@[simp] theorem decipher_encipher (k : Key) (o : Nat) (l : Line) : decipher k o (encipher k o l) = l := by
  simp [decipher, encipher]

@[simp] theorem encipher_decipher (k : Key) (o : Nat) (l : Line) : encipher k o (decipher k o l) = l := by
  simp [decipher, encipher]

end Sys2Proof.Machine
end

