-- ==== Sys2Proof/Laws/Tags.lean ====
section
/-! SUPPORT. What R1 asks of the tags: a tag belongs to one content, so that its check succeeds exactly when the content
is unaltered. -/

namespace Sys2Proof.Machine

/-- An answer tag is that of one secret, nonce, serial, plane and remaining (R1, R149). -/
theorem answerTag_eq_iff {secret secret' : BitVec 256} {nonce nonce' : Nonce} {serial serial' : Serial}
    {plane plane' : Plane} {n n' : Nat} :
    answerTag secret nonce serial plane n = answerTag secret' nonce' serial' plane' n' ↔
      secret = secret' ∧ nonce = nonce' ∧ serial = serial' ∧ plane = plane' ∧ n = n' := by
  simp [answerTag]

/-- A confirmation tag is that of one secret, serial, nonce, amount and new remaining (R1, R153). -/
theorem confirmationTag_eq_iff {secret secret' : BitVec 256} {serial serial' : Serial} {nonce nonce' : Nonce}
    {amount amount' n n' : Nat} :
    confirmationTag secret serial nonce amount n = confirmationTag secret' serial' nonce' amount' n' ↔
      secret = secret' ∧ serial = serial' ∧ nonce = nonce' ∧ amount = amount' ∧ n = n' := by
  simp [confirmationTag]

/-! ### A tag that is not in use -/

/-- The tag asked for is taken where it is not in use. -/
theorem freeTag_of_notMem {used : List (BitVec 256)} {start : BitVec 256} (h : start ∉ used) :
    freeTag used start = start := by
  simp [freeTag, List.range_succ_eq_map, h]

/-- While not all tags are in use, the tag found is not. -/
theorem freeTag_notMem {used : List (BitVec 256)} (start : BitVec 256) (h : used.length < 2 ^ 256) :
    freeTag used start ∉ used := by
  unfold freeTag
  generalize hl : (List.range (used.length + 1)).map (fun i => start + BitVec.ofNat 256 i) = l
  have hnd : l.Nodup := by
    rw [← hl]
    refine List.Nodup.map_on (fun i hi j hj hij => ?_) List.nodup_range
    rw [List.mem_range] at hi hj
    have h2 := congrArg BitVec.toNat (add_left_cancel hij)
    rwa [BitVec.toNat_ofNat, BitVec.toNat_ofNat, Nat.mod_eq_of_lt (by omega), Nat.mod_eq_of_lt (by omega)] at h2
  have hlen : l.length = used.length + 1 := by simp [← hl]
  obtain ⟨t, ht, hn⟩ : ∃ t ∈ l, t ∉ used := by
    by_contra hc
    push Not at hc
    have := (hnd.subperm hc).length_le
    omega
  cases hf : l.find? fun t => decide (t ∉ used) with
  | none => exact absurd (List.find?_eq_none.mp hf t ht) (by simpa using hn)
  | some y => simpa using List.find?_some hf

/-! ### The tagged contents -/

/-- A content is among the issued tags exactly when it is tagged. -/
theorem mem_issuedTags (key : BitVec 256) (tagged : List Snapshot) (c : Snapshot) :
    c ∈ (issuedTags key tagged).map Prod.snd ↔ c ∈ tagged := by
  induction tagged with
  | nil => simp [issuedTags]
  | cons d earlier ih =>
    rw [issuedTags]
    split
    · rw [ih, List.mem_cons]
      refine ⟨Or.inr, ?_⟩
      rintro (rfl | h) <;> assumption
    · rw [List.map_cons, List.mem_cons, ih, List.mem_cons]

/-- No more tags are issued than contents are tagged. -/
theorem issuedTags_length_le (key : BitVec 256) (tagged : List Snapshot) :
    (issuedTags key tagged).length ≤ tagged.length := by
  induction tagged with
  | nil => simp [issuedTags]
  | cons d earlier ih =>
    rw [issuedTags]
    split
    · exact ih.trans (Nat.le_succ _)
    · simpa using ih

/-- No content has two tags. -/
theorem issuedTags_contents_nodup (key : BitVec 256) (tagged : List Snapshot) :
    ((issuedTags key tagged).map Prod.snd).Nodup := by
  induction tagged with
  | nil => simp [issuedTags]
  | cons d earlier ih =>
    rw [issuedTags]
    split
    · exact ih
    · rename_i h
      rw [List.map_cons, List.nodup_cons, mem_issuedTags]
      exact ⟨h, ih⟩

/-- No tag has two contents. -/
theorem issuedTags_tags_nodup (key : BitVec 256) {tagged : List Snapshot} (h : tagged.length ≤ 2 ^ 256) :
    ((issuedTags key tagged).map Prod.fst).Nodup := by
  induction tagged with
  | nil => simp [issuedTags]
  | cons d earlier ih =>
    rw [List.length_cons] at h
    rw [issuedTags]
    split
    · exact ih (by omega)
    · rw [List.map_cons, List.nodup_cons]
      refine ⟨freeTag_notMem _ ?_, ih (by omega)⟩
      have := issuedTags_length_le key earlier
      rw [List.length_map]
      omega

/-- The pair of a content that is tagged is the one issued for it. -/
theorem snapshotTagOf_mem (key : BitVec 256) {tagged : List Snapshot} {c : Snapshot} (h : c ∈ tagged) :
    (snapshotTagOf key tagged c, c) ∈ issuedTags key tagged := by
  rw [← mem_issuedTags key] at h
  obtain ⟨x, hx, hc⟩ := List.mem_map.mp h
  unfold snapshotTagOf
  cases hf : (issuedTags key tagged).find? fun y => decide (y.2 = c) with
  | none => exact absurd (List.find?_eq_none.mp hf x hx) (by simpa using hc)
  | some y =>
    have hy : y.2 = c := by simpa using List.find?_some hf
    rw [← hy]
    exact List.mem_of_find?_eq_some hf

/-- A pair of a list without two pairs of one tag is what its tag is looked up to. -/
theorem lookup_eq_some_of_mem {α : Type} {l : List (BitVec 256 × α)} {t : BitVec 256} {a : α} (hm : (t, a) ∈ l)
    (hn : (l.map Prod.fst).Nodup) : l.lookup t = some a := by
  induction l with
  | nil => cases hm
  | cons x rest ih =>
    rw [List.map_cons, List.nodup_cons] at hn
    rw [List.lookup_cons]
    rcases List.mem_cons.mp hm with rfl | hm
    · simp
    · have : t ≠ x.1 := fun he => hn.1 (he ▸ List.mem_map_of_mem hm)
      rw [beq_false_of_ne this]
      exact ih hm hn.2

/-! ### The check -/

/-- The tag of a content that was tagged checks for that content and for no other (R1, R134, R138). -/
theorem snapshotTagChecks_iff (key : BitVec 256) {tagged : List Snapshot} {c d : Snapshot} (hc : c ∈ tagged)
    (h : tagged.length ≤ 2 ^ 256) :
    snapshotTagChecks key tagged (snapshotTagOf key tagged c) d = true ↔ d = c := by
  rw [snapshotTagChecks, lookup_eq_some_of_mem (snapshotTagOf_mem key hc) (issuedTags_tags_nodup key h)]
  simp

/-- A tag that no tagged content has checks for what the tag function gives it. -/
theorem snapshotTagChecks_unknown (key : BitVec 256) {tagged : List Snapshot} {tag : BitVec 256} {c : Snapshot}
    (h : tag ∉ (issuedTags key tagged).map Prod.fst) :
    snapshotTagChecks key tagged tag c = true ↔ snapshotTag key c = tag := by
  have : (issuedTags key tagged).lookup tag = none := by
    rw [List.lookup_eq_none_iff]
    rintro x hx
    simpa using fun he : tag = x.1 => h (he ▸ List.mem_map_of_mem hx)
  rw [snapshotTagChecks, this]
  simp

/-- What is tagged stands among the tagged contents. -/
theorem mem_addTagged (tagged : List Snapshot) (c : Snapshot) : c ∈ addTagged tagged c := by
  unfold addTagged; split <;> simp_all

/-- A content has one tag, made before or after it is put among the tagged contents. -/
theorem snapshotTagOf_addTagged (key : BitVec 256) (tagged : List Snapshot) (c : Snapshot) :
    snapshotTagOf key (addTagged tagged c) c = snapshotTagOf key tagged c := by
  unfold addTagged
  split
  · rfl
  · rename_i h
    have hn : (issuedTags key tagged).find? (fun x => decide (x.2 = c)) = none := by
      rw [List.find?_eq_none]
      rintro x hx
      have := mt (mem_issuedTags key tagged c).mp h
      simpa using fun he : x.2 = c => this (he ▸ List.mem_map_of_mem hx)
    rw [snapshotTagOf, snapshotTagOf, issuedTags, if_neg h, hn]
    simp

/-- An earlier content keeps its tag when another is tagged. -/
theorem snapshotTagOf_earlier (key : BitVec 256) {tagged : List Snapshot} {c : Snapshot} (d : Snapshot)
    (h : c ∈ tagged) : snapshotTagOf key (addTagged tagged d) c = snapshotTagOf key tagged c := by
  unfold addTagged
  split
  · rfl
  · rename_i hd
    have hc : d ≠ c := fun he => hd (he ▸ h)
    rw [snapshotTagOf, issuedTags, if_neg hd, List.find?_cons_of_neg (by simpa using hc)]
    have := snapshotTagOf_mem key h
    unfold snapshotTagOf at this ⊢
    cases hf : (issuedTags key tagged).find? fun y => decide (y.2 = c) with
    | some y => rfl
    | none => rw [hf] at this; exact absurd (List.find?_eq_none.mp hf _ this) (by simp)

/-- A tag that checks for a content is that of the content alone once the content is tagged (R1, R138). -/
theorem snapshotTagChecks_addTagged (key : BitVec 256) {tagged : List Snapshot} {tag : BitVec 256} {c : Snapshot}
    (h : snapshotTagChecks key tagged tag c = true) (d : Snapshot) :
    snapshotTagChecks key (addTagged tagged c) tag d = true ↔ d = c := by
  cases hl : (issuedTags key tagged).lookup tag with
  | some known =>
    rw [snapshotTagChecks, hl, decide_eq_true_iff] at h
    subst h
    have hm : (tag, c) ∈ issuedTags key tagged := by
      obtain ⟨l₁, l₂, hx, -⟩ := List.lookup_eq_some_iff.mp hl
      simp [hx]
    have hc : c ∈ tagged := (mem_issuedTags key tagged c).mp (List.mem_map_of_mem hm)
    rw [addTagged, if_pos hc, snapshotTagChecks, hl, decide_eq_true_iff]
  | none =>
    rw [snapshotTagChecks, hl, decide_eq_true_iff] at h
    have hn : tag ∉ (issuedTags key tagged).map Prod.fst := by
      intro hm
      obtain ⟨x, hx, rfl⟩ := List.mem_map.mp hm
      exact absurd (List.lookup_eq_none_iff.mp hl x hx) (by simp)
    by_cases hc : c ∈ tagged
    · exfalso
      have hi : ∀ l : List Snapshot, c ∈ l → snapshotTag key c ∈ (issuedTags key l).map Prod.fst := by
        intro l
        induction l with
        | nil => simp
        | cons e earlier ih =>
          intro hm
          rw [issuedTags]
          split
          · rename_i he
            rcases List.mem_cons.mp hm with rfl | hm
            · exact ih he
            · exact ih hm
          · rw [List.map_cons, List.mem_cons]
            rcases List.mem_cons.mp hm with rfl | hm
            · by_cases hu : snapshotTag key c ∈ (issuedTags key earlier).map Prod.fst
              · exact Or.inr hu
              · exact Or.inl (freeTag_of_notMem hu).symm
            · exact Or.inr (ih hm)
      exact hn (h ▸ hi tagged hc)
    · rw [addTagged, if_neg hc, snapshotTagChecks, issuedTags, if_neg hc, h, freeTag_of_notMem hn]
      simp

end Sys2Proof.Machine
end

