-- ==== Sys2Proof/Tests/Slice0.lean ====
section
/-! SUPPORT. Tests of the model: the manual's worked examples, one step of some commands, the well-formedness smoke
test, and for every statement with hypotheses a state and operands that meet all of them. -/

namespace Sys2Proof.Tests

open Sys2Proof Sys2Proof.Machine

set_option Elab.async false

/-! ### Well-formed commands and decoding -/

/-- A first order line: SOURCE SET with serial 7 of tag 5 to class READOUT. -/
def sourceLine : Line := lineOfVals [u8 1, u16 7, u8 5, u8 2]

theorem test_window_too_low : (Instr.orderTake 3 1 sourceLine).wellFormed = false := by decide +kernel
theorem test_window_too_high : (Instr.orderTake 3 64 sourceLine).wellFormed = false := by decide +kernel
theorem test_kind_zero : (Instr.orderTake 3 2 0).wellFormed = false := by decide +kernel
theorem test_window_good :
    (Instr.orderTake 3 2 sourceLine).wellFormed = true ∧ (Instr.orderTake 3 63 sourceLine).wellFormed = true := by
  decide +kernel
/-- The table gives no bits, so no word spells a command. -/
theorem test_no_word (nbits w : Nat) : decodeTableWord nbits w = none := rfl

/-! ### The worked examples of Chapter 4 -/

/-- The line of section 4.11.1: 128 pixels at tone 3, 64 at tone 1, 64 at tone 0. -/
def exampleLine : Line := lineOfBytes fun i => if i < 32 then 0xFF else if i < 48 then 0x55 else 0

theorem test_weights : weight resetCurve 1023 = 4095 ∧ weight resetCurve 341 = 1364 ∧ weight resetCurve 0 = 0 := by
  decide +kernel
theorem test_line_sum : lineSum resetCurve 2 exampleLine = 611456 := by decide +kernel
theorem test_line_coverage : coverageOf { sum := 611456, pixels := 256, lines := 1 } = 5833 := by decide +kernel
/-- The rounding cases of R71. -/
theorem test_draws :
    drawOf 611456 1000 = 36 ∧ drawOf 611456000 1 = 36 ∧ drawOf 612368384 1 = 36 ∧ drawOf 629145600 1 = 38 ∧
      drawOf 8388608 1 = 0 ∧ drawOf 1099511627775 65535 = 4294901760 := by decide +kernel
theorem test_two_words : ~~~(foldWord (foldWord 0xFFFFFFFF#32 0x200#32) 0x200#32) = 0x00C0060A#32 := by
  decide +kernel
theorem test_signature : foldLine 0xFFFFFFFF#32 exampleLine = 0x46BC018B#32 := by decide +kernel

/-- Side 77 of section 4.11.3 at its close, with the given line and pixel counts of Y and K. -/
def side77 (y k : Nat) : Side :=
  { uid := 0, id := 77, jobSlot := 0, jobTag := 1, userSlot := 0, userId := 100, mode := .auto, downgraded := false
    face := .simplex, rows := 16, planes := 15#4, expected := #v[128, 128, 128, 128], reserve := 0
    state := .metering, generation := some 4, serials := #v[none, none, none, none]
    context := some
      { planes := #v[some { sum := 174592, pixels := 32768, lines := 128 },
          some { sum := 0, pixels := 32768, lines := 128 }, some { sum := 0, pixels := 256 * y, lines := y },
          some { sum := 19566592, pixels := 256 * k, lines := k }]
        signature := 0xFFFFFFFF#32, saturated := false }
    blanked := 0, figures := none, charge := none, outcome := none, capped := false, unproven := 0
    partsWritten := 0 }

theorem test_side_77 : closeFigures .reset (side77 128 128) =
    { coverage := #v[13, 0, 0, 1458], draw := #v[10, 0, 0, 1166], cls := .colour, tier := .standard, sum := 1471
      signature := 0 } := by decide +kernel
theorem test_side_77_short : closeFigures .reset (side77 64 96) =
    { coverage := #v[13, 0, 0, 1944], draw := #v[10, 0, 0, 1166], cls := .colour, tier := .standard, sum := 1957
      signature := 0 } := by decide +kernel

/-! ### The worked example of Chapter 10 -/

/-- The part after its first rewrites. -/
def idle : State :=
  { State.reset with
    port := { upstream := [], own := [], last := .own }
    channel := { ChannelFront.reset with summaryWritten := true, headerWritten := true } }

/-- The idle part with the given indices. -/
def atRing (w r : Nat) : State := { idle with writer := { idle.writer with writeIndex := w, readIndex := r } }

/-- The read index after a header write of a value. -/
def readIndexAfter (s : State) (v : Nat) : Option Nat :=
  match exec (.ringHeaderWrite 3 0xC#64 (BitVec.ofNat 512 (v * 65536))) s with
  | .next t => some t.writer.readIndex
  | _ => none

theorem test_header_305 : readIndexAfter (atRing 300 301) 305 = some 305 := by decide +kernel
theorem test_header_304 : readIndexAfter (atRing 304 305) 304 = some 304 := by decide +kernel
theorem test_header_200_clamped : readIndexAfter (atRing 306 304) 200 = some 306 := by decide +kernel
theorem test_header_448_ignored : readIndexAfter (atRing 306 304) 448 = some 304 := by decide +kernel

/-! ### A small machine -/

/-- Property of the state a command answers with. -/
def after (o : Host.Outcome State Fault Refusal) (f : State → Bool) : Bool :=
  match o with
  | .next t => f t
  | _ => false

/-- A user with balance 900, hold 20 and a counter of 3 in every place. -/
def alice : User :=
  { id := 100, state := .active, colour := true, credit := 1000, spent := 100, hold := 20, floor := -50, warn := 0
    warned := false, counters := Vector.replicate 8 3 }

/-- A released PRINT job of that user. -/
def printJob : Job :=
  { state := .active, tag := 1, kind := .print, owner := 0, release := .released, key := 5#128, regions := 1, sides := 0
    merges := 0, lines := 0, enciphered := 7, settled := 2, closePending := false, voidRequested := false }

/-- A K band of 16 rows of 8 lines, bound to the job in slot 0. -/
def bandK : Region :=
  { uid := 0, state := .live, base := 1024, size := 128, kind := .band 3 2 8, job := some 0, refusals := 0 }

/-- The idle part with the user, the job and the band. -/
def lab : State :=
  { idle with
    accounts := { idle.accounts with users := put idle.accounts.users 0 (some alice) }
    jobs := put idle.jobs 0 (some printJob)
    classifier := { idle.classifier with regions := put idle.classifier.regions 3 (some bandK), nextUid := 1 } }

/-- An order entry with the given fields, in window line 2. -/
def order (vs : List Val) : OrderEntry := entryOfLine 2 (lineOfVals vs)

/-- The state with one order queued. -/
def queued (s : State) (vs : List Val) : State := { s with orders := { s.orders with queue := [order vs] } }

/-- What `Executes` asks, in a form that can be decided. -/
abbrev Ready (s : State) (k : Byte) (e : OrderEntry) (rest : List OrderEntry) : Prop :=
  s.orders.queue = e :: rest ∧ e.kind = k ∧ s.orders.holding.length < 8 ∧ s.orders.resetWait = none ∧
    s.orders.resetSequence = []

theorem Ready.executes {s : State} {k : Byte} {e : OrderEntry} {rest : List OrderEntry} (h : Ready s k e rest) :
    s.Executes k e rest := ⟨h.1, h.2.1, h.2.2.1, h.2.2.2.1, h.2.2.2.2⟩

/-- The result a command leaves at the head of the holding list. -/
def resultOf (o : Host.Outcome State Fault Refusal) : Option (Option Reason × List Val) :=
  match o with
  | .next t => t.orders.holding.head?.map fun r => (r.reason, r.values)
  | _ => none

theorem test_source_set : resultOf (exec .sourceSet (queued lab [u8 1, u16 7, u8 5, u8 2])) =
    some (none, [u8 5, u8 3, u8 2]) := by decide +kernel
theorem test_source_set_bad : resultOf (exec .sourceSet (queued lab [u8 1, u16 7, u8 64, u8 2])) =
    some (some .badArg, []) := by decide +kernel
theorem test_wrong_kind_waits : after (exec .jobOpen (queued lab [u8 1, u16 7, u8 5, u8 2])) (fun t =>
    decide (t.orders = (queued lab [u8 1, u16 7, u8 5, u8 2]).orders) && t.jobs == lab.jobs) = true := by
  decide +kernel
/-- A side of 16 rows of the K band at price 0 is admitted with 128 expected lines. -/
theorem test_side_begin :
    resultOf (exec .sideBegin (queued lab [u8 0x30, u16 7, u16 1, u8 0, u8 0, u32 16])) =
      some (none, [u16 1, u8 0, u8 0, u8 8, u32 0, u32 0, u32 0, u32 128, u16 0, u8 1]) := by decide +kernel
theorem test_account_credit_clamps :
    resultOf (exec .accountCredit (queued lab [u8 0x41, u16 7, u32 100, u32 2147483648])) =
      some (none, [u32 100, u8 0, u32 2147483648, u32 2147482747, u8 1, u32 2147483647, u32 20, u32 2147483627]) := by
  decide +kernel
theorem test_bad_order : resultOf (exec .badOrder (queued lab [u8 0x99, u16 7])) = some (some .badOrder, []) := by
  decide +kernel
/-- A write to a plain line stores its enabled bytes at its grant, and nothing before it. -/
theorem test_plain_write :
    after (exec (.lineRequest 3 9 (.write 2#64 0xABCD#512)) lab) (fun t =>
      decide (t.mem = []) &&
        after (exec .upstreamGrant { t with port := { t.port with own := [] } })
          fun u => decide (u.mem = [(64 * 9 + 1, 0xAB#8)])) = true := by decide +kernel
/-- A mark with no side in the list is unaccounted. -/
theorem test_mark_unaccounted : after (exec .sideMark lab)
    (fun t => decide (t.accounts.meters.unaccounted = 1) && t.writer.notices.getLsbD 1 && t.writer.attention) =
    true := by decide +kernel
theorem test_insertion : after (exec (.presenceAssert 2) lab)
    (fun t => t.cartridges.slots[2].seated && decide (t.cartridges.slots[2].settlingTimer = some 500) &&
      decide (t.writer.notices = 0x00400000#32)) = true := by decide +kernel

/-! ### Witnesses: for every statement with hypotheses, a state and operands that meet all of them

Each theorem is named after its statement, with the clause where there are several. -/

/-- An ADMITTED side of the user and the job, with a reserve of 20. -/
def sideOne : Side :=
  { side77 0 0 with
    id := 1, mode := .mono, planes := 8#4, expected := #v[0, 0, 0, 128], reserve := 20, state := .admitted
    generation := none, context := none }

/-- The same side as it is METERING. -/
def sideMetering : Side :=
  { sideOne with
    state := .metering, generation := some 0
    context := some
      { planes := #v[none, none, none, some { sum := 611456, pixels := 256, lines := 1 }]
        signature := 0xFFFFFFFF#32, saturated := false } }

/-- A GENUINE cartridge that owes 30 tu. -/
def genuineSlot : CartridgeSlot :=
  { CartridgeSlot.empty with
    seated := true, serial := some 77#64, verdict := .genuine, remaining := some 5000, owed := 30
    history := [true] }

/-- The part with a side, a cartridge in slot 3, a REJECTED one in slot 1, and a mark waiting. -/
def busy : State :=
  { lab with
    pending := [.sideMark]
    sides := { lab.sides with records := [sideOne], nextId := 2, nextUid := 1 }
    jobs := put lab.jobs 0 (some { printJob with sides := 1 })
    cartridges := { lab.cartridges with
      slots := put (put lab.cartridges.slots 3 genuineSlot) 1
        { CartridgeSlot.empty with seated := true, verdict := .rejected }
      totals := put lab.cartridges.totals 3 { drawn := 30, confirmed := 0, unproven := 0, lost := 0 } } }

/-- The part with the side METERING. -/
def metering : State := { busy with sides := { busy.sides with records := [sideMetering] } }

/-- `busy` has a next state, the one its mark leads to. -/
theorem busy_steps : ∃ t, step busy = .next t := ⟨_, rfl⟩

theorem busy_line : busy.cartridges.line = none := rfl

theorem busy_covered : DebtsCovered busy.cartridges where
  slots := by decide +kernel
  absent := by decide +kernel
  due := by decide +kernel
  line := by intro x hx; rw [busy_line] at hx; cases hx

theorem busy_numbered : SidesNumbered busy.sides where
  distinct := by decide +kernel
  fresh := by decide +kernel
  used := by decide +kernel
  settled := by decide +kernel

theorem witness_StepRunsTheFrontCommand : State.reset.pending = [] := rfl

theorem witness_StepKeepsMemoryCanonical : MemoryWf busy.mem ∧ ∃ t, step busy = .next t :=
  ⟨by decide +kernel, busy_steps⟩

theorem witness_StepKeepsDrawTotalsBalanced : DrawInv busy ∧ ∃ t, step busy = .next t :=
  ⟨⟨by unfold DrawLaw; decide +kernel, busy_covered, by decide +kernel, by decide +kernel⟩, busy_steps⟩

/-- No user of `busy` is below the warn level. -/
theorem busy_available :
    ∀ i : Fin 64, ∀ u ∈ busy.accounts.users[i], ¬u.credit - u.spent - u.hold < u.warn ∧ u.warned = false := by
  decide +kernel

/-- The warning of the user of `busy` is as R124 says. -/
theorem busy_warnings : WarningsSet busy := fun i u hu hw => absurd hw (busy_available i u hu).1

theorem witness_StepKeepsHoldsEqualToReserves :
    HoldInv busy ∧ WarningsSet busy ∧ WarnedExactly busy ∧ ∃ t, step busy = .next t :=
  ⟨⟨by decide +kernel, by decide +kernel, busy_numbered⟩, busy_warnings,
    fun i u hu => by simp [(busy_available i u hu).1, (busy_available i u hu).2], busy_steps⟩

theorem witness_StepKeepsTheSideListInOrder : SideListInv busy ∧ ∃ t, step busy = .next t :=
  ⟨⟨busy_numbered, by decide +kernel, by decide +kernel, by decide +kernel, by decide +kernel, by decide +kernel⟩,
    busy_steps⟩

theorem witness_StepKeepsTheOrderListsBounded : OrdersInv busy ∧ ∃ t, step busy = .next t :=
  ⟨⟨by decide +kernel, by decide +kernel, by decide +kernel, by decide +kernel, by decide +kernel⟩, busy_steps⟩

theorem witness_StepKeepsTheRingSound : RingInv busy ∧ ∃ t, step busy = .next t :=
  ⟨⟨by decide +kernel, by decide +kernel, by decide +kernel, by decide +kernel, by decide +kernel⟩, busy_steps⟩

theorem witness_StepKeepsTheRegionMapDisjoint : RegionInv busy ∧ ∃ t, step busy = .next t := by
  have one : ∀ i : Fin 32, ∀ r ∈ busy.classifier.regions[i], i = 3 ∧ r = bandK := by decide +kernel
  refine ⟨⟨by decide +kernel, by decide +kernel, ?_, ?_, ?_⟩, busy_steps⟩
  · intro i j hij a ha b hb
    exact absurd ((one i a ha).1.trans (one j b hb).1.symm) hij
  · intro i r hr
    rw [(one i r hr).2]
    show goodGeometry 2 8 128 = true
    decide
  · intro i j a ha b hb
    rw [(one i a ha).2, (one j b hb).2]
    exact fun _ => ⟨rfl, rfl⟩

theorem witness_StepKeepsBoundRegionCounts : BindingInv busy ∧ ∃ t, step busy = .next t := by
  refine ⟨?_, busy_steps⟩
  have h : ∀ i : Fin 16, (match busy.jobs[i] with
      | some j => decide (j.regions = boundRegions i busy.classifier.regions)
      | none => decide (boundRegions i busy.classifier.regions = 0)) = true := by decide +kernel
  intro i
  have := h i
  split at this <;> simp_all

theorem witness_RejectedVerdictEndsOnlyByRemoval :
    RejectedAtRest 1 busy ∧ endsRejected 1 (.presenceDeassert 2) = false :=
  ⟨{ seated := rfl, verdict := rfl, exchange := rfl, probe := rfl, debit := rfl, settling := rfl, retry := rfl
     line := by intro x hx; rw [busy_line] at hx; cases hx }, rfl⟩

theorem witness_WrappedKeysUnwrapForTheirKindOnly :
    JobKind.copy ≠ JobKind.scan ∧ 0 % 2 ^ 64 ≠ 1 % 2 ^ 64 := by decide

/-- The lab whose region 3 has the given record, whose source tag 3 has the given class, and whose side list holds the
given records. -/
def region (cls : SourceClass) (r : Region) (sides : List Side) : State :=
  { lab with
    classifier := { lab.classifier with
      sources := put lab.classifier.sources 3 cls, regions := put lab.classifier.regions 3 (some r) }
    sides := { lab.sides with records := sides } }

/-- What `LineIn` asks of line 1030 and region 3, in a form that can be decided. -/
abbrev InRegion (s : State) (r : Region) : Prop :=
  1030 < s.classifier.memLines ∧ ¬(s.classifier.controlBase ≤ 1030 ∧ 1030 < s.classifier.controlBase + 512) ∧
    s.classifier.regions[(3 : Fin 32)] = some r ∧ (r.base ≤ 1030 ∧ 1030 < r.base + r.size) ∧
    ∀ k : Fin 32, k ≠ 3 → ∀ x ∈ s.classifier.regions[k], ¬(x.base ≤ 1030 ∧ 1030 < x.base + x.size)

/-- A request of tag 3, of a class, to line 1030 in region 3: what every clause about regions asks. -/
structure Presents (s : State) (cls : SourceClass) (access : Access) (r : Region) : Prop where
  accepting : s.accepting = true
  mask : ∀ mask data, access = .write mask data → mask ≠ 0
  cls : s.classifier.sources[(3 : Fin 64)] = cls
  lineIn : s.LineIn 1030 3 r

theorem presents {s : State} {cls : SourceClass} {access : Access} {r : Region} {P : Prop}
    (h : (s.accepting = true ∧ storesNothing access = false ∧ s.classifier.sources[(3 : Fin 64)] = cls ∧ InRegion s r) ∧
      P) : Presents s cls access r ∧ P := by
  obtain ⟨⟨h1, h2, h3, h4, h5, h6, h7, h8⟩, hp⟩ := h
  refine ⟨⟨h1, ?_, h3, h4, h5, h6, h7, h8⟩, hp⟩
  rintro mask data rfl
  simpa [storesNothing] using h2

/-- A write of byte 0, and of the whole line. -/
def part : Access := .write 1#64 5#512
def whole : Access := .write (BitVec.allOnes 64) 5#512

/-- The band unbound, ORPHAN, and as a PRIVATE region of the job. -/
def bandFree : Region := { bandK with job := none }
def bandOrphan : Region := { bandK with state := .orphan, job := none }
def privateOne : Region := { bandK with kind := .priv }

/-- A write with no enable on, to a plain line, the lines of the window, and a bound and an unbound region. -/
theorem witness_PlainRequestGoesToThePort_empty :
    (lab.accepting = true ∧ (∀ o ∈ lab.channel.outstanding, o.tag ≠ 3) ∧ 9999 < lab.classifier.memLines ∧
      ¬(lab.classifier.controlBase ≤ 9999 ∧ 9999 < lab.classifier.controlBase + 512) ∧
      ∀ i : Fin 32, ∀ r ∈ lab.classifier.regions[i], ¬(r.base ≤ 9999 ∧ 9999 < r.base + r.size)) ∧
    (lab.classifier.controlBase + 1 ≤ 1 ∧ 63 < lab.classifier.controlBase + 64 ∧
      lab.classifier.sources[(3 : Fin 64)] = .general) ∧
    (InRegion (region .pipe bandK []) bandK ∧ bandK.job = some 0 ∧ lab.jobs[(0 : Fin 16)] ≠ none) ∧
    InRegion (region .intake bandFree []) bandFree ∧
    ¬bandK.turnsAway .pipe (.write 0 0) ∧ ¬bandFree.turnsAway .intake (.write 0 0) :=
  ⟨by decide +kernel, by decide +kernel, by decide +kernel, by decide +kernel,
    by simp [Region.turnsAway, bandK], by simp [Region.turnsAway, bandFree, bandK]⟩

/-- A request in the band, with the given access and treatment. -/
def bandReq (access : Access) (treatment : Treatment) : Req :=
  { id := 0, tag := 3, cls := .general, line := 1030, access, place := .region 3 0, treatment }

/-- The cipher of line 1030. -/
def cipher : Cipher := { job := 0, key := 5#128, offset := 6 }

theorem witness_PlainRequestGoesToThePort :
    lab.accepting = true ∧ 9999 < lab.classifier.memLines ∧
      ¬(lab.classifier.controlBase ≤ 9999 ∧ 9999 < lab.classifier.controlBase + 512) ∧
      (∀ i : Fin 32, ∀ r ∈ lab.classifier.regions[i], ¬(r.base ≤ 9999 ∧ 9999 < r.base + r.size)) ∧
      (∀ q ∈ lab.protection.queues, q.line ≠ 9999) ∧ ∀ mask data, part = .write mask data → mask ≠ 0 :=
  ⟨by decide +kernel, by decide +kernel, by decide +kernel, by decide +kernel, by decide +kernel,
    fun m _ h => by cases h; decide⟩

theorem witness_PlainRequestGoesToThePort_control :
    lab.accepting = true ∧ lab.classifier.controlBase = 0 ∧ 511 < lab.classifier.memLines ∧
      lab.classifier.sources[(3 : Fin 64)] = .general ∧ (∀ q ∈ lab.protection.queues, q.line ≠ 511) ∧
      (0 + 2 ≤ 63 ∧ 63 < 0 + 64 ∧ (1#64 : ByteMask) ≠ BitVec.allOnes 64) ∧
      (0 + 2 ≤ 2 ∧ 2 < 0 + 64 ∧ byteAt 0x100#512 0 = 0#8) := by
  decide +kernel

/-- A write to window line 2 that waits at the channel front, an order or no order. -/
def heldWrite (id : Nat) (takes : Bool) (data : Line) : Req :=
  { id, tag := 4, cls := .general, line := 2
    access := .write (if takes then BitVec.allOnes 64 else 1#64) data, place := .control 2
    treatment := if takes then .orderTake else .pass }

/-- The lab with the given entries in the order queue and the given writes waiting at the channel front. -/
def holdingBack (queue : List OrderEntry) (held : List Req) : State :=
  { lab with orders := { lab.orders with queue }, channel := { lab.channel with heldOrders := held } }

theorem witness_PlainRequestGoesToThePort_held :
    (let s := holdingBack (List.replicate 8 (order [u8 1])) [heldWrite 0 true sourceLine]
     s.accepting = true ∧ s.classifier.controlBase = 0 ∧ 511 < s.classifier.memLines ∧
       s.classifier.sources[(3 : Fin 64)] = .general ∧
       (0 + 2 ≤ 2 ∧ 2 < 0 + 64 ∧ (1#64 : ByteMask) ≠ BitVec.allOnes 64) ∧
       (∃ q ∈ s.channel.heldOrders, q.line = 2) ∧ ∀ q ∈ s.channel.heldOrders, q.line ≠ 63) ∧
    ∀ q ∈ lab.channel.heldOrders, q.line ≠ 2 :=
  ⟨⟨by decide +kernel, by decide +kernel, by decide +kernel, by decide +kernel, by decide +kernel,
    ⟨_, List.mem_singleton.mpr rfl, rfl⟩, by decide +kernel⟩, by decide +kernel⟩

/-- A later write to the line of a waiting order-take write reaches neither the port nor the queue before it. -/
theorem test_write_waits_behind_an_order :
    after (exec (.lineRequest 3 2 (.write 1#64 9#512))
      (holdingBack (List.replicate 8 (order [u8 1])) [heldWrite 0 true sourceLine])) (fun t =>
        decide (t.port.upstream = []) && decide (t.channel.heldOrders.length = 2)) = true := by decide +kernel

/-- The state with a merge claim on line 1030. -/
def claimed (s : State) : State :=
  { s with protection := { s.protection with queues := [{ line := 1030, queue := [] }] } }

theorem witness_PlainRequestGoesToThePort_region :
    (Presents (region .general bandOrphan []) .general .read bandOrphan ∧ bandOrphan.state = .orphan) ∧
    (Presents (region .pipe bandFree []) .pipe part bandFree ∧ bandFree.state = .live ∧ bandFree.job = none ∧
      SourceClass.pipe ≠ .readout) ∧
    (Presents (region .readout bandFree [sideMetering]) .readout .read bandFree ∧ bandFree.kind = .band 3 2 8 ∧
      (region .readout bandFree [sideMetering]).meteringSide = some sideMetering ∧
      hasPlane sideMetering.planes 3 = true) ∧
    (let s := { region .readout bandFree [] with sides := { lab.sides with strict := false } }
     Presents s .readout .read bandFree ∧ s.meteringSide = none ∧ s.sides.strict = false) ∧
    (Presents (claimed (region .pipe bandFree [])) .pipe part bandFree ∧
      ∃ q ∈ (claimed (region .pipe bandFree [])).protection.queues, q.line = 1030) :=
  ⟨presents (by decide +kernel), presents (by decide +kernel), presents (by decide +kernel),
    presents (by decide +kernel), presents ⟨by decide +kernel, _, List.mem_singleton.mpr rfl, rfl⟩⟩

/-- The region of the job, with the job of slot 0. -/
abbrev Bound (s : State) (cls : SourceClass) (access : Access) (r : Region) (j : Job) : Prop :=
  Presents s cls access r ∧ r.state = .live ∧ r.job = some 0 ∧ s.jobs[(0 : Fin 16)] = some j

theorem witness_PlainRequestGoesToThePort_bound :
    Bound (region .general bandK []) .general part bandK printJob ∧
    (let sealedJob := { printJob with release := .sealed }
     Bound { region .general bandK [] with jobs := put lab.jobs 0 (some sealedJob) } .general .read bandK sealedJob) ∧
    (Bound (region .general bandK []) .general .read bandK printJob ∧ printJob.release = .released) ∧
    Bound (region .pipe bandK []) .pipe .read bandK printJob ∧
    (Bound (region .intake privateOne []) .intake .read privateOne printJob ∧ privateOne.kind = .priv) ∧
    (Bound (region .readout bandK [sideMetering]) .readout .read bandK printJob ∧
      (region .readout bandK [sideMetering]).meteringSide = some sideMetering ∧ sideMetering.jobSlot = 0 ∧
      hasPlane sideMetering.planes 3 = true) ∧
    Bound (region .pipe bandK []) .pipe whole bandK printJob :=
  ⟨presents (by decide +kernel), presents (by decide +kernel),
    ⟨presents (by decide +kernel), rfl⟩, presents (by decide +kernel), ⟨presents (by decide +kernel), rfl⟩,
    ⟨presents (by decide +kernel), by decide +kernel⟩, presents (by decide +kernel)⟩

/-- A merge of byte 0 of line 1030, in a phase. -/
def mergeEntry (phase : MergePhase) (merged : Option Line) : MergeEntry :=
  { req := bandReq part (.merge cipher), phase, merged }

theorem witness_PlainRequestGoesToThePort_merge :
    (Bound (claimed (region .pipe bandK [])) .pipe part bandK printJob ∧
      ∃ q ∈ (claimed (region .pipe bandK [])).protection.queues, q.line = 1030) ∧
    (let s := region .pipe bandK []
     Bound s .pipe part bandK printJob ∧ (1#64 : ByteMask) ≠ BitVec.allOnes 64 ∧
      (∀ q ∈ s.protection.queues, q.line ≠ 1030) ∧ s.protection.table[(0 : Fin 8)] = none ∧
      (∀ b : Fin 8, b < 0 → s.protection.table[b] ≠ none) ∧ printJob.lines < 4294967295 ∧
      ∀ q ∈ s.port.upstream, q.line ≠ 1030) ∧
    (let s := { region .pipe bandK [] with port := { lab.port with upstream := [bandReq .read .rawRead] } }
     Bound s .pipe part bandK printJob ∧ (∃ q ∈ s.port.upstream, q.line = 1030) ∧
      ∀ q ∈ s.protection.queues, q.line ≠ 1030) ∧
    (let s := { region .pipe bandK [] with protection := { lab.protection with
       table := Vector.replicate 8 (some (mergeEntry .ordering none)) } }
     Bound s .pipe part bandK printJob ∧ (∀ n : Fin 8, s.protection.table[n] ≠ none) ∧
      ∀ q ∈ s.protection.queues, q.line ≠ 1030) :=
  ⟨⟨presents (by decide +kernel), _, List.mem_singleton.mpr rfl, rfl⟩,
    ⟨presents (by decide +kernel), by decide +kernel⟩,
    ⟨presents (by decide +kernel), ⟨_, List.mem_singleton.mpr rfl, rfl⟩, by decide +kernel⟩,
    ⟨presents (by decide +kernel), by decide +kernel⟩⟩

theorem witness_RequestBeyondMemoryIsTurnedAway :
    (lab.accepting = true ∧ lab.classifier.memLines ≤ 16777216 ∧ ∀ o ∈ lab.channel.outstanding, o.tag ≠ 5) ∧
    (let s := region .readout bandK []
     s.accepting = true ∧ (∀ o ∈ s.channel.outstanding, o.tag ≠ 3) ∧ 511 < s.classifier.memLines ∧
      s.classifier.controlBase ≤ 511 ∧ 511 < s.classifier.controlBase + 512 ∧
      s.classifier.sources[(3 : Fin 64)] ≠ .general) ∧
    (0 < lab.classifier.memLines ∧ lab.classifier.controlBase = 0 ∧ part ≠ .read ∧
      64 < lab.classifier.memLines ∧ lab.classifier.controlBase + 64 ≤ 64) := by
  decide +kernel

/-- A band of another plane without a job, and a band of another job. -/
def bandOther : Region := { bandK with kind := .band 2 2 8, job := none }
def bandJobOne : Region := { bandK with job := some 1 }

/-- The lab as `region` changes it, with a second job in slot 1. -/
def regionTwoJobs (cls : SourceClass) (r : Region) (sides : List Side) : State :=
  { region cls r sides with jobs := put lab.jobs 1 (some { printJob with tag := 2 }) }

theorem witness_RequestBeyondMemoryIsTurnedAway_region :
    (Presents (region .intake bandOrphan []) .intake part bandOrphan ∧ bandOrphan.turnsAway .intake part) ∧
    (Presents (region .intake bandK []) .intake .read bandK ∧ bandK.turnsAway .intake .read) ∧
    (Presents (region .readout privateOne []) .readout .read privateOne ∧ privateOne.turnsAway .readout .read) ∧
    (Presents (region .readout bandK []) .readout whole bandK ∧ bandK.turnsAway .readout whole) ∧
    ∀ o ∈ lab.channel.outstanding, o.tag ≠ 3 := by
  refine ⟨?_, ?_, ?_, ?_, by decide +kernel⟩
  · exact ⟨(presents (P := True) (by decide +kernel)).1, .inl ⟨rfl, by decide⟩⟩
  · exact ⟨(presents (P := True) (by decide +kernel)).1, .inr ⟨rfl, by decide, .inl ⟨rfl, by decide⟩⟩⟩
  · exact ⟨(presents (P := True) (by decide +kernel)).1, .inr ⟨rfl, by decide, .inr ⟨rfl, .inl rfl⟩⟩⟩
  · exact ⟨(presents (P := True) (by decide +kernel)).1, .inr ⟨rfl, by decide, .inr ⟨rfl, .inr (by decide +kernel)⟩⟩⟩

theorem witness_RequestBeyondMemoryIsTurnedAway_blank :
    (let s := region .readout bandOther [sideMetering]
     Presents s .readout .read bandOther ∧ s.meteringSide = some sideMetering ∧
      hasPlane sideMetering.planes 2 = false ∧ bandOther.kind = .band 2 2 8 ∧ bandOther.job = none) ∧
    (let s := regionTwoJobs .readout bandJobOne [sideMetering]
     Presents s .readout .read bandJobOne ∧ s.meteringSide = some sideMetering ∧ bandJobOne.job = some 1 ∧
      1 ≠ sideMetering.jobSlot ∧ s.jobs[(1 : Fin 16)] ≠ none) ∧
    (let s := region .readout bandK []
     Presents s .readout .read bandK ∧ s.meteringSide = none ∧ bandK.job = some 0 ∧ s.jobs[(0 : Fin 16)] ≠ none) ∧
    (let s := region .readout bandFree []
     Presents s .readout .read bandFree ∧ s.meteringSide = none ∧ bandFree.job = none ∧ s.sides.strict = true) :=
  ⟨presents (by decide +kernel), presents (by decide +kernel), presents (by decide +kernel),
    presents (by decide +kernel)⟩

theorem witness_OrderWriteIsTakenOrHeld :
    lab.accepting = true ∧ lab.classifier.sources[3] = .general ∧ 2 ≤ 63 ∧ 63 ≤ 63 ∧
      sourceLine.extractLsb' 0 8 ≠ 0#8 ∧ lab.classifier.controlBase + 512 ≤ lab.classifier.memLines ∧
      (∀ q ∈ lab.protection.queues, q.line ≠ lab.classifier.controlBase + 63) ∧ lab.orders.queue.length < 8 := by
  decide +kernel

/-- The part with a full order queue. -/
def fullQueue : State := { lab with orders := { lab.orders with queue := List.replicate 8 (order [u8 1]) } }

theorem witness_OrderWriteIsTakenOrHeld_full :
    fullQueue.accepting = true ∧ fullQueue.classifier.sources[3] = .general ∧
      fullQueue.classifier.controlBase + 512 ≤ fullQueue.classifier.memLines ∧
      (∀ q ∈ fullQueue.protection.queues, q.line ≠ fullQueue.classifier.controlBase + 2) ∧
      8 ≤ fullQueue.orders.queue.length := by
  decide +kernel

theorem witness_OrderWriteIsTakenOrHeld_next :
    let e := order [u8 0x99, u16 7]
    let s := holdingBack [e] [heldWrite 0 true sourceLine, heldWrite 1 false 9#512, heldWrite 2 true sourceLine]
    s.Executes e.kind e [] ∧ e.kind ∉ orderKinds ∧
      s.channel.heldOrders = heldWrite 0 true sourceLine :: [heldWrite 1 false 9#512, heldWrite 2 true sourceLine] ∧
      (heldWrite 0 true sourceLine).access = .write (BitVec.allOnes 64) sourceLine ∧
      (heldWrite 0 true sourceLine).place = .control 2 ∧ ∀ q ∈ s.protection.queues, q.line ≠ 2 :=
  ⟨Ready.executes (by decide +kernel), by decide +kernel, rfl, rfl, rfl, by decide +kernel⟩

theorem witness_HeaderWriteMovesTheReadIndex :
    lab.accepting = true ∧ lab.classifier.sources[3] = .general ∧ (0xC#64 : ByteMask) ≠ 0 ∧
      lab.classifier.controlBase + 512 ≤ lab.classifier.memLines ∧
      ∀ q ∈ lab.protection.queues, q.line ≠ lab.classifier.controlBase + 1 := by
  decide +kernel

/-! #### Grants and the part's own stream -/

/-- The lab with one request in the upstream stream, not answered yet, and the job counting a line. -/
def waiting (r : Req) : State :=
  { lab with
    port := { upstream := [r], own := [], last := .upstream }
    jobs := put lab.jobs 0 (some { printJob with lines := 1 })
    channel := { lab.channel with outstanding := [{ id := r.id, tag := r.tag, answer := none }], nextId := 1 } }

theorem witness_UpstreamGrantStoresAWrite :
    let r := bandReq (.write 1#64 5#512) .rawWrite
    MemoryWf (waiting r).mem ∧ (waiting r).orders.resetWait = none ∧ (waiting r).port.upstream = [r] ∧
      (waiting r).upstreamTurn = true ∧ r.access = .write 1#64 5#512 ∧
      (r.treatment = .pass ∨ r.treatment = .rawWrite ∨ r.treatment = .orderTake) ∧
      (∀ i : Fin 8, ∀ e ∈ (waiting r).protection.table[i], e.req.line ≠ r.line) ∧
      (waiting r).channel.outstanding.head? = some { id := r.id, tag := r.tag, answer := none } := by
  decide +kernel

theorem witness_UpstreamGrantStoresAWrite_header :
    let r := { bandReq part .headerWrite with line := 1, place := .control 1 }
    MemoryWf (waiting r).mem ∧ (waiting r).orders.resetWait = none ∧ (waiting r).port.upstream = [r] ∧
      (waiting r).upstreamTurn = true ∧ r.treatment = .headerWrite ∧
      (waiting r).channel.outstanding.head? = some { id := r.id, tag := r.tag, answer := none } := by
  decide +kernel

theorem witness_UpstreamGrantDeciphersARead :
    let r := bandReq .read (.decipherRead cipher)
    (waiting r).orders.resetWait = none ∧ (waiting r).port.upstream = [r] ∧ (waiting r).upstreamTurn = true ∧
      r.access = .read ∧ r.treatment = .decipherRead cipher ∧
      (waiting r).jobs[cipher.job] = some { printJob with lines := 1 } ∧ printJob.state = .active ∧
      (waiting r).channel.outstanding.head? = some { id := r.id, tag := r.tag, answer := none } := by
  decide +kernel

theorem witness_UpstreamGrantDeciphersARead_stored :
    ∀ treatment : Treatment, treatment = .pass ∨ treatment = .rawRead →
      let r := bandReq .read treatment
      (waiting r).orders.resetWait = none ∧ (waiting r).port.upstream = [r] ∧ (waiting r).upstreamTurn = true ∧
        r.access = .read ∧ (∀ i : Fin 8, ∀ e ∈ (waiting r).protection.table[i], e.req.line ≠ r.line) ∧
        (waiting r).channel.outstanding.head? = some { id := r.id, tag := r.tag, answer := none } := by
  rintro _ (rfl | rfl) <;> decide +kernel

/-- A JOB CLOSE of the job, parked with two sides voided. -/
def closeOne : ParkedOrder := { kind := 0x15, serial := 9, window := 2, object := .job 0 2 }

/-- The state with that JOB CLOSE parked, and the job as it is CLOSING. -/
def closing (s : State) (j : Job) : State :=
  { s with orders := { s.orders with parked := [closeOne] }, jobs := put s.jobs 0 (some { j with state := .closing }) }

theorem closing_parked (s : State) (j : Job) (hc : s.orders.completed = []) (hr : s.orders.holding.length < 8) :
    CloseParked (closing s j) 0 2 closeOne [] [] := ⟨rfl, rfl, (by rintro q hq; cases hq), hc, hr⟩

theorem witness_UpstreamGrantDeciphersARead_closing :
    let r := bandReq .read (.decipherRead cipher)
    let j := { printJob with lines := 1 }
    let s := closing (waiting r) j
    CloseParked s cipher.job 2 closeOne [] [] ∧ s.orders.resetWait = none ∧ s.port.upstream = [r] ∧
      s.upstreamTurn = true ∧ r.treatment = .decipherRead cipher ∧
      s.jobs[cipher.job] = some { j with state := .closing } ∧ j.sides = 0 ∧ j.merges = 0 ∧ j.lines = 1 :=
  ⟨closing_parked _ _ rfl (by decide), by decide +kernel⟩

/-- The metering of the side after the given number of lines of plane 3. -/
def context (lines : Nat) : MeterContext :=
  { planes := #v[none, none, none, some { sum := 611456, pixels := 256, lines }]
    signature := 0xFFFFFFFF#32, saturated := false }

/-- The side after that number of lines. -/
def meteredSide (lines : Nat) : Side := { sideMetering with context := some (context lines) }

/-- The part with that side METERING, page memory as given, and a request waiting for the port. -/
def metered (m : List Host.Cell) (lines : Nat) (r : Req) : State :=
  { metering with
    mem := m
    sides := { metering.sides with records := [meteredSide lines] }
    port := { upstream := [r], own := [], last := .own }
    jobs := put lab.jobs 0 (some { printJob with sides := 1, lines := 1 })
    channel := { lab.channel with outstanding := [{ id := r.id, tag := r.tag, answer := none }], nextId := 1 } }

/-- A metered line of plane 3 for a side, and a read of it. -/
def readout (side : Option Nat) : Readout := { plane := 3, depth := 2, side }
def meterReq (side : Option Nat) : Req := bandReq .read (.meter (readout side))

/-- What the clauses about a line of no METERING side ask of a request. -/
abbrev Unattributable (s : State) (r : Req) (m : Readout) (j : Job) : Prop :=
  s.orders.resetWait = none ∧ s.port.upstream = [r] ∧ s.upstreamTurn = true ∧ r.access = .read ∧
    s.meteringSide = some (meteredSide 1) ∧ m.side ≠ some (meteredSide 1).uid ∧
    s.channel.outstanding.head? = some { id := 0, tag := 3, answer := none } ∧
    s.jobs[(0 : Fin 16)] = some j ∧ j.state = .active

theorem witness_UpstreamGrantDeciphersARead_unattributed :
    let j := { printJob with sides := 1, lines := 1 }
    let late := bandReq .read (.decipherAndMeter cipher (readout none))
    Unattributable (metered [] 1 (meterReq none)) (meterReq none) (readout none) j ∧
      (meterReq none).treatment = .meter (readout none) ∧
      Unattributable (metered [] 1 late) late (readout none) j ∧
      late.treatment = .decipherAndMeter cipher (readout none) := by decide +kernel

/-- What every clause about a line attributed to the side asks of the state and the line. -/
abbrev Attributed (s : State) (lines : Nat) (l : Line) : Prop :=
  s.orders.resetWait = none ∧ s.upstreamTurn = true ∧ s.meteringSide = some (meteredSide lines) ∧
    (readout (some 0)).side = some (meteredSide lines).uid ∧ hasPlane (meteredSide lines).planes 3 = true ∧
    (meteredSide lines).context = some (context lines) ∧
    (context lines).planes[(3 : Plane)] = some { sum := 611456, pixels := 256, lines } ∧
    lines < (meteredSide lines).expected[(3 : Plane)] ∧
    611456 + lineSum s.store.live.curves[(3 : Plane)] 2 l ≤ 1099511627775 ∧ 256 + 512 / 2 < 4294967295 ∧
    lines + 1 < 4294967295

theorem metered_numbered (m : List Host.Cell) (n : Nat) (r : Req) : SidesNumbered (metered m n r).sides where
  distinct := List.nodup_cons.mpr ⟨List.not_mem_nil, List.nodup_nil⟩
  fresh := by rintro x hx; cases List.mem_singleton.mp hx; exact Nat.zero_lt_one
  used := by rintro x hx; cases hx
  settled := by rintro x - hx; cases hx

theorem attributed (m : List Host.Cell) {n : Nat} (r : Req) (l : Line) (hn : n < 128)
    (h : 611456 + lineSum resetCurve 2 l ≤ 1099511627775) : Attributed (metered m n r) n l :=
  ⟨rfl, rfl, rfl, rfl, show hasPlane 8#4 3 = true by decide, rfl, rfl, hn, h, by decide, by omega⟩

theorem witness_UpstreamGrantDeciphersARead_attributed :
    let r := meterReq (some 0)
    let s := metered [] 1 r
    SidesNumbered s.sides ∧ Attributed s 1 (readLine s.mem r.line) ∧ s.port.upstream = [r] ∧ r.access = .read ∧
      r.treatment = .meter (readout (some 0)) ∧ hasPlane (meteredSide 1).planes 3 = true ∧
      ((meteredSide 2).meterOf 3).lines ≠ (meteredSide 1).expected[(3 : Plane)] :=
  ⟨metered_numbered _ _ _, by decide +kernel⟩

/-- Page memory whose line 1030 is the ciphertext of a line of zeros. -/
def cipherMem : List Host.Cell := writeLine [] 1030 fullMask (encipher cipher.key cipher.offset 0)

theorem cipherMem_line : readLine cipherMem 1030 = encipher cipher.key cipher.offset 0 :=
  readLine_writeLine_full _ _ _ ⟨List.Pairwise.nil, by simp⟩

/-- The read of that line for the side. -/
def decipherReq : Req := bandReq .read (.decipherAndMeter cipher (readout (some 0)))

theorem metered_job (m : List Host.Cell) (n : Nat) (r : Req) :
    (metered m n r).jobs[cipher.job] = some { printJob with sides := 1, lines := 1 } := rfl

theorem deciphered_zero : decipher cipher.key cipher.offset (readLine cipherMem 1030) = 0 := by
  rw [cipherMem_line, decipher_encipher]

theorem witness_UpstreamGrantDeciphersARead_deciphered :
    SidesNumbered (metered cipherMem 1 decipherReq).sides ∧
      Attributed (metered cipherMem 1 decipherReq) 1 (decipher cipher.key cipher.offset (readLine cipherMem 1030)) ∧
      (metered cipherMem 1 decipherReq).port.upstream = [decipherReq] ∧ decipherReq.access = .read ∧
      decipherReq.treatment = .decipherAndMeter cipher (readout (some 0)) ∧
      (metered cipherMem 1 decipherReq).jobs[cipher.job] = some { printJob with sides := 1, lines := 1 } ∧
      printJob.state = .active :=
  ⟨metered_numbered _ _ _, attributed _ _ _ (by decide) (by rw [deciphered_zero]; decide +kernel), rfl, rfl, rfl,
    metered_job _ _ _, rfl⟩

/-- The job whose last line the readout completes with. -/
def lastJob : Job := { printJob with sides := 1, lines := 1 }

theorem counters_room : (∀ k : Fin 8, alice.counters[k] < 4294967295) ∧
    ∀ k : Fin 8, lab.accounts.meters.sides[k] < 4294967295 := by decide +kernel

theorem completing_room (m : List Host.Cell) (r : Req) (j : Job) (h : j.settled = 2) :
    RoomToSettle (metered m 127 r) (meteredSide 127) j alice :=
  ⟨by rw [h]; decide, counters_room.1, counters_room.2, by decide⟩

theorem completing_lines (p : Plane) (h : hasPlane (meteredSide 127).planes p = true) :
    ((meteredSide 128).meterOf p).lines = (meteredSide 127).expected[p] := by revert p; decide +kernel

theorem witness_UpstreamGrantDeciphersARead_complete :
    let r := meterReq (some 0)
    let s := metered [] 127 r
    SidesNumbered s.sides ∧ RoomToSettle s (meteredSide 127) lastJob alice ∧
      Attributed s 127 (readLine s.mem r.line) ∧ s.port.upstream = [r] ∧
      r.treatment = .meter (readout (some 0)) ∧
      (∀ p : Plane, hasPlane (meteredSide 127).planes p = true →
        ((meteredSide 128).meterOf p).lines = (meteredSide 127).expected[p]) ∧
      s.jobs[(meteredSide 127).jobSlot] = some lastJob ∧ lastJob.keepsSlot ∧
      s.accounts.users[(meteredSide 127).userSlot] = some alice :=
  ⟨metered_numbered _ _ _, ⟨by decide, by decide +kernel, by decide +kernel, by decide⟩, by decide +kernel, rfl, rfl,
    completing_lines, by decide +kernel, .inl rfl, by decide +kernel⟩

theorem closing_attributed {s : State} {lines : Nat} {l : Line} (j : Job) (h : Attributed s lines l) :
    Attributed (closing s j) lines l := h

/-- The line that completes the readout, as it is handed over. -/
def lastLine : Line := decipher cipher.key cipher.offset (readLine cipherMem 1030)

theorem lastLine_sum : 611456 + lineSum resetCurve 2 lastLine ≤ 1099511627775 := by
  rw [lastLine, deciphered_zero]; decide +kernel

theorem completing_attributed : Attributed (metered cipherMem 127 decipherReq) 127 lastLine :=
  @attributed cipherMem 127 decipherReq lastLine (by decide) lastLine_sum

theorem witness_UpstreamGrantDeciphersARead_completeBound :
    SidesNumbered (metered cipherMem 127 decipherReq).sides ∧
      RoomToSettle (metered cipherMem 127 decipherReq) (meteredSide 127) lastJob alice ∧
      Attributed (metered cipherMem 127 decipherReq) 127 lastLine ∧
      (metered cipherMem 127 decipherReq).port.upstream = [decipherReq] ∧
      decipherReq.treatment = .decipherAndMeter cipher (readout (some 0)) ∧
      cipher.job = (meteredSide 127).jobSlot ∧
      (metered cipherMem 127 decipherReq).jobs[(meteredSide 127).jobSlot] = some lastJob ∧
      (lastJob.state = .active ∨ 0 < lastJob.sides) ∧ Job.keepsSlot { lastJob with lines := 0 } :=
  ⟨metered_numbered _ _ _, completing_room _ _ _ rfl, completing_attributed, rfl, rfl, rfl, rfl, .inl rfl, .inl rfl⟩

theorem witness_UpstreamGrantDeciphersARead_completeClosing :
    SidesNumbered (closing (metered cipherMem 127 decipherReq) lastJob).sides ∧
      RoomToSettle (closing (metered cipherMem 127 decipherReq) lastJob) (meteredSide 127) lastJob alice ∧
      Attributed (closing (metered cipherMem 127 decipherReq) lastJob) 127 lastLine ∧
      (closing (metered cipherMem 127 decipherReq) lastJob).port.upstream = [decipherReq] ∧
      CloseParked (closing (metered cipherMem 127 decipherReq) lastJob) (meteredSide 127).jobSlot 2 closeOne [] [] ∧
      (closing (metered cipherMem 127 decipherReq) lastJob).jobs[(meteredSide 127).jobSlot] =
        some { lastJob with state := .closing } ∧
      0 < lastJob.sides ∧ lastJob.sides = 1 ∧ lastJob.merges = 0 ∧ lastJob.lines - 1 = 0 :=
  ⟨metered_numbered cipherMem 127 decipherReq, ⟨by decide, counters_room.1, counters_room.2, by decide⟩,
    closing_attributed _ completing_attributed, rfl, closing_parked _ _ rfl (by decide), rfl, by decide, rfl, rfl, rfl⟩

theorem witness_EncipheredLineReadsBack :
    let r := bandReq (.write (BitVec.allOnes 64) (encipher cipher.key cipher.offset 9#512)) (.encipherWrite cipher)
    MemoryWf (waiting r).mem ∧ (waiting r).orders.resetWait = none ∧ (waiting r).port.upstream = [r] ∧
      (waiting r).upstreamTurn = true ∧
      r.access = .write (BitVec.allOnes 64) (encipher cipher.key cipher.offset 9#512) ∧
      r.treatment = .encipherWrite cipher ∧ (waiting r).jobs[cipher.job] = some { printJob with lines := 1 } ∧
      printJob.state = .active ∧ printJob.enciphered < 4294967295 :=
  ⟨by decide +kernel, rfl, rfl, by decide +kernel, rfl, rfl, by decide +kernel, rfl, by decide⟩

/-- The lab with one merge in entry 0 and one line of the part's own stream. -/
def merging (e : MergeEntry) (own : List OwnLine) : State :=
  { lab with
    protection := {
      table := put lab.protection.table 0 (some e), waitList := [], queues := [{ line := 1030, queue := [] }] }
    port := { upstream := [], own, last := .upstream }
    jobs := put lab.jobs 0 (some { printJob with merges := 1 })
    channel := { lab.channel with outstanding := [{ id := 0, tag := 3, answer := none }], nextId := 1 } }

theorem witness_MergeReadsAndOverlays_issue :
    let e := mergeEntry .ordering none
    (merging e []).orders.resetWait = none ∧ (merging e []).protection.table[0] = some e ∧ e.phase = .ordering ∧
      ∀ q ∈ (merging e []).port.upstream, q.line ≠ e.req.line := by decide +kernel

theorem witness_MergeReadsAndOverlays_grant :
    let e := mergeEntry .reading none
    let s := merging e [.mergeRead 0]
    s.orders.resetWait = none ∧ s.ownTurn = true ∧ s.port.own = [.mergeRead 0] ∧ s.protection.table[0] = some e ∧
      e.req.treatment = .merge cipher ∧ e.req.access = .write 1#64 5#512 := by decide +kernel

theorem witness_MergeWritebackCompletesTheMerge :
    let e := mergeEntry .writing (some 6#512)
    let s := merging e [.mergeWrite 0]
    MemoryWf s.mem ∧ s.orders.resetWait = none ∧ s.orders.parked = [] ∧ s.ownTurn = true ∧
      s.port.own = [.mergeWrite 0] ∧ s.protection.table[0] = some e ∧ e.merged = some 6#512 ∧
      e.req.treatment = .merge cipher ∧ s.jobs[cipher.job] = some { printJob with merges := 1 } ∧
      printJob.state = .active ∧ printJob.enciphered < 4294967295 ∧ s.queueOf e.req.line = [] ∧
      s.protection.waitList = [] ∧
      s.channel.outstanding.head? = some { id := e.req.id, tag := e.req.tag, answer := none } := by decide +kernel

/-- The merge of `merging` at its write-back, with a same-line queue and an entry wait list. -/
def servingMerge (queue waitList : List Req) : State :=
  let s := merging (mergeEntry .writing (some 6#512)) [.mergeWrite 0]
  { s with protection := { s.protection with queues := [{ line := 1030, queue }], waitList } }

/-- A claim of line 1031, and one of the merge's own line. -/
def claimOther : Req := { bandReq part (.merge cipher) with id := 1, line := 1031 }
def claimSame : Req := { bandReq part (.merge cipher) with id := 1 }

theorem witness_MergeWritebackCompletesTheMerge_served :
    (let s := servingMerge [bandReq .read .rawRead] [claimOther]
     MemoryWf s.mem ∧ s.orders.parked = [] ∧ s.ownTurn = true ∧ s.port.own = [.mergeWrite 0] ∧
       (∀ x ∈ s.queueOf 1030, x.isClaim = false) ∧ s.protection.waitList = claimOther :: [] ∧
       claimOther.treatment = .merge cipher) ∧
    (let s := servingMerge [bandReq .read .rawRead, claimSame, bandReq .read .rawRead] []
     MemoryWf s.mem ∧ s.orders.parked = [] ∧ s.ownTurn = true ∧ s.port.own = [.mergeWrite 0] ∧
       s.queueOf 1030 = [bandReq .read .rawRead] ++ claimSame :: [bandReq .read .rawRead] ∧
       (∀ x ∈ [bandReq .read .rawRead], x.isClaim = false) ∧ claimSame.treatment = .merge cipher) := by
  decide +kernel

/-- The lab with a result held and a line of its own on its way. -/
def writing (own : List OwnLine) : State :=
  { lab with
    port := { upstream := [], own, last := .upstream }
    orders := { lab.orders with holding := [{ serial := 7, kind := 1, window := 2, reason := none, values := [] }] } }

theorem witness_AcceptedReturnEntersTheRing :
    let s := writing [.ret .orderTaker 9#512]
    MemoryWf s.mem ∧ s.orders.resetWait = none ∧ s.orders.resetSequence = [] ∧ s.orders.completed = [] ∧
      s.orders.holding = [{ serial := 7, kind := 1, window := 2, reason := none, values := [] }] ∧
      s.ownTurn = true ∧ s.port.own = [.ret .orderTaker 9#512] := by decide +kernel

/-- What every clause about an accepted return asks. -/
abbrev Returning (s : State) (o : Owner) : Prop :=
  MemoryWf s.mem ∧ s.orders.resetWait = none ∧ s.orders.completed = [] ∧ s.ownTurn = true ∧ s.port.own = [.ret o 9#512]

/-- A parked order. -/
def parkedFor (kind : Byte) (o : ParkObject) : ParkedOrder := { kind, serial := 9, window := 2, object := o }

/-- The copy that an export of the lab takes, parked after a number of its returns. -/
def exporting (n : Nat) : ParkedOrder := parkedFor 0x48 (.snapshot (takeSnapshot lab) 6 n)

/-- The lab with that export and a return of it on its way. -/
def exportReturn (n : Nat) : State :=
  { writing [.ret .snapshots 9#512] with orders := { OrderTaker.reset with parked := [exporting n] } }

theorem witness_AcceptedReturnEntersTheRing_export :
    (Returning (exportReturn 6) .snapshots ∧ (exportReturn 6).orders.parked = [] ++ exporting 6 :: [] ∧
      (∀ q ∈ ([] : List ParkedOrder) ++ [], q.object.isSnapshot = false) ∧ (exportReturn 6).orders.holding.length < 8 ∧
      6 + 1 < (takeSnapshot lab).users.length + 7) ∧
    (Returning (exportReturn 7) .snapshots ∧ (exportReturn 7).orders.parked = [] ++ exporting 7 :: [] ∧
      (exportReturn 7).orders.holding.length < 8 ∧ (takeSnapshot lab).users.length + 7 ≤ 7 + 1) := by decide +kernel

theorem witness_AcceptedReturnEntersTheRing_sequence :
    let first : Result := { serial := 7, kind := 0x62, window := 2, reason := none, values := [] }
    let s := { writing [.ret .orderTaker 9#512] with
      orders := { OrderTaker.reset with resetSequence := [first, first] } }
    Returning s .orderTaker ∧ s.orders.resetSequence = first :: [first] := by decide +kernel

/-- A voided side, and one that closed after three of its parts were accepted. -/
def voidedSide : Side := { sideOne with state := .settled, outcome := some .voided }
def closedSide : Side := { sideMetering with uid := 5, state := .settled, outcome := some .short, partsWritten := 2 }

theorem witness_AcceptedReturnEntersTheRing_side :
    (let s := { writing [.ret .sideList 9#512] with
       sides := { lab.sides with records := [closedSide, voidedSide], settledOrder := [0, 5] } }
     Returning s .sideList ∧ s.sides.settledOrder = 0 :: [5] ∧ s.sideWithUid 0 = some voidedSide ∧
      ¬voidedSide.partsWritten + 1 < 1 ∧ voidedSide.context = none) ∧
    (let s := { writing [.ret .sideList 9#512] with
       sides := { lab.sides with records := [closedSide], settledOrder := [5] } }
     Returning s .sideList ∧ s.sides.settledOrder = 5 :: [] ∧ s.sideWithUid 5 = some closedSide ∧
      closedSide.partsWritten + 1 < 4 ∧ closedSide.context ≠ none) := by decide +kernel

/-- Two results held, a voided side waiting, and the given owner served last. -/
def offering (last : Owner) (w r : Nat) : State :=
  let s := writing [.ret .orderTaker 9#512]
  { s with
    orders := { s.orders with holding := s.orders.holding ++ s.orders.holding }
    sides := { lab.sides with records := [voidedSide], settledOrder := [0] }
    writer := { s.writer with position := last, writeIndex := w, readIndex := r } }

/-- The owner of the return on its way after an acceptance. -/
def nextOwner (s : State) : Option Owner :=
  match exec .returnAccept s with
  | .next t => t.port.own.findSome? fun
    | .ret o _ => some o
    | _ => none
  | _ => none

theorem witness_AcceptedReturnEntersTheRing_next :
    Returning (offering .orderTaker 0 0) .orderTaker ∧ (∀ q ∈ ([] : List OwnLine), q.isReturn = false) ∧
      nextOwner (offering .orderTaker 0 0) = some .sideList ∧ nextOwner (offering .sideList 0 0) = some .orderTaker ∧
      nextOwner (offering .snapshots 446 0) = none ∧ nextOwner (offering .snapshots 446 1) = some .sideList ∧
      nextOwner (exportReturn 6) = some .snapshots ∧ nextOwner (writing [.ret .orderTaker 9#512]) = none := by
  decide +kernel

/-- A result whose values fill the line, and the positions of a copy's returns. -/
theorem witness_AcceptedReturnEntersTheRing_bytes :
    9 + (([u8 0, u16 1, u8 2, { width := 40, value := 5 }, u64 3, u16 4, u8 5] : List Val).map Val.width).sum = 64 ∧
      (takeSnapshot lab).users[0]? = some (copyUser 0 alice) := by decide +kernel

theorem witness_RewritesShowTheState :
    (let s := writing [.header]
     MemoryWf s.mem ∧ s.orders.resetWait = none ∧ s.channel.waiting = [] ∧ s.ownTurn = true ∧
       s.port.own = [.header]) ∧
    (let s := writing [.summary]
     MemoryWf s.mem ∧ s.orders.resetWait = none ∧ s.channel.waiting = [] ∧ s.ownTurn = true ∧
       s.port.own = [.summary]) ∧
    (atRing 447 447).writer.writeIndex < 448 ∧ (atRing 447 447).writer.readIndex < 448 ∧
      (atRing 447 447).writer.epoch < 65536 ∧ (atRing 447 447).store.liveGen < 65536 := by decide +kernel

theorem witness_RewritesShowTheState_summary :
    busy.sides.records.length < 256 ∧ busy.accounts.meters.unaccounted < 4294967296 ∧
      ∀ p : Plane, ∀ n ∈ busy.cartridges.slots[p].remaining.map fun x => x - busy.cartridges.slots[p].owed,
        n < 4294967296 := by decide +kernel

/-! #### Sides, switches and cartridges -/

theorem witness_SideMarkStartsTheOldestSide :
    (busy.orders.resetWait = none ∧ busy.meteringSide = none ∧ busy.store.pending = none ∧
      busy.oldestAdmitted = some sideOne) ∧
    (lab.orders.resetWait = none ∧ lab.meteringSide = none ∧ lab.store.pending = none ∧ lab.oldestAdmitted = none) := by
  decide +kernel

theorem metering_numbered : SidesNumbered metering.sides where
  distinct := by decide +kernel
  fresh := by decide +kernel
  used := by decide +kernel
  settled := by decide +kernel

theorem witness_SideMarkStartsTheOldestSide_metering :
    SidesNumbered metering.sides ∧ RoomToSettle metering sideMetering { printJob with sides := 1 } alice ∧
      metering.orders.resetWait = none ∧ metering.meteringSide = some sideMetering ∧
      metering.jobs[sideMetering.jobSlot] = some { printJob with sides := 1 } ∧
      metering.accounts.users[sideMetering.userSlot] = some alice ∧ Job.keepsSlot { printJob with sides := 1 } ∧
      Job.keepsSlot { printJob with state := .closing, sides := 2 } :=
  ⟨metering_numbered, ⟨by decide, by decide +kernel, by decide +kernel, by decide⟩, by decide +kernel,
    by decide +kernel, by decide +kernel, by decide +kernel, .inl rfl, .inr (.inl (by decide))⟩

/-- The state with one parked order. -/
def withParked (s : State) (p : ParkedOrder) : State := { s with orders := { s.orders with parked := [p] } }

/-- The lab with a pending switch. -/
def switching : State :=
  { withParked lab (parkedFor 0x25 .switch) with
    store := { lab.store with pending := some { set := lab.store.staged, serial := 9 } } }

theorem witness_SideMarkStartsTheOldestSide_pending :
    switching.orders.resetWait = none ∧ switching.meteringSide = none ∧ switching.store.pending.isSome ∧
      switching.orders.parked = [] ++ parkedFor 0x25 .switch :: [] ∧ (parkedFor 0x25 .switch).object = .switch ∧
      (∀ q ∈ ([] : List ParkedOrder), q.object.isSwitch = false) ∧ switching.orders.holding.length < 8 ∧
      switching.orders.completed = [] := by decide +kernel

theorem witness_SwitchMakesThePendingCopyLive :
    switching.orders.resetWait = none ∧
      switching.store.pending = some { set := lab.store.staged, serial := 9 } ∧ switching.meteringSide = none ∧
      switching.orders.parked = [] ++ parkedFor 0x25 .switch :: [] ∧ (parkedFor 0x25 .switch).object = .switch ∧
      (∀ q ∈ ([] : List ParkedOrder), q.object.isSwitch = false) ∧ switching.orders.holding.length < 8 ∧
      switching.orders.completed = [] := by decide +kernel

/-- The lab with a cartridge in slot 3 and an exchange on the line. -/
def onLine (c : CartridgeSlot) (m : LineMessage) (ph : ExchangePhase) : State :=
  { lab with cartridges := { lab.cartridges with
      slots := put lab.cartridges.slots 3 c
      line := some { slot := 3, address := 43, message := m, phase := ph } } }

/-- A debit of 30 tu. -/
def debit30 : LineMessage := .debit 30 1 (.other 2)

/-- The exchange of `onLine`. -/
def exchange (m : LineMessage) (ph : ExchangePhase) : LineExchange :=
  { slot := 3, address := 43, message := m, phase := ph }

theorem witness_SeatedSlotsSettleAndAreProbed_insert :
    lab.orders.resetWait = none ∧ lab.cartridges.slots[(2 : Plane)].seated = false := by decide +kernel

theorem witness_SeatedSlotsSettleAndAreProbed_timers :
    let s := { onLine genuineSlot (.challenge 1) .write with
      cartridges := { (onLine genuineSlot (.challenge 1) .write).cartridges with
        slots := put (put lab.cartridges.slots 0 { CartridgeSlot.empty with settlingTimer := some 500 }) 1
          { CartridgeSlot.empty with retryTimer := some 100 } } }
    s.orders.resetWait = none ∧ s.cartridges.line = some (exchange (.challenge 1) .write) ∧
      s.cartridges.slots[(0 : Plane)].settlingTimer = some 500 ∧
      s.cartridges.slots[(1 : Plane)].retryTimer = some 100 := by decide +kernel

/-- The lab with the first proof attempt of slot 3 in its answer wait, and a slot 0 as given. -/
def otherDue (c : CartridgeSlot) : State :=
  let s := onLine { genuineSlot with exchange := .probe, attempts := 1 } (.challenge 1) .wait
  { s with cartridges := { s.cartridges with slots := put s.cartridges.slots 0 c } }

/-- What the clauses about the arbiter ask, with the slots that it would choose for a probe and for a debit. -/
abbrev Arbitrates (s : State) (probe debit : Option Plane) : Prop :=
  let chosen := fun due : CartridgeSlot → Bool =>
    ([s.cartridges.position + 1, s.cartridges.position + 2, s.cartridges.position + 3, s.cartridges.position] :
      List Plane).find? fun q : Plane =>
        decide (q ≠ 3) && decide (s.cartridges.slots[q].exchange = .idle) && due s.cartridges.slots[q]
  s.orders.resetWait = none ∧ s.cartridges.line = some (exchange (.challenge 1) .wait) ∧
    s.cartridges.slots[(3 : Plane)].attempts < 3 ∧ chosen CartridgeSlot.probePending = probe ∧
    chosen CartridgeSlot.debitPending = debit

theorem witness_SeatedSlotsSettleAndAreProbed_arbiter :
    Arbitrates (otherDue { genuineSlot with probePending := true }) (some 0) none ∧
      Arbitrates (otherDue { genuineSlot with debitPending := true }) none (some 0) ∧
      Arbitrates (otherDue genuineSlot) none none := by decide +kernel

theorem witness_RemovalMovesOwedDrawToTheAbsentList :
    busy.orders.resetWait = none ∧ busy.cartridges.slots[(3 : Plane)].seated = true ∧
      0 < busy.cartridges.slots[(3 : Plane)].owed ∧ (∀ x ∈ busy.cartridges.line, x.slot ≠ 3) ∧
      busy.cartridges.slots[(3 : Plane)].verdict ≠ .unknown ∧ busy.cartridges.absent.length < 8 := by decide +kernel

/-- An entry of the absent list. -/
def absentOne (n : Nat) : AbsentEntry :=
  { serial := BitVec.ofNat 64 n, plane := 0, owed := 4, remaining := some 9, uncertain := none }

theorem witness_RemovalMovesOwedDrawToTheAbsentList_full :
    let s := { busy with cartridges := { busy.cartridges with absent := (List.range 8).map absentOne } }
    s.orders.resetWait = none ∧ s.cartridges.slots[(3 : Plane)].seated = true ∧
      0 < s.cartridges.slots[(3 : Plane)].owed ∧ (∀ x ∈ s.cartridges.line, x.slot ≠ 3) ∧
      s.cartridges.absent = absentOne 0 :: (List.range' 1 7).map absentOne ∧ 8 ≤ s.cartridges.absent.length := by
  decide +kernel

/-- A removal during the slot's own debit or proof, with a debit of another slot on the line, and without owed draw. -/
theorem witness_RemovalMovesOwedDrawToTheAbsentList_exchange :
    (let s := onLine { genuineSlot with exchange := .debit } debit30 .read
     s.orders.resetWait = none ∧ s.cartridges.slots[(3 : Plane)].seated = true ∧
       s.cartridges.line = some (exchange debit30 .read) ∧ (exchange debit30 .read).slot = 3 ∧
       0 < s.cartridges.slots[(3 : Plane)].owed ∧ s.cartridges.absent.length < 8) ∧
    (let s := onLine { genuineSlot with exchange := .probe, owed := 0 } (.challenge 1) .wait
     s.orders.resetWait = none ∧ s.cartridges.slots[(3 : Plane)].seated = true ∧
       s.cartridges.line = some (exchange (.challenge 1) .wait) ∧ s.cartridges.slots[(3 : Plane)].owed = 0) ∧
    (let s := onLine genuineSlot debit30 .read
     let s := { s with cartridges := { s.cartridges with slots := put s.cartridges.slots 1 genuineSlot } }
     s.orders.resetWait = none ∧ s.cartridges.slots[(1 : Plane)].seated = true ∧
       s.cartridges.line = some (exchange debit30 .read) ∧ (exchange debit30 .read).slot ≠ 1) := by decide +kernel

theorem witness_RemovalMovesOwedDrawToTheAbsentList_parked :
    let s := withParked busy (parkedFor 0x50 (.cartridge 3))
    s.orders.resetWait = none ∧ s.cartridges.slots[(3 : Plane)].seated = true ∧
      s.orders.parked = [] ++ parkedFor 0x50 (.cartridge 3) :: [] ∧
      (parkedFor 0x50 (.cartridge 3)).object = .cartridge 3 ∧
      (∀ q ∈ ([] : List ParkedOrder), q.object ≠ .cartridge 3) ∧ s.orders.completed = [] ∧
      s.orders.holding.length < 8 := by decide +kernel

theorem witness_ExchangesRunThroughTheirPhases :
    ((onLine genuineSlot (.challenge 1) .write).orders.resetWait = none ∧
      (onLine genuineSlot (.challenge 1) .write).cartridges.line = some (exchange (.challenge 1) .write)) ∧
    ((onLine genuineSlot debit30 .write).orders.resetWait = none ∧
      (onLine genuineSlot debit30 .write).cartridges.line = some (exchange debit30 .write)) ∧
    ((onLine genuineSlot debit30 .wait).orders.resetWait = none ∧
      (onLine genuineSlot debit30 .wait).cartridges.line = some (exchange debit30 .wait)) ∧
    (let s := onLine { genuineSlot with attempts := 2 } (.challenge 1) .wait
     s.orders.resetWait = none ∧ s.cartridges.line = some (exchange (.challenge 1) .wait) ∧
       s.cartridges.slots[(3 : Plane)].attempts < 3) := by decide +kernel

/-- The third proof attempt of slot 3 in a phase, with a CARTRIDGE PROBE of it parked. -/
def thirdAttempt (ph : ExchangePhase) : State :=
  withParked (onLine { genuineSlot with exchange := .probe, attempts := 3 } (.challenge 1) ph)
    (parkedFor 0x50 (.cartridge 3))

/-- What the answer to the parked CARTRIDGE PROBE asks. -/
abbrev ProbeWaits (s : State) : Prop :=
  s.orders.parked = [] ++ parkedFor 0x50 (.cartridge 3) :: [] ∧ (parkedFor 0x50 (.cartridge 3)).object = .cartridge 3 ∧
    (∀ q ∈ ([] : List ParkedOrder), q.object ≠ .cartridge 3) ∧ s.orders.completed = [] ∧ s.orders.holding.length < 8

theorem witness_ExchangesRunThroughTheirPhases_third :
    (∀ ph, let s := thirdAttempt ph
      s.orders.resetWait = none ∧ s.cartridges.line = some (exchange (.challenge 1) ph) ∧
        3 ≤ s.cartridges.slots[(3 : Plane)].attempts ∧ s.cartridges.slots[(3 : Plane)].probePending = false ∧
        s.cartridges.slots[(3 : Plane)].debitPending = false ∧ ProbeWaits s) ∧
    endsSilent (exchange (.challenge 1) .write) (.challengeWriteEnd false) ∧
    endsSilent (exchange (.challenge 1) .wait) .answerWaitExpiry ∧
    endsSilent (exchange (.challenge 1) .read) (.answerReadEnd none) :=
  ⟨by rintro (_ | _ | _) <;> decide +kernel, .inl ⟨rfl, rfl⟩, .inr (.inl ⟨rfl, rfl⟩), .inr (.inr ⟨rfl, rfl⟩)⟩

/-- A proof answer for a slot with the tag that the family secret gives it, or with another. -/
def proofFor (p : Plane) (good : Bool) : ProofAnswer :=
  let tag := answerTag lab.fuses.familySecret 1 78 p 4000
  { serial := 78, plane := p, remaining := 4000, tag := if good then tag else .other 0 }

/-- A slot under proof, new to the part. -/
def proving (n : Nat) : CartridgeSlot :=
  { CartridgeSlot.empty with seated := true, exchange := .probe, attempts := n }

theorem witness_ProofAnswersAreJudged_tag :
    (proofFor 3 true).tag = answerTag lab.fuses.familySecret 1 78 3 4000 := rfl

theorem witness_ProofAnswersAreJudged_bad :
    let s := onLine (proving 2) (.challenge 1) .read
    let a := proofFor 3 false
    s.orders.resetWait = none ∧ s.cartridges.line = some (exchange (.challenge 1) .read) ∧
      s.cartridges.slots[(3 : Plane)].probePending = false ∧ s.cartridges.slots[(3 : Plane)].debitPending = false ∧
      a.tag ≠ answerTag s.fuses.familySecret 1 a.serial a.plane a.remaining.toNat ∧
      s.cartridges.slots[(3 : Plane)].attempts < 3 :=
  ⟨rfl, rfl, by decide +kernel, by decide +kernel, nofun, by decide +kernel⟩

theorem witness_ProofAnswersAreJudged_third :
    let s := withParked (onLine (proving 3) (.challenge 1) .read) (parkedFor 0x50 (.cartridge 3))
    let a := proofFor 3 false
    s.orders.resetWait = none ∧ s.cartridges.line = some (exchange (.challenge 1) .read) ∧
      s.cartridges.slots[(3 : Plane)].probePending = false ∧ s.cartridges.slots[(3 : Plane)].debitPending = false ∧
      a.tag ≠ answerTag s.fuses.familySecret 1 a.serial a.plane a.remaining.toNat ∧
      3 ≤ s.cartridges.slots[(3 : Plane)].attempts ∧ ProbeWaits s :=
  ⟨rfl, rfl, by decide +kernel, by decide +kernel, nofun, by decide +kernel, by decide +kernel⟩

theorem witness_ProofAnswersAreJudged_plane :
    let s := onLine (proving 1) (.challenge 1) .read
    let a := proofFor 2 true
    s.orders.resetWait = none ∧ s.cartridges.line = some (exchange (.challenge 1) .read) ∧
      s.cartridges.slots[(3 : Plane)].probePending = false ∧ s.cartridges.slots[(3 : Plane)].debitPending = false ∧
      a.tag = answerTag s.fuses.familySecret 1 a.serial a.plane a.remaining.toNat ∧ a.plane ≠ 3 :=
  ⟨rfl, rfl, by decide +kernel, by decide +kernel, rfl, by decide +kernel⟩

/-- What a pass of slot 3 with serial 78 asks when the slot is `c` and the absent list `absent`. -/
abbrev Passes (c : CartridgeSlot) (absent : List AbsentEntry) : Prop :=
  let s := { onLine c (.challenge 1) .read with
    cartridges := { (onLine c (.challenge 1) .read).cartridges with absent } }
  s.orders.resetWait = none ∧ s.cartridges.line = some (exchange (.challenge 1) .read) ∧
    s.cartridges.slots[(3 : Plane)] = c ∧ c.probePending = false ∧ c.debitPending = false ∧
    (proofFor 3 true).plane = 3 ∧ c.serial ≠ some (proofFor 3 true).serial ∧ (c.serial = none → c.owed = 0) ∧
    s.cartridges.absent = absent ∧ 30 < s.cartridges.policy.threshold

/-- A slot that passed with serial 77 before, as it is proven again. -/
def otherSerial : CartridgeSlot := { genuineSlot with exchange := .probe, attempts := 2, uncertain := some 4 }

/-- No entry of `absentOne` has serial 78. -/
theorem absentOne_other {l : List Nat} (h : ∀ n ∈ l, n < 78) :
    ∀ e ∈ l.map absentOne, e.serial ≠ (proofFor 3 true).serial := by
  intro e he
  obtain ⟨n, hn, rfl⟩ := List.mem_map.mp he
  have := h n hn
  show BitVec.ofNat 64 n ≠ 78#64
  bv_omega

theorem witness_ProofAnswersAreJudged_pass :
    Passes (proving 1) [] ∧
      (Passes otherSerial ((List.range 8).map absentOne) ∧ 0 < otherSerial.owed ∧
        8 ≤ ((List.range 8).map absentOne).length ∧
        ∀ e ∈ (List.range 8).map absentOne, e.serial ≠ (proofFor 3 true).serial) :=
  ⟨by decide +kernel, by decide +kernel, by decide, by decide, absentOne_other (by decide)⟩

/-- A slot under proof that holds serial 78 already, with a last confirmed count and an uncertain debit. -/
def reproving (last : Nat) (uncertain : Option Nat) : CartridgeSlot :=
  { proving 1 with serial := some 78, remaining := some last, uncertain, owed := 30, verdict := .doubtful }

/-- What the clauses about a known serial ask. -/
structure Reproves (last : Nat) (uncertain : Option Nat) : Prop where
  line : (onLine (reproving last uncertain) (.challenge 1) .read).cartridges.line =
    some (exchange (.challenge 1) .read)
  idle : (onLine (reproving last uncertain) (.challenge 1) .read).orders.resetWait = none
  slot : (onLine (reproving last uncertain) (.challenge 1) .read).cartridges.slots[(3 : Plane)] =
    reproving last uncertain
  good : (proofFor 3 true).tag = answerTag lab.fuses.familySecret 1 78 3 4000
  plane : (proofFor 3 true).plane = 3
  known : (reproving last uncertain).serial = some (proofFor 3 true).serial
  count : (proofFor 3 true).remaining.toNat = 4000

theorem reproves (last : Nat) (uncertain : Option Nat) : Reproves last uncertain :=
  ⟨rfl, rfl, rfl, rfl, rfl, rfl, rfl⟩

theorem witness_ProofAnswersAreJudged_known :
    (Reproves 3999 none ∧ (reproving 3999 none).remaining = some 3999 ∧ 3999 < 4000) ∧
    (Reproves 4030 (some 30) ∧ (reproving 4030 (some 30)).uncertain = some 30 ∧ 4000 + 30 = 4030 ∧
      30 - 30 < lab.cartridges.policy.threshold) ∧
    (Reproves 4000 (some 30) ∧ 4000 ≤ 4000 ∧ (∀ u, (reproving 4000 (some 30)).uncertain = some u → 4000 + u ≠ 4000) ∧
      30 < lab.cartridges.policy.threshold) :=
  ⟨⟨reproves _ _, rfl, by decide⟩, ⟨reproves _ _, rfl, rfl, by decide +kernel⟩,
    ⟨reproves _ _, by decide, (by rintro u hu; cases hu; decide), by decide +kernel⟩⟩

/-- The absent list with an entry of serial 78 between two others. -/
def absentWith (last : Nat) (uncertain : Option Nat) : List AbsentEntry :=
  [absentOne 0] ++ { serial := 78, plane := 3, owed := 4, remaining := some last, uncertain } :: [absentOne 1]

/-- The entry comes back without an uncertain debit, with one that was applied and one that was not, and with a count
that the answer exceeds; to a slot new to the part, and to one that holds another serial. -/
theorem witness_ProofAnswersAreJudged_absent :
    (∀ b ∈ [0].map absentOne, b.serial ≠ (proofFor 3 true).serial) ∧
    (proofFor 3 true).serial = 78 ∧ (proofFor 3 true).remaining.toNat = 4000 ∧
    ((4 : Nat) < lab.cartridges.policy.threshold) ∧
    (Passes (proving 1) (absentWith 4000 none) ∧ 4000 ≤ 4000) ∧
    (Passes otherSerial (absentWith 4002 (some 2)) ∧ 4000 + 2 = 4002) ∧
    (Passes otherSerial (absentWith 4002 (some 3)) ∧ 4000 ≤ 4002 ∧ 4000 + 3 ≠ 4002) ∧
    (Passes otherSerial (absentWith 3999 (some 2)) ∧ 3999 < 4000) :=
  ⟨absentOne_other (by decide), rfl, rfl, by decide +kernel, by decide +kernel, by decide +kernel, by decide +kernel,
    by decide +kernel⟩

/-- A confirmation of the debit of 30 tu with the tag that the family secret gives it, or with another. -/
def confirmation (good : Bool) : DebitConfirmation :=
  let tag := confirmationTag lab.fuses.familySecret 77 1 30 4970
  { remaining := 4970, tag := if good then tag else .other 0 }

theorem witness_ConfirmationSettlesTheDebit_good :
    let s := onLine { genuineSlot with exchange := .debit } debit30 .read
    let c := s.cartridges.slots[(3 : Plane)]
    let k := confirmation true
    s.orders.resetWait = none ∧ s.cartridges.line = some (exchange debit30 .read) ∧ 0 < 30 ∧ 30 ≤ c.owed ∧
      k.tag = confirmationTag s.fuses.familySecret (c.serial.getD 0) 1 30 k.remaining.toNat ∧
      k.remaining.toNat ≤ c.remaining.getD 0 - 30 ∧ c.probePending = false ∧ c.debitPending = false ∧
      c.owed - 30 < s.cartridges.policy.threshold :=
  ⟨rfl, rfl, by decide, by decide +kernel, rfl, by decide +kernel, by decide +kernel, by decide +kernel,
    by decide +kernel⟩

/-- The debit of 30 tu of slot 3 in a phase. -/
def debiting (ph : ExchangePhase) : State := onLine { genuineSlot with exchange := .debit } debit30 ph

theorem witness_ConfirmationSettlesTheDebit_bad :
    let s := debiting .read
    let c := s.cartridges.slots[(3 : Plane)]
    s.orders.resetWait = none ∧ s.cartridges.line = some (exchange debit30 .read) ∧ 0 < 30 ∧
      30 ≤ c.owed ∧ c.seated = true ∧ c.verdict ≠ .doubtful ∧
      (confirmation false).tag ≠ confirmationTag s.fuses.familySecret (c.serial.getD 0) 1 30 4970 ∧
      ¬(4971#32).toNat ≤ c.remaining.getD 0 - 30 :=
  ⟨rfl, rfl, by decide, by decide +kernel, by decide +kernel, by decide +kernel, nofun, by decide +kernel⟩

theorem witness_ConfirmationSettlesTheDebit_silent :
    (∀ ph, (debiting ph).orders.resetWait = none ∧
      (debiting ph).cartridges.line = some (exchange debit30 ph) ∧
      30 ≤ (debiting ph).cartridges.slots[(3 : Plane)].owed) ∧
    endsSilent (exchange debit30 .write) (.amountWriteEnd false) ∧
    endsSilent (exchange debit30 .wait) .answerWaitExpiry ∧
    endsSilent (exchange debit30 .read) (.confirmationReadEnd none) :=
  ⟨by rintro (_ | _ | _) <;> decide +kernel, .inl ⟨rfl, rfl⟩, .inr (.inl ⟨rfl, rfl⟩), .inr (.inr ⟨rfl, rfl⟩)⟩

/-! #### Orders -/

/-- The order is executed, and a property of its entry and the state holds beside it. -/
theorem both {s : State} {k : Byte} {vs : List Val} {P : Prop}
    (h : Ready (queued s vs) k (order vs) [] ∧ P) : (queued s vs).Executes k (order vs) [] ∧ P :=
  ⟨h.1.executes, h.2⟩

theorem witness_SourceSetReplacesTheClass :
    (queued lab [u8 1, u16 7, u8 63, u8 3]).Executes 0x01#8 (order [u8 1, u16 7, u8 63, u8 3]) [] ∧
      (order [u8 1, u16 7, u8 63, u8 3]).num 3 1 = (63 : Fin 64).val ∧
      (order [u8 1, u16 7, u8 63, u8 3]).num 4 1 = SourceClass.general.code := both (by decide +kernel)

theorem witness_SourceSetReplacesTheClass_bad :
    (queued lab [u8 1, u16 7, u8 64, u8 4]).Executes 0x01#8 (order [u8 1, u16 7, u8 64, u8 4]) [] ∧
      (63 < (order [u8 1, u16 7, u8 64, u8 3]).num 3 1 ∧ 3 < (order [u8 1, u16 7, u8 64, u8 4]).num 4 1) :=
  both (by decide +kernel)

/-- A REGION DEFINE of a slot and a range, with its binding and its band fields. -/
def defineVals (slot base size : Nat) (binding band : List Val) : List Val :=
  [u8 2, u16 7, u8 slot, u32 base, u32 size, u8 (if band = [] then 0 else 1)] ++ binding ++ band

/-- No tag, a tag, and a geometry. -/
def noTag : List Val := [u8 0, u16 0]
def withTag (tag : Nat) : List Val := [u8 1, u16 tag]
def geometry (plane depth row : Nat) : List Val := [u8 plane, u8 depth, u16 row]

/-- What the statement asks of an order that is refused for a reason. -/
abbrev RefusesDefine (s : State) (e : OrderEntry) (tag : Option Nat) (reason : Reason) : Prop :=
  s.Executes 0x02#8 e [] ∧ ((e.byte 13 = 0#8 ∧ tag = none) ∨ (e.byte 13 = 1#8 ∧ tag = some (e.num 14 2))) ∧
    ∃ before fails after, regionFaults s e tag = before ++ (reason, fails) :: after ∧ (∀ x ∈ before, ¬x.2) ∧ fails

/-- No tag is given, so no check about a job fails. -/
theorem no_job_without_tag {P : Nat → Prop} : ¬∃ n, (none : Option Nat) = some n ∧ P n := by rintro ⟨n, h, -⟩; cases h

theorem witness_RegionDefineInstallsOrRefuses :
    let vs := defineVals 31 4096 64 noTag (geometry 0 2 8)
    (queued lab vs).Executes 0x02#8 (order vs) [] ∧ (order vs).byte 13 = 0#8 ∧
      (order vs).num 3 1 = (31 : Fin 32).val ∧ ∀ x ∈ regionFaults (queued lab vs) (order vs) none, ¬x.2 := by
  refine ⟨Ready.executes (by decide +kernel), by decide +kernel, by decide +kernel, ?_⟩
  have other : ∀ i : Fin 32, ∀ r ∈ lab.classifier.regions[i], r = bandK := by decide +kernel
  simp only [regionFaults, List.forall_mem_cons]
  refine ⟨by decide +kernel, by decide +kernel, by decide +kernel, by decide +kernel, no_job_without_tag,
    (by rintro ⟨n, k, j, h, -⟩; cases h), by decide +kernel, ?_, nofun⟩
  rintro ⟨-, i, r, hr, p, d, n, hk, hp, -⟩
  rw [other i r hr] at hk
  cases hk
  exact absurd hp (by decide +kernel)

/-- The first reasons of R10, each at a boundary: slot 32, slot 3 in use, a range one line too long, and a range that
meets region 3 in its first line. -/
theorem witness_RegionDefineInstallsOrRefuses_early :
    RefusesDefine (queued lab (defineVals 32 4096 64 noTag [])) (order (defineVals 32 4096 64 noTag [])) none .badArg ∧
    RefusesDefine (queued lab (defineVals 3 4096 64 noTag [])) (order (defineVals 3 4096 64 noTag [])) none .inUse ∧
    RefusesDefine (queued lab (defineVals 31 16777215 2 noTag [])) (order (defineVals 31 16777215 2 noTag [])) none
      .range ∧
    RefusesDefine (queued lab (defineVals 31 1023 2 noTag [])) (order (defineVals 31 1023 2 noTag [])) none
      .overlap := by
  refine ⟨⟨Ready.executes (by decide +kernel), .inl (by decide +kernel), [], _, _, rfl, nofun, by decide +kernel⟩,
    ⟨Ready.executes (by decide +kernel), .inl (by decide +kernel), [_], _, _, rfl, ?_, by decide +kernel⟩,
    ⟨Ready.executes (by decide +kernel), .inl (by decide +kernel), [_, _], _, _, rfl, ?_, by decide +kernel⟩,
    ⟨Ready.executes (by decide +kernel), .inl (by decide +kernel), [_, _, _], _, _, rfl, ?_, by decide +kernel⟩⟩ <;>
    simp only [List.forall_mem_cons, List.not_mem_nil, false_imp_iff, implies_true] <;> decide +kernel

theorem witness_RegionDefineInstallsOrRefuses_job :
    RefusesDefine (queued lab (defineVals 31 4096 1 (withTag 9) [])) (order (defineVals 31 4096 1 (withTag 9) []))
      (some 9) .noJob ∧
    RefusesDefine (queued (closing lab printJob) (defineVals 31 4096 1 (withTag 1) []))
      (order (defineVals 31 4096 1 (withTag 1) [])) (some 1) .jobState := by
  refine ⟨⟨Ready.executes (by decide +kernel), .inr (by decide +kernel), [_, _, _, _], _, _, rfl, ?_, 9, rfl,
      by decide +kernel⟩,
    ⟨Ready.executes (by decide +kernel), .inr (by decide +kernel), [_, _, _, _, _], _, _, rfl, ?_, 1, 0, _, rfl,
      by decide +kernel, rfl, nofun⟩⟩ <;>
    simp only [List.forall_mem_cons, List.not_mem_nil, false_imp_iff, implies_true]
  · decide +kernel
  · refine ⟨by decide +kernel, by decide +kernel, by decide +kernel, by decide +kernel, ?_, trivial⟩
    rintro ⟨n, h, hn⟩
    cases h
    exact hn 0 _ rfl rfl

theorem witness_RegionDefineInstallsOrRefuses_band :
    RefusesDefine (queued lab (defineVals 31 4096 56 noTag (geometry 0 2 8)))
      (order (defineVals 31 4096 56 noTag (geometry 0 2 8))) none .geometry ∧
    RefusesDefine (queued lab (defineVals 31 4096 128 noTag (geometry 3 4 16)))
      (order (defineVals 31 4096 128 noTag (geometry 3 4 16))) none .mismatch := by
  refine ⟨⟨Ready.executes (by decide +kernel), .inl (by decide +kernel), [_, _, _, _, _, _], _, _, rfl, ?_,
      by decide +kernel⟩,
    ⟨Ready.executes (by decide +kernel), .inl (by decide +kernel), [_, _, _, _, _, _, _], _, _, rfl, ?_,
      by decide +kernel, 3, bandK, rfl, 3, 2, 8, rfl, by decide +kernel, .inl (by decide +kernel)⟩⟩ <;>
    simp only [List.forall_mem_cons, List.not_mem_nil, false_imp_iff, implies_true]
  · exact ⟨by decide +kernel, by decide +kernel, by decide +kernel, by decide +kernel, no_job_without_tag,
      (by rintro ⟨n, k, j, h, -⟩; cases h), trivial⟩
  · exact ⟨by decide +kernel, by decide +kernel, by decide +kernel, by decide +kernel, no_job_without_tag,
      (by rintro ⟨n, k, j, h, -⟩; cases h), by decide +kernel, trivial⟩

theorem witness_RegionRemovalFreesTheSlot :
    (queued lab [u8 3, u16 7, u8 3]).Executes 0x03#8 (order [u8 3, u16 7, u8 3]) [] ∧
      (let s := queued lab [u8 3, u16 7, u8 3]
       s.classifier.regions[(3 : Fin 32)] = some bandK ∧ s.mergesOn bandK.uid = 0 ∧
         s.planeMetering bandK.kind = false ∧ s.orders.completed = [] ∧ s.orders.holding.length < 8 ∧
         s.orders.resetWait = none ∧ (order [u8 3, u16 7, u8 3]).num 3 1 = (3 : Fin 32).val ∧
         (∀ p ∈ s.orders.parked, p.object ≠ .region 3) ∧ s.orders.parked.length < 8) := both (by decide +kernel)

theorem witness_RegionRemovalFreesTheSlot_attempt :
    let s := withParked lab (parkedFor 3 (.region 3))
    s.classifier.regions[(3 : Fin 32)] = some bandK ∧ s.mergesOn bandK.uid = 0 ∧
      s.planeMetering bandK.kind = false ∧ s.orders.completed = [] ∧ s.orders.holding.length < 8 ∧
      s.orders.resetWait = none ∧ s.orders.parked = [] ++ parkedFor 3 (.region 3) :: [] ∧
      (parkedFor 3 (.region 3)).object = .region 3 ∧
      ∀ q ∈ ([] : List ParkedOrder), q.object ≠ .region 3 := by decide +kernel

/-- What a JOB OPEN of slot 1 for the user needs of the state and the entry. -/
abbrev CanOpen (s : State) (e : OrderEntry) : Prop :=
  e.num 5 1 = JobKind.print.code ∧ e.num 3 2 ≠ 0 ∧ e.num 6 4 ≠ 0 ∧ s.accountsBusy = false ∧
    s.jobWithTag (e.num 3 2) = none ∧ s.jobs[(1 : Fin 16)] = none ∧ (∀ k : Fin 16, k < 1 → s.jobs[k] ≠ none) ∧
    s.userWithId (e.num 6 4) = some 0 ∧ s.accounts.users[(0 : Fin 64)] = some alice ∧ alice.state = .active

theorem witness_JobOpenTakesTheLowestFreeSlot :
    (queued lab [u8 0x10, u16 7, u16 2, u8 2, u32 100]).Executes 0x10#8
        (order [u8 0x10, u16 7, u16 2, u8 2, u32 100]) [] ∧
      CanOpen (queued lab [u8 0x10, u16 7, u16 2, u8 2, u32 100]) (order [u8 0x10, u16 7, u16 2, u8 2, u32 100]) ∧
      (order [u8 0x10, u16 7, u16 2, u8 2, u32 100]).byte 10 = 0#8 := both (by decide +kernel)

/-- The first eight argument bytes: tag 2, PRINT, user 100, and a wrapped key given. -/
def openHead : BitVec 64 := 0x0100000064020002#64

/-- A JOB OPEN of tag 2 for user 100 that carries a wrapped key. -/
def openWrapped (wrapped : BitVec 320) : OrderEntry :=
  { window := 2, kind := 0x10, serial := 7, args := wrapped.setWidth 488 <<< 64 ||| openHead.setWidth 488 }

theorem openWrapped_low (w : BitVec 320) (o n : Nat) (h : o + n ≤ 64) :
    (openWrapped w).args.extractLsb' o n = (openHead.setWidth 488).extractLsb' o n := by
  apply BitVec.eq_of_getLsbD_eq
  intro i hi
  have h1 : o + i < 64 := by omega
  simp only [openWrapped, BitVec.getLsbD_extractLsb', BitVec.getLsbD_or, BitVec.getLsbD_shiftLeft, h1, hi, decide_true,
    Bool.not_true, Bool.and_false, Bool.false_and, Bool.false_or]

theorem openWrapped_key (w : BitVec 320) : (openWrapped w).bits 11 40 = w := by
  apply BitVec.eq_of_getLsbD_eq
  intro i hi
  have h1 : ¬ 64 + i < 64 := by omega
  have h2 : (openHead.setWidth 488).getLsbD (64 + i) = false := by
    rw [BitVec.getLsbD_setWidth, BitVec.getLsbD_of_ge _ _ (by omega), Bool.and_false]
  have h3 : 64 + i < 488 := by omega
  have h4 : 64 + i - 64 = i := by omega
  have h5 : i < 488 := by omega
  simp only [OrderEntry.bits, openWrapped, BitVec.getLsbD_extractLsb', BitVec.getLsbD_or, BitVec.getLsbD_shiftLeft,
    BitVec.getLsbD_setWidth, Nat.reduceSub, Nat.reduceMul, h1, h2, h3, h4, h5, hi, decide_true, decide_false,
    Bool.not_false, Bool.true_and, Bool.or_false]

/-- The lab with that order at the head of its queue. -/
def openingWrapped (w : BitVec 320) : State := { lab with orders := { lab.orders with queue := [openWrapped w] } }

theorem lab_can : lab.accountsBusy = false ∧ lab.jobWithTag 2 = none ∧ lab.jobs[(1 : Fin 16)] = none ∧
    (∀ k : Fin 16, k < 1 → lab.jobs[k] ≠ none) ∧ lab.userWithId 100 = some 0 ∧
    lab.accounts.users[(0 : Fin 64)] = some alice := by decide +kernel

theorem openingWrapped_can (w : BitVec 320) :
    (openingWrapped w).Executes 0x10#8 (openWrapped w) [] ∧ CanOpen (openingWrapped w) (openWrapped w) ∧
      (openWrapped w).byte 10 = 1#8 := by
  have kind : (openWrapped w).num 5 1 = 2 := by
    show ((openWrapped w).args.extractLsb' 16 8).toNat = 2
    rw [openWrapped_low w 16 8 (by decide)]; decide +kernel
  have tag : (openWrapped w).num 3 2 = 2 := by
    show ((openWrapped w).args.extractLsb' 0 16).toNat = 2
    rw [openWrapped_low w 0 16 (by decide)]; decide +kernel
  have owner : (openWrapped w).num 6 4 = 100 := by
    show ((openWrapped w).args.extractLsb' 24 32).toNat = 100
    rw [openWrapped_low w 24 32 (by decide)]; decide +kernel
  have flag : (openWrapped w).byte 10 = 1#8 := by
    show (openWrapped w).args.extractLsb' 56 8 = 1#8
    rw [openWrapped_low w 56 8 (by decide)]; decide +kernel
  obtain ⟨h1, h2, h3, h4, h5, h6⟩ := lab_can
  refine ⟨⟨rfl, rfl, Nat.zero_lt_succ 7, rfl, rfl⟩, ⟨kind, by rw [tag]; decide, by rw [owner]; decide, h1, ?_, h3, h4,
    ?_, h6, rfl⟩, flag⟩
  · rw [tag]; exact h2
  · rw [owner]; exact h5

theorem witness_JobOpenTakesTheLowestFreeSlot_wrapped :
    ∃ w, (openingWrapped w).Executes 0x10#8 (openWrapped w) [] ∧ CanOpen (openingWrapped w) (openWrapped w) ∧
      (openWrapped w).byte 10 = 1#8 ∧
      unwrapKey (openingWrapped w).fuses.deviceKey .print ((openWrapped w).bits 11 40) = some 5 := by
  refine ⟨Config.wrapCipher Config.deviceKey (wrapBlock 3 5 .print), (openingWrapped_can _).1,
    (openingWrapped_can _).2.1, (openingWrapped_can _).2.2, ?_⟩
  rw [openWrapped_key]
  show unwrapKey Config.deviceKey .print _ = _
  unfold unwrapKey
  rw [Equiv.symm_apply_apply]
  decide +kernel

theorem witness_JobOpenTakesTheLowestFreeSlot_badWrap :
    ∃ w, (openingWrapped w).Executes 0x10#8 (openWrapped w) [] ∧ CanOpen (openingWrapped w) (openWrapped w) ∧
      (openWrapped w).byte 10 = 1#8 ∧
      unwrapKey (openingWrapped w).fuses.deviceKey .print ((openWrapped w).bits 11 40) = none := by
  refine ⟨Config.wrapCipher Config.deviceKey 1, (openingWrapped_can _).1, (openingWrapped_can _).2.1,
    (openingWrapped_can _).2.2, ?_⟩
  rw [openWrapped_key]
  show unwrapKey Config.deviceKey .print _ = _
  unfold unwrapKey
  rw [Equiv.symm_apply_apply]
  decide +kernel

/-- An order of the given kind for job tag 1, with a further byte. -/
def jobVals (kind option : Nat) : List Val := [u8 kind, u16 7, u16 1, u8 option]

/-- What an order on the job of the lab needs. -/
abbrev NamesJob (s : State) (e : OrderEntry) : Prop :=
  e.num 3 2 ≠ 0 ∧ s.jobWithTag (e.num 3 2) = some 0 ∧ s.jobs[(0 : Fin 16)] = some printJob ∧ printJob.state = .active

theorem witness_ReleaseSealAndKeyExport :
    ((queued lab (jobVals 0x11 0)).Executes 0x11#8 (order (jobVals 0x11 0)) [] ∧
      NamesJob (queued lab (jobVals 0x11 0)) (order (jobVals 0x11 0))) ∧
    ((queued lab (jobVals 0x12 0)).Executes 0x12#8 (order (jobVals 0x12 0)) [] ∧
      NamesJob (queued lab (jobVals 0x12 0)) (order (jobVals 0x12 0))) ∧
    ((queued lab (jobVals 0x13 0)).Executes 0x13#8 (order (jobVals 0x13 0)) [] ∧
      NamesJob (queued lab (jobVals 0x13 0)) (order (jobVals 0x13 0))) :=
  ⟨both (by decide +kernel), both (by decide +kernel), both (by decide +kernel)⟩

theorem witness_JobCloseWaitsForItsCounts :
    (queued lab (jobVals 0x15 0)).Executes 0x15#8 (order (jobVals 0x15 0)) [] ∧
      NamesJob (queued lab (jobVals 0x15 0)) (order (jobVals 0x15 0)) ∧
      (let s := queued lab (jobVals 0x15 0)
       s.orders.resetWait = none ∧ s.orders.completed = [] ∧ s.orders.holding.length < 8 ∧
         s.orders.parked.length < 8 ∧ (order (jobVals 0x15 0)).byte 5 = 0#8 ∧ printJob.sides = 0 ∧
         printJob.merges = 0 ∧ printJob.lines = 0 ∧ ∀ p ∈ s.orders.parked, p.object.isJob 0 = false) :=
  both (by decide +kernel)

theorem witness_JobCloseWaitsForItsCounts_parks :
    (queued busy (jobVals 0x15 0)).Executes 0x15#8 (order (jobVals 0x15 0)) [] ∧
      (let s := queued busy (jobVals 0x15 0)
       s.jobs[(0 : Fin 16)] = some { printJob with sides := 1 } ∧ s.orders.resetWait = none ∧
         s.orders.completed = [] ∧ s.orders.holding.length < 8 ∧ (order (jobVals 0x15 0)).num 3 2 ≠ 0 ∧
         s.jobWithTag ((order (jobVals 0x15 0)).num 3 2) = some 0 ∧ s.orders.parked.length < 8 ∧
         (order (jobVals 0x15 0)).byte 5 = 0#8 ∧ ¬(1 = 0 ∧ printJob.merges = 0 ∧ printJob.lines = 0)) :=
  both (by decide +kernel)

theorem witness_JobCloseWaitsForItsCounts_voids :
    let s := queued busy (jobVals 0x15 1)
    let e := order (jobVals 0x15 1)
    let voided := s.sides.records.filter fun r => decide (r.state = .admitted) && decide (r.jobSlot = 0)
    SidesNumbered s.sides ∧ WarningsSet s ∧ Ready s 0x15#8 e [] ∧
      s.jobs[(0 : Fin 16)] = some { printJob with sides := 1 } ∧ s.orders.resetWait = none ∧
      s.orders.completed = [] ∧ s.orders.holding.length < 8 ∧ e.num 3 2 ≠ 0 ∧
      s.jobWithTag (e.num 3 2) = some 0 ∧ s.orders.parked.length < 8 ∧ e.byte 5 = 1#8 ∧ 1 = voided.length ∧
      printJob.merges = 0 ∧ printJob.lines = 0 ∧ ∀ p ∈ s.orders.parked, p.object.isJob 0 = false :=
  ⟨busy_numbered, busy_warnings, by decide +kernel⟩

theorem witness_JobCloseWaitsForItsCounts_voidsAndParks :
    let j := { printJob with sides := 1, lines := 1 }
    let s := { queued busy (jobVals 0x15 1) with jobs := put lab.jobs 0 (some j) }
    let e := order (jobVals 0x15 1)
    let voided := s.sides.records.filter fun r => decide (r.state = .admitted) && decide (r.jobSlot = 0)
    SidesNumbered s.sides ∧ WarningsSet s ∧ Ready s 0x15#8 e [] ∧ s.jobs[(0 : Fin 16)] = some j ∧
      s.jobWithTag (e.num 3 2) = some 0 ∧ e.byte 5 = 1#8 ∧ voided.length ≤ j.sides ∧
      ¬(j.sides = voided.length ∧ j.merges = 0 ∧ j.lines = 0) :=
  ⟨busy_numbered, busy_warnings, by decide +kernel⟩

theorem witness_JobCloseWaitsForItsCounts_completion :
    let j := { printJob with state := .closing }
    let s := { withParked lab (parkedFor 0x15 (.job 0 2)) with jobs := put lab.jobs 0 (some j) }
    s.jobs[(0 : Fin 16)] = some j ∧ s.orders.resetWait = none ∧ s.orders.completed = [] ∧
      s.orders.holding.length < 8 ∧ s.orders.parked = [] ++ parkedFor 0x15 (.job 0 2) :: [] ∧
      (parkedFor 0x15 (.job 0 2)).object = .job 0 2 ∧
      (∀ q ∈ ([] : List ParkedOrder), q.object.isJob 0 = false) ∧ j.state = .closing ∧ j.sides = 0 ∧
      j.merges = 0 ∧ j.lines = 0 := by decide +kernel

theorem witness_MetersFlushConvertsTheRecords :
    (queued lab [u8 0x20, u16 7]).Executes 0x20#8 (order [u8 0x20, u16 7]) [] ∧ True := both (by decide +kernel)

/-- A CURVE LOAD of a plane with a first point, the others at a value. -/
def curveVals (plane first others : Nat) : List Val :=
  [u8 0x21, u16 7, u8 plane, u16 first] ++ List.replicate 16 (u16 others)

theorem witness_CurveLoadStagesACurve :
    ((queued lab (curveVals 4 0 0)).Executes 0x21#8 (order (curveVals 4 0 0)) [] ∧
      3 < (order (curveVals 4 0 0)).num 3 1) ∧
    ((queued lab (curveVals 3 0 4096)).Executes 0x21#8 (order (curveVals 3 0 4096)) [] ∧
      (order (curveVals 3 0 4096)).num 3 1 ≤ 3 ∧ 4095 < (order (curveVals 3 0 4096)).num (4 + 2 * 16) 2) ∧
    ((queued lab (curveVals 3 9 8)).Executes 0x21#8 (order (curveVals 3 9 8)) [] ∧
      (order (curveVals 3 9 8)).num 3 1 ≤ 3 ∧
      (order (curveVals 3 9 8)).num (4 + 2 * 1) 2 < (order (curveVals 3 9 8)).num (4 + 2 * 0) 2) ∧
    ((queued lab (curveVals 3 0 4095)).Executes 0x21#8 (order (curveVals 3 0 4095)) [] ∧
      (order (curveVals 3 0 4095)).num 3 1 = (3 : Plane).val ∧
      (∀ i < 17, (order (curveVals 3 0 4095)).num (4 + 2 * i) 2 ≤ 4095) ∧
      ∀ i < 16,
        (order (curveVals 3 0 4095)).num (4 + 2 * i) 2 ≤ (order (curveVals 3 0 4095)).num (4 + 2 * (i + 1)) 2) :=
  ⟨both (by decide +kernel), both (by decide +kernel), both (by decide +kernel), both (by decide +kernel)⟩

/-- A FACTORS LOAD of a selection with one factor for every plane. -/
def factorVals (selection factor : Nat) : List Val :=
  [u8 0x22, u16 7, u8 selection, u32 factor, u32 factor, u32 factor, u32 factor]

theorem witness_FactorsLoadStagesTheSelected :
    ((queued lab (factorVals 0 1)).Executes 0x22#8 (order (factorVals 0 1)) [] ∧
      (order (factorVals 0 1)).num 3 1 < 16 ∧ (order (factorVals 0 1)).num 3 1 = 0) ∧
    ((queued lab (factorVals 8 65536)).Executes 0x22#8 (order (factorVals 8 65536)) [] ∧
      (order (factorVals 8 65536)).num 3 1 < 16 ∧ ((order (factorVals 8 65536)).byte 3).getLsbD 3 = true ∧
      65535 < (order (factorVals 8 65536)).num (4 + 4 * 3) 4) ∧
    ((queued lab (factorVals 15 65535)).Executes 0x22#8 (order (factorVals 15 65535)) [] ∧
      (order (factorVals 15 65535)).num 3 1 < 16 ∧ (order (factorVals 15 65535)).num 3 1 ≠ 0 ∧
      ∀ p : Plane, ((order (factorVals 15 65535)).byte 3).getLsbD p.val = true →
        (order (factorVals 15 65535)).num (4 + 4 * p.val) 4 ≤ 65535) :=
  ⟨both (by decide +kernel), both (by decide +kernel), both (by decide +kernel)⟩

/-- A CLASSES LOAD. -/
def classVals (threshold b1 b2 mask : Nat) : List Val := [u8 0x23, u16 7, u16 threshold, u16 b1, u16 b2, u8 mask]

/-- What R85 refuses, on an entry. -/
abbrev BadClasses (e : OrderEntry) : Prop :=
  10000 < e.num 3 2 ∨ e.num 7 2 < e.num 5 2 ∨ 40000 < e.num 7 2 ∨ 15 < e.num 9 1

theorem witness_ClassesLoadStagesAllFour :
    ((queued lab (classVals 10000 40000 40000 15)).Executes 0x23#8 (order (classVals 10000 40000 40000 15)) [] ∧
      ¬BadClasses (order (classVals 10000 40000 40000 15))) ∧
    ((queued lab (classVals 10001 1 1 1)).Executes 0x23#8 (order (classVals 10001 1 1 1)) [] ∧
      BadClasses (order (classVals 10001 1 1 1)) ∧ BadClasses (order (classVals 1 2 1 1)) ∧
      BadClasses (order (classVals 1 1 40001 1)) ∧ BadClasses (order (classVals 1 1 1 16))) :=
  ⟨both (by decide +kernel), both (by decide +kernel)⟩

/-- A PRICES LOAD with one price in every place. -/
def priceVals (price : Nat) : List Val := [u8 0x24, u16 7] ++ List.replicate 6 (u32 price)

theorem witness_PricesLoadStagesTheTable :
    ((queued lab (priceVals 65535)).Executes 0x24#8 (order (priceVals 65535)) [] ∧
      ∀ i < 6, (order (priceVals 65535)).num (3 + 4 * i) 4 ≤ 65535) ∧
    ((queued lab (priceVals 65536)).Executes 0x24#8 (order (priceVals 65536)) [] ∧
      ∃ i < 6, 65535 < (order (priceVals 65536)).num (3 + 4 * i) 4) :=
  ⟨both (by decide +kernel), both (by decide +kernel)⟩

/-- A METERS APPLY without and with the now option. -/
def applyVals (now : Nat) : List Val := [u8 0x25, u16 7, u8 now]

/-- The lab with eight parked probes. -/
def parkedFull : State :=
  { lab with orders := { lab.orders with parked := List.replicate 8 (parkedFor 0x50 (.cartridge 0)) } }

theorem witness_MetersApplyParksACopy :
    ((queued lab (applyVals 0)).Executes 0x25#8 (order (applyVals 0)) [] ∧ (order (applyVals 0)).byte 3 = 0#8 ∧
      (queued lab (applyVals 0)).orders.completed = [] ∧ (queued lab (applyVals 0)).store.pending = none ∧
      (queued lab (applyVals 0)).orders.parked.length < 8) ∧
    ((queued parkedFull (applyVals 0)).Executes 0x25#8 (order (applyVals 0)) [] ∧
      (queued parkedFull (applyVals 0)).orders.completed = [] ∧
      (queued parkedFull (applyVals 0)).store.pending = none ∧
      8 ≤ (queued parkedFull (applyVals 0)).orders.parked.length) ∧
    ((queued switching (applyVals 0)).Executes 0x25#8 (order (applyVals 0)) [] ∧
      (queued switching (applyVals 0)).orders.completed = [] ∧
      (queued switching (applyVals 0)).store.pending.isSome ∧
      (queued switching (applyVals 0)).orders.parked = [] ++ parkedFor 0x25 .switch :: [] ∧
      (parkedFor 0x25 .switch).object = .switch ∧ ∀ q ∈ ([] : List ParkedOrder), q.object.isSwitch = false) :=
  ⟨both (by decide +kernel), both (by decide +kernel), both (by decide +kernel)⟩

theorem witness_MetersApplyNowSwitchesAtOnce :
    ((queued lab (applyVals 1)).Executes 0x25#8 (order (applyVals 1)) [] ∧ (order (applyVals 1)).byte 3 = 1#8 ∧
      (queued lab (applyVals 1)).meteringSide = none ∧ (queued lab (applyVals 1)).store.pending = none) ∧
    ((queued metering (applyVals 1)).Executes 0x25#8 (order (applyVals 1)) [] ∧ (order (applyVals 1)).byte 3 = 1#8 ∧
      (queued metering (applyVals 1)).meteringSide.isSome) :=
  ⟨both (by decide +kernel), both (by decide +kernel)⟩

theorem witness_MetersApplyNowSwitchesAtOnce_pending :
    ∀ n : Fin 8, (n = 6 ∨ n = 7) →
      let s := queued { switching with orders := { switching.orders with
        holding := List.replicate n { serial := 7, kind := 1, window := 2, reason := none, values := [] } } }
        (applyVals 1)
      Ready s 0x25#8 (order (applyVals 1)) [] ∧ s.meteringSide = none ∧ s.store.pending.isSome ∧
        s.orders.parked = [] ++ parkedFor 0x25 .switch :: [] ∧ (parkedFor 0x25 .switch).object = .switch ∧
        (∀ q ∈ ([] : List ParkedOrder), q.object.isSwitch = false) ∧ s.orders.completed = [] ∧
        s.orders.holding.length = n := by
  decide +kernel

/-- A SIDE BEGIN of job 1, MONO, simplex, 16 rows. -/
def beginVals : List Val := [u8 0x30, u16 7, u16 1, u8 0, u8 0, u32 16]

/-- What both clauses about SIDE BEGIN need, for the K band alone with 8 lines a row. -/
abbrev CanBegin (s : State) (u : User) : Prop :=
  (order beginVals).num 3 2 = 1 ∧ (order beginVals).num 5 1 = 0 ∧ (order beginVals).num 6 1 = 0 ∧
    (order beginVals).num 7 4 = 16 ∧ s.sides.records.length < 8 ∧ s.accountsBusy = false ∧
    s.jobWithTag 1 = some 0 ∧ s.jobs[(0 : Fin 16)] = some printJob ∧ s.accounts.users[printJob.owner] = some u ∧
    printJob.state = .active ∧ printJob.kind ≠ .scan ∧ (printJob.kind = .print → printJob.release = .released) ∧
    u.state = .active ∧ s.classifier.regions[(3 : Fin 32)] = some bandK ∧
    (∀ k : Fin 32, ∀ r ∈ s.classifier.regions[k], r = bandK) ∧ bandK.state = .live ∧ bandK.job = some 0 ∧
    (∀ p : Plane, hasPlane 8#4 p = true → p = 3 ∧ s.cartridges.slots[p].verdict ≠ .rejected ∧
      hasPlane s.cartridges.policy.requireGenuine p = false) ∧
    1 ≤ s.sides.nextId ∧ s.sides.nextId ≤ 65535

/-- The lab with another record for the user. -/
def withUser (u : User) : State :=
  { lab with accounts := { lab.accounts with users := put lab.accounts.users 0 (some u) } }

theorem witness_SideBeginAdmitsOrRefusesQuota :
    ((queued lab beginVals).Executes 0x30#8 (order beginVals) [] ∧ CanBegin (queued lab beginVals) alice ∧
      alice.floor ≤ alice.credit - alice.spent - alice.hold - 0 ∧
      (queued lab beginVals).store.live.prices = Vector.replicate 6 0) ∧
    (let poor := { alice with credit := 69 }
     (queued (withUser poor) beginVals).Executes 0x30#8 (order beginVals) [] ∧
      CanBegin (queued (withUser poor) beginVals) poor ∧
      poor.credit - poor.spent - poor.hold - 0 < poor.floor) :=
  ⟨both (by decide +kernel), both (by decide +kernel)⟩

/-- The K band gives plane K its row length, and no other one. -/
theorem witness_SideBeginAdmitsOrRefusesQuota_bands {s : State} {u : User} (h : CanBegin s u) :
    let band := fun (p : Plane) (n : Nat) => ∃ (k : Fin 32) (r : Region) (d : Nat),
      s.classifier.regions[k] = some r ∧ r.state = .live ∧ r.kind = .band p d n ∧ (r.job = none ∨ r.job = some 0)
    ∀ p : Plane, hasPlane 8#4 p = true → band p 8 ∧ ∀ n, band p n → n = 8 := by
  obtain ⟨-, -, -, -, -, -, -, -, -, -, -, -, -, hk, hall, hs, hj, hp, -⟩ := h
  intro band p hpl
  obtain ⟨rfl, -⟩ := hp p hpl
  refine ⟨⟨3, bandK, 2, hk, hs, rfl, .inr hj⟩, ?_⟩
  rintro n ⟨k, r, d, hr, -, hb, -⟩
  obtain rfl := hall k r hr
  cases hb
  rfl

theorem witness_SideCancelVoidsAnAdmittedSide :
    (queued busy [u8 0x31, u16 7, u16 1]).Executes 0x31#8 (order [u8 0x31, u16 7, u16 1]) [] ∧
      SidesNumbered (queued busy [u8 0x31, u16 7, u16 1]).sides ∧
      (let s := queued busy [u8 0x31, u16 7, u16 1]
       (order [u8 0x31, u16 7, u16 1]).num 3 2 ≠ 0 ∧
         s.sideWithId ((order [u8 0x31, u16 7, u16 1]).num 3 2) = some sideOne ∧ sideOne.state = .admitted ∧
         s.jobs[sideOne.jobSlot] = some { printJob with sides := 1 } ∧
         s.accounts.users[sideOne.userSlot] = some alice) ∧ Job.keepsSlot { printJob with sides := 1 } :=
  ⟨Ready.executes (by decide +kernel), busy_numbered, by decide +kernel, .inl rfl⟩

theorem witness_SideJamChargesOnlyTheCartridges :
    (queued metering [u8 0x32, u16 7, u16 1]).Executes 0x32#8 (order [u8 0x32, u16 7, u16 1]) [] ∧
      SidesNumbered (queued metering [u8 0x32, u16 7, u16 1]).sides ∧
      (let s := queued metering [u8 0x32, u16 7, u16 1]
       (order [u8 0x32, u16 7, u16 1]).num 3 2 ≠ 0 ∧ s.meteringSide = some sideMetering ∧
         sideMetering.id = (order [u8 0x32, u16 7, u16 1]).num 3 2 ∧
         s.jobs[sideMetering.jobSlot] = some { printJob with sides := 1 } ∧
         printJob.settled < 4294967295 ∧ s.accounts.users[sideMetering.userSlot] = some alice ∧
         alice.counters[7] < 4294967295 ∧ s.accounts.meters.sides[7] < 4294967295) ∧
      Job.keepsSlot { printJob with sides := 1 } :=
  ⟨Ready.executes (by decide +kernel), metering_numbered, by decide +kernel, .inl rfl⟩

theorem witness_ReadoutPolicySetsStrictReadout :
    ((queued lab [u8 0x33, u16 7, u8 2]).Executes 0x33#8 (order [u8 0x33, u16 7, u8 2]) [] ∧
      1 < (order [u8 0x33, u16 7, u8 2]).num 3 1) ∧
    ((queued lab [u8 0x33, u16 7, u8 1]).Executes 0x33#8 (order [u8 0x33, u16 7, u8 1]) [] ∧
      (order [u8 0x33, u16 7, u8 1]).num 3 1 = if true then 1 else 0) :=
  ⟨both (by decide +kernel), both (by decide +kernel)⟩

/-! #### Account orders -/

/-- An ACCOUNT OPEN of id 101 with colour permission, floor −2,000,000,000, warn level 50 and credit 49. -/
def openVals : List Val := [u8 0x40, u16 7, u32 101, u8 1, i32 (-2000000000), i32 50, u32 49]

theorem witness_AccountOpenTakesTheLowestFreeSlot :
    (queued lab openVals).Executes 0x40#8 (order openVals) [] ∧
      (let s := queued lab openVals
       let e := order openVals
       e.num 3 4 ≠ 0 ∧
         (-2000000000 ≤ e.int 8 4 ∧ e.int 8 4 ≤ 0 ∧ -2000000000 ≤ e.int 12 4 ∧ e.int 12 4 ≤ 2147483647) ∧
         e.num 16 4 ≤ 2147483647 ∧ s.accounts.restore = none ∧ s.userWithId (e.num 3 4) = none ∧
         s.accounts.users[(1 : Fin 64)] = none ∧ (∀ k : Fin 64, k < 1 → s.accounts.users[k] ≠ none) ∧
         e.num 7 1 ≤ 1) := both (by decide +kernel)

/-- What an order on the user of the lab needs. -/
abbrev NamesUser (s : State) (e : OrderEntry) : Prop :=
  e.num 3 4 ≠ 0 ∧ s.accounts.restore = none ∧ s.userWithId (e.num 3 4) = some 0 ∧
    s.accounts.users[(0 : Fin 64)] = some alice

/-- An ACCOUNT SET, with a balance or without one. -/
def setVals (given : Nat) : List Val :=
  [u8 0x42, u16 7, u32 100, u8 0, i32 0, i32 2147483647, u8 given, i32 (-2000000000)]

theorem witness_AccountCreditAndSet :
    ((queued lab [u8 0x41, u16 7, u32 100, u32 1]).Executes 0x41#8 (order [u8 0x41, u16 7, u32 100, u32 1]) [] ∧
      NamesUser (queued lab [u8 0x41, u16 7, u32 100, u32 1]) (order [u8 0x41, u16 7, u32 100, u32 1]) ∧
      alice.credit - alice.spent ≤ 2147483647) ∧
    ((queued lab (setVals 1)).Executes 0x42#8 (order (setVals 1)) [] ∧
      NamesUser (queued lab (setVals 1)) (order (setVals 1)) ∧
      (let e := order (setVals 1)
       (-2000000000 ≤ e.int 8 4 ∧ e.int 8 4 ≤ 0 ∧ -2000000000 ≤ e.int 12 4 ∧ e.int 12 4 ≤ 2147483647) ∧
         e.num 7 1 ≤ 1 ∧ e.byte 16 = 1#8 ∧ -2000000000 ≤ e.int 17 4)) ∧
    ((queued lab (setVals 0)).Executes 0x42#8 (order (setVals 0)) [] ∧
      NamesUser (queued lab (setVals 0)) (order (setVals 0)) ∧ (order (setVals 0)).byte 16 = 0#8) :=
  ⟨both (by decide +kernel), both (by decide +kernel), both (by decide +kernel)⟩

/-- An order of the given kind for user 100. -/
def userVals (kind : Nat) : List Val := [u8 kind, u16 7, u32 100]

/-- The lab with an open, empty restore buffer, and no user or job. -/
def restoring (b : RestoreBuffer) : State := { idle with accounts := { idle.accounts with restore := some b } }

/-- An empty buffer. -/
def emptyBuffer : RestoreBuffer := { users := [], retired := none, parts := [] }

theorem witness_SuspendAndResumeSetTheState :
    ((queued (restoring emptyBuffer) (userVals 0x43)).Executes 0x43#8 (order (userVals 0x43)) [] ∧
      (queued (restoring emptyBuffer) (userVals 0x43)).accounts.restore.isSome) ∧
    ((queued (restoring emptyBuffer) (userVals 0x44)).Executes 0x44#8 (order (userVals 0x44)) [] ∧
      (queued (restoring emptyBuffer) (userVals 0x44)).accounts.restore.isSome) ∧
    ((queued lab (userVals 0x43)).Executes 0x43#8 (order (userVals 0x43)) [] ∧
      NamesUser (queued lab (userVals 0x43)) (order (userVals 0x43))) ∧
    ((queued lab (userVals 0x44)).Executes 0x44#8 (order (userVals 0x44)) [] ∧
      NamesUser (queued lab (userVals 0x44)) (order (userVals 0x44))) :=
  ⟨both (by decide +kernel), both (by decide +kernel), both (by decide +kernel), both (by decide +kernel)⟩

/-- The lab with a user who has no hold, and no job. -/
def leaving : State := { withUser { alice with hold := 0 } with jobs := idle.jobs }

theorem witness_AccountRemoveRetiresTheCounters :
    ((queued lab (userVals 0x45)).Executes 0x45#8 (order (userVals 0x45)) [] ∧
      NamesUser (queued lab (userVals 0x45)) (order (userVals 0x45)) ∧
      ((∃ k : Fin 16, ∃ j ∈ (queued lab (userVals 0x45)).jobs[k], j.owner = 0) ∨ alice.hold ≠ 0)) ∧
    ((queued leaving (userVals 0x45)).Executes 0x45#8 (order (userVals 0x45)) [] ∧
      (let s := queued leaving (userVals 0x45)
       (order (userVals 0x45)).num 3 4 ≠ 0 ∧ s.accounts.restore = none ∧
         s.userWithId ((order (userVals 0x45)).num 3 4) = some 0 ∧
         s.accounts.users[(0 : Fin 64)] = some { alice with hold := 0 } ∧
         (∀ k : Fin 16, ∀ j ∈ s.jobs[k], j.owner ≠ 0) ∧ ({ alice with hold := 0 } : User).hold = 0)) :=
  ⟨both (by decide +kernel), both (by decide +kernel)⟩

/-- A RESTORE ACCOUNT of the USER in slot 9. -/
def restoreUserVals : List Val :=
  [u8 0x4A, u16 7, u8 9, u32 100, i64 1000, u64 100, i32 (-50), i32 0] ++ List.replicate 8 (u32 3)

/-- A buffer that waits for its last part. -/
def lastPart : RestoreBuffer :=
  { users := [], retired := some .zero
    parts := [.device State.reset.accounts.meters, .plane .zero, .plane .zero, .plane .zero] }

theorem witness_ExportCopiesAndRestoreBuffers_noRestore :
    ((queued lab [u8 0x4A, u16 7]).Executes 0x4A#8 (order [u8 0x4A, u16 7]) [] ∧ lab.accounts.restore = none) ∧
    ((queued lab [u8 0x4B, u16 7]).Executes 0x4B#8 (order [u8 0x4B, u16 7]) [] ∧ lab.accounts.restore = none) ∧
    ((queued lab [u8 0x4C, u16 7]).Executes 0x4C#8 (order [u8 0x4C, u16 7]) [] ∧ lab.accounts.restore = none) ∧
    ((queued lab [u8 0x4D, u16 7]).Executes 0x4D#8 (order [u8 0x4D, u16 7]) [] ∧ lab.accounts.restore = none) ∧
    ((queued lab [u8 0x4E, u16 7]).Executes 0x4E#8 (order [u8 0x4E, u16 7]) [] ∧ lab.accounts.restore = none) :=
  ⟨both (by decide +kernel), both (by decide +kernel), both (by decide +kernel), both (by decide +kernel),
    both (by decide +kernel)⟩

theorem witness_ExportCopiesAndRestoreBuffers :
    ((queued lab [u8 0x48, u16 7]).Executes 0x48#8 (order [u8 0x48, u16 7]) [] ∧
      (let s := queued lab [u8 0x48, u16 7]
       s.sides.records = [] ∧ s.accountsBusy = false ∧ s.orders.parked.length + s.orders.completed.length < 8 ∧
        s.accounts.tagged.length < 2 ^ 256)) ∧
    ((queued idle [u8 0x49, u16 7]).Executes 0x49#8 (order [u8 0x49, u16 7]) [] ∧
      (queued idle [u8 0x49, u16 7]).accountsBusy = false ∧
      (∀ i : Fin 16, (queued idle [u8 0x49, u16 7]).jobs[i] = none) ∧
      (queued idle [u8 0x49, u16 7]).sides.records = []) ∧
    ((queued (restoring emptyBuffer) restoreUserVals).Executes 0x4A#8 (order restoreUserVals) [] ∧
      (queued (restoring emptyBuffer) restoreUserVals).accounts.restore = some emptyBuffer ∧
      (order restoreUserVals).userCopy.inRange = true ∧ emptyBuffer.retired = none ∧ emptyBuffer.parts = [] ∧
      ∀ x ∈ emptyBuffer.users, x.slot < (order restoreUserVals).userCopy.slot ∧
        x.id ≠ (order restoreUserVals).userCopy.id) ∧
    ((queued (restoring emptyBuffer) [u8 0x4B, u16 7]).Executes 0x4B#8 (order [u8 0x4B, u16 7]) [] ∧
      (queued (restoring emptyBuffer) [u8 0x4B, u16 7]).accounts.restore = some emptyBuffer ∧
      emptyBuffer.retired = none ∧ emptyBuffer.parts = []) ∧
    ((queued (restoring lastPart) [u8 0x4C, u16 7, u8 4]).Executes 0x4C#8 (order [u8 0x4C, u16 7, u8 4]) [] ∧
      (queued (restoring lastPart) [u8 0x4C, u16 7, u8 4]).accounts.restore = some lastPart ∧
      lastPart.retired.isSome ∧ (order [u8 0x4C, u16 7, u8 4]).num 3 1 = lastPart.parts.length ∧
      (order [u8 0x4C, u16 7, u8 4]).num 3 1 ≤ 4) ∧
    ((queued (restoring lastPart) [u8 0x4E, u16 7]).Executes 0x4E#8 (order [u8 0x4E, u16 7]) [] ∧
      (queued (restoring lastPart) [u8 0x4E, u16 7]).accounts.restore = some lastPart) :=
  ⟨both (by decide +kernel), both (by decide +kernel), both (by decide +kernel), both (by decide +kernel),
    both (by decide +kernel), both (by decide +kernel)⟩

/-- A complete buffer of one user. -/
def fullBuffer : RestoreBuffer :=
  { users := [copyUser 9 alice], retired := some .zero
    parts := [.device State.reset.accounts.meters, .plane .zero, .plane .zero, .plane .zero, .plane .zero] }

/-- The snapshot of that buffer. -/
def fullCopy : Snapshot :=
  { users := [copyUser 9 alice], retired := .zero, meters := State.reset.accounts.meters
    totals := #v[.zero, .zero, .zero, .zero] }

/-- A RESTORE END with a tag. -/
def endEntry (tag : BitVec 256) : OrderEntry :=
  { window := 2, kind := 0x4D, serial := 7, args := tag.setWidth 488 }

/-- The complete buffer with a RESTORE END at the head of the queue, where the given contents were tagged. -/
def ending (tagged : List Snapshot) (tag : BitVec 256) : State :=
  { restoring fullBuffer with
    accounts := { (restoring fullBuffer).accounts with tagged }
    orders := { idle.orders with queue := [endEntry tag] } }

theorem endEntry_tag (tag : BitVec 256) : (endEntry tag).bits 3 32 = tag := by
  apply BitVec.eq_of_getLsbD_eq
  intro i hi
  have h : i < 488 := by omega
  simp only [OrderEntry.bits, endEntry, BitVec.getLsbD_extractLsb', BitVec.getLsbD_setWidth, Nat.sub_self, Nat.mul_zero,
    Nat.zero_add, hi, h, decide_true, Bool.true_and]

/-- The tag that the tag function gives the buffered content, and another tag. -/
def goodTag : BitVec 256 := snapshotTag Config.deviceKey fullCopy
def badTag : BitVec 256 := goodTag + 1

theorem goodTag_ne_badTag : goodTag ≠ badTag := by
  unfold badTag
  generalize goodTag = x
  intro h
  have := congrArg BitVec.toNat h
  rw [BitVec.toNat_add] at this
  simp at this
  omega

/-- What every clause about RESTORE END asks. -/
theorem ending_executes (tagged : List Snapshot) (tag : BitVec 256) :
    (ending tagged tag).Executes 0x4D#8 (endEntry tag) [] ∧ (ending tagged tag).accounts.restore = some fullBuffer ∧
      fullBuffer.snapshot = some fullCopy := ⟨⟨rfl, rfl, Nat.zero_lt_succ 7, rfl, rfl⟩, rfl, rfl⟩

theorem witness_RestoreEndInstallsOnlyUnderItsTag :
    let s := ending [fullCopy] (snapshotTagOf Config.deviceKey [fullCopy] fullCopy)
    let e := endEntry (snapshotTagOf Config.deviceKey [fullCopy] fullCopy)
    s.Executes 0x4D#8 e [] ∧ fullCopy ∈ s.accounts.tagged ∧ s.accounts.tagged.length ≤ 2 ^ 256 ∧
      e.bits 3 32 = snapshotTagOf s.fuses.deviceKey s.accounts.tagged fullCopy ∧
      snapshotTagChecks s.fuses.deviceKey s.accounts.tagged (e.bits 3 32) fullCopy = true ∧
      (∀ u ∈ fullCopy.users, (fullCopy.users.map UserCopy.slot).Nodup) ∧ ∀ u ∈ fullCopy.users, u.slot ≠ 0 := by
  refine ⟨(ending_executes _ _).1, List.mem_singleton.mpr rfl, Nat.one_le_two_pow, endEntry_tag _, ?_,
    by decide +kernel, by decide +kernel⟩
  rw [endEntry_tag]
  exact (snapshotTagChecks_iff Config.deviceKey (List.mem_singleton.mpr rfl) Nat.one_le_two_pow).mpr rfl

/-- A tag that the part does not know, of the buffered content or not. -/
theorem witness_RestoreEndInstallsOnlyUnderItsTag_unknown :
    (∀ tag, (ending [] tag).Executes 0x4D#8 (endEntry tag) [] ∧
      ∀ known ∈ (ending [] tag).accounts.tagged, (endEntry tag).bits 3 32 ≠ snapshotTagOf Config.deviceKey [] known) ∧
    snapshotTagChecks Config.deviceKey (ending [] goodTag).accounts.tagged ((endEntry goodTag).bits 3 32) fullCopy =
      true ∧
    snapshotTagChecks Config.deviceKey (ending [] badTag).accounts.tagged ((endEntry badTag).bits 3 32) fullCopy =
      false := by
  refine ⟨fun tag => ⟨(ending_executes _ _).1, fun k hk => absurd hk List.not_mem_nil⟩, ?_, ?_⟩
  · rw [endEntry_tag]
    exact (snapshotTagChecks_unknown Config.deviceKey List.not_mem_nil).mpr rfl
  · rw [endEntry_tag, ← Bool.not_eq_true]
    exact fun h => goodTag_ne_badTag ((snapshotTagChecks_unknown Config.deviceKey List.not_mem_nil).mp h)

/-! #### Orders of the prover and the taker -/

/-- A CARTRIDGE PROBE of a slot. -/
def probeOrder (slot : Nat) : List Val := [u8 0x50, u16 7, u8 slot]

theorem witness_CartridgeProbeParks :
    ((queued busy (probeOrder 0)).Executes 0x50#8 (order (probeOrder 0)) [] ∧
      (order (probeOrder 0)).num 3 1 = (0 : Plane).val ∧
      (queued busy (probeOrder 0)).cartridges.slots[(0 : Plane)].seated = false) ∧
    ((queued busy (probeOrder 1)).Executes 0x50#8 (order (probeOrder 1)) [] ∧
      (order (probeOrder 1)).num 3 1 = (1 : Plane).val ∧
      (queued busy (probeOrder 1)).cartridges.slots[(1 : Plane)].seated = true ∧
      (queued busy (probeOrder 1)).cartridges.slots[(1 : Plane)].verdict = .rejected) ∧
    (let s := queued (onLine genuineSlot debit30 .wait) (probeOrder 3)
     s.Executes 0x50#8 (order (probeOrder 3)) [] ∧ (order (probeOrder 3)).num 3 1 = (3 : Plane).val ∧
       s.cartridges.slots[(3 : Plane)].seated = true ∧ s.cartridges.slots[(3 : Plane)].verdict ≠ .rejected ∧
       (∀ q ∈ s.orders.parked, q.object ≠ .cartridge 3) ∧ s.orders.parked.length + s.orders.completed.length < 8 ∧
       s.cartridges.line.isSome) :=
  ⟨both (by decide +kernel), both (by decide +kernel), both (by decide +kernel)⟩

/-- A TONER POLICY. -/
def policyVals (planes interval threshold low : Nat) : List Val :=
  [u8 0x52, u16 7, u8 planes, u32 interval, u32 threshold, u32 low]

theorem witness_TonerPolicyReplacesAndTests :
    (let s := queued (onLine genuineSlot (.challenge 1) .wait) (policyVals 15 65535 1 4294967295)
     let e := order (policyVals 15 65535 1 4294967295)
     s.Executes 0x52#8 e [] ∧ e.num 4 4 ≤ 65535 ∧ e.num 8 4 ≠ 0 ∧ e.num 3 1 < 16 ∧ s.cartridges.line.isSome) ∧
    ((queued lab (policyVals 0 65536 1 0)).Executes 0x52#8 (order (policyVals 0 65536 1 0)) [] ∧
      65535 < (order (policyVals 0 65536 1 0)).num 4 4) ∧
    ((queued lab (policyVals 0 65535 0 0)).Executes 0x52#8 (order (policyVals 0 65535 0 0)) [] ∧
      (order (policyVals 0 65535 0 0)).num 8 4 = 0) :=
  ⟨both (by decide +kernel), both (by decide +kernel), both (by decide +kernel)⟩

/-- The lab with a GENUINE cartridge in slot 3, a low mark of 100, and 5,000 tu of draw unattributed. -/
def drawing : State :=
  { onLine genuineSlot (.challenge 1) .wait with
    cartridges := { (onLine genuineSlot (.challenge 1) .wait).cartridges with
      policy := { lab.cartridges.policy with lowMark := 100 } }
    unattributed := put lab.unattributed 3 { sum := 5 * 2 ^ 24, tally := 9, saturated := false } }

/-- The new low mark meets the estimate of 4,970, and METERS FLUSH takes it to 0. -/
theorem witness_TonerPolicyReplacesAndTests_notices :
    (let c := drawing.cartridges.slots[(3 : Plane)]
     c.remaining.map (fun n => n - c.owed) = some 4970 ∧ 4970 < 5000 ∧ drawing.cartridges.policy.lowMark ≤ 4970) ∧
    (∀ m p, Instr.metersFlush ≠ .coldReset m p) ∧
    after (exec .metersFlush (queued drawing [u8 0x20, u16 7])) (fun t =>
      decide (t.cartridges.slots[(3 : Plane)].estimate = some 0) && t.writer.notices.getLsbD 11 &&
        t.writer.notices.getLsbD 15) = true :=
  ⟨by decide +kernel, nofun, by decide +kernel⟩

/-- A proof shows serial 78 with 4,000 tu in a slot that held serial 77, both below the low mark of 6,000. -/
theorem witness_TonerPolicyReplacesAndTests_proven :
    let base := onLine otherSerial (.challenge 1) .read
    let s := { base with
      fuses := { base.fuses with familySecret := 5 }
      cartridges := { base.cartridges with policy := { base.cartridges.policy with lowMark := 6000 } } }
    s.cartridges.slots[(3 : Plane)].estimate = some 4970 ∧
      after (exec (.answerReadEnd (some
          { serial := 78, plane := 3, remaining := 4000, tag := answerTag 5 1 78 3 4000 })) s)
        (fun t =>
          let d := t.cartridges.slots[(3 : Plane)]
          decide (d.verdict = .genuine) && decide (d.serial = some 78) && decide (d.remaining = some 4000) &&
            t.writer.notices.getLsbD 11 && !t.writer.notices.getLsbD 15) = true := by decide +kernel

/-- A NOTICES order with a bit set. -/
def noticeVals (kind bits : Nat) : List Val := [u8 kind, u16 7, u32 bits, u64 1]

theorem witness_NoticeOrdersClearAndEnable :
    ((queued lab (noticeVals 0x60 0x00FFFF1F)).Executes 0x60#8 (order (noticeVals 0x60 0x00FFFF1F)) [] ∧
      (order (noticeVals 0x60 0x00FFFF1F)).bits 3 4 &&& ~~~0x00FFFF1F#32 = 0) ∧
    ((queued lab (noticeVals 0x60 0x20)).Executes 0x60#8 (order (noticeVals 0x60 0x20)) [] ∧
      (order (noticeVals 0x60 0x20)).bits 3 4 &&& ~~~0x00FFFF1F#32 ≠ 0) ∧
    ((queued lab (noticeVals 0x61 0x20)).Executes 0x61#8 (order (noticeVals 0x61 0x20)) [] ∧
      (order (noticeVals 0x61 0x20)).bits 3 4 &&& ~~~0x00FFFF3F#32 = 0) ∧
    ((queued lab (noticeVals 0x61 0x40)).Executes 0x61#8 (order (noticeVals 0x61 0x40)) [] ∧
      (order (noticeVals 0x61 0x40)).bits 3 4 &&& ~~~0x00FFFF3F#32 ≠ 0) :=
  ⟨both (by decide +kernel), both (by decide +kernel), both (by decide +kernel), both (by decide +kernel)⟩

/-- The lab with a line of the job on its way. -/
def draining : State := { lab with jobs := put lab.jobs 0 (some { printJob with lines := 1 }) }

theorem witness_PartResetEmptiesTheWorkingState :
    ((queued busy [u8 0x62, u16 7]).Executes 0x62#8 (order [u8 0x62, u16 7]) [] ∧
      (queued busy [u8 0x62, u16 7]).channel.heldOrders = [] ∧ (queued busy [u8 0x62, u16 7]).channel.waiting = [] ∧
      (queued busy [u8 0x62, u16 7]).drainComplete = true ∧ (queued busy [u8 0x62, u16 7]).writerBusy = false) ∧
    ((queued draining [u8 0x62, u16 7]).Executes 0x62#8 (order [u8 0x62, u16 7]) [] ∧
      (queued draining [u8 0x62, u16 7]).channel.heldOrders = [] ∧
      (queued draining [u8 0x62, u16 7]).channel.waiting = [] ∧
      (queued draining [u8 0x62, u16 7]).drainComplete = false) ∧
    ((queued (writing [.summary]) [u8 0x62, u16 7]).Executes 0x62#8 (order [u8 0x62, u16 7]) [] ∧
      (queued (writing [.summary]) [u8 0x62, u16 7]).channel.heldOrders = [] ∧
      (queued (writing [.summary]) [u8 0x62, u16 7]).channel.waiting = [] ∧
      (queued (writing [.summary]) [u8 0x62, u16 7]).drainComplete = true ∧
      (queued (writing [.summary]) [u8 0x62, u16 7]).writerBusy = true) ∧
    (let w : ResetWait := { serial := 7, window := 2, drained := true }
     let s := { lab with orders := { lab.orders with resetWait := some w } }
     s.orders.resetWait = some w ∧ s.channel.heldOrders = [] ∧ s.channel.waiting = [] ∧ s.drainComplete = true ∧
       s.writerBusy = false) :=
  ⟨both (by decide +kernel), both (by decide +kernel), both (by decide +kernel), by decide +kernel⟩

/-- Two order-take writes and two requests to plain lines wait at the reset event. -/
theorem witness_PartResetEmptiesTheWorkingState_waiting :
    let w : ResetWait := { serial := 7, window := 2, drained := true }
    let s := { lab with
      orders := { lab.orders with resetWait := some w, queue := List.replicate 7 (order [u8 1]) }
      channel := { lab.channel with
        heldOrders := [heldWrite 0 true sourceLine, heldWrite 1 true sourceLine]
        waiting := [{ tag := 3, line := 9999, access := .read }, { tag := 5, line := 1023, access := .write 1 5 }] } }
    s.orders.resetWait = some w ∧ s.drainComplete = true ∧ s.writerBusy = false ∧
      s.channel.heldOrders.length ≤ 8 ∧ (∀ q ∈ s.channel.heldOrders, q.treatment = .orderTake) ∧
      s.channel.summaryWritten = true ∧ s.channel.headerWritten = true ∧
      (∀ q ∈ s.channel.waiting, q.line < s.classifier.memLines ∧
        ¬(s.classifier.controlBase ≤ q.line ∧ q.line < s.classifier.controlBase + 512)) ∧
      ∀ q ∈ s.channel.waiting, ∀ data, q.access ≠ .write 0 data :=
  ⟨rfl, by decide +kernel, by decide +kernel, by decide, by decide, by decide +kernel, by decide +kernel,
    by decide +kernel, by
      intro q hq
      rcases List.mem_cons.mp hq with rfl | hq
      · exact fun _ h => by cases h
      · cases List.mem_singleton.mp hq
        exact fun _ h => by cases h⟩

/-- The RESET answer of a queued REGION QUERY carries memory size and control base, that of a SOURCE SET nothing. -/
theorem test_reset_answers :
    after (exec .partReset { lab with orders := { lab.orders with
      queue := [order [u8 0x62, u16 7], order [u8 4, u16 8], order [u8 1, u16 9]] } }) (fun t =>
        decide (t.orders.resetSequence.tail.map (fun r => (r.reason, r.values)) =
          [(some .reset, [u32 lab.classifier.memLines, u32 lab.classifier.controlBase]),
            (some .reset, [])])) = true := by
  decide +kernel

theorem witness_PartResetEmptiesTheWorkingState_warnings : WarningsSet busy := busy_warnings

/-- A REGION QUERY of a slot, with the clear option or without it. -/
def regionQueryVals (slot clear : Nat) : List Val := [u8 4, u16 7, u8 slot, u8 clear]

/-- A JOB QUERY, an ACCOUNT QUERY, a METERS QUERY and a CARTRIDGE QUERY. -/
def jobQueryVals (how what : Nat) : List Val := [u8 0x14, u16 7, u8 how, u16 what]
def accountQueryVals (how what part : Nat) : List Val := [u8 0x46, u16 7, u8 how, u32 what, u8 part]
def metersQueryVals (selector part : Nat) : List Val := [u8 0x26, u16 7, u8 selector, u8 part]
def cartridgeQueryVals (slot part : Nat) : List Val := [u8 0x51, u16 7, u8 slot, u8 part]

theorem witness_QueriesAndUnknownKindsChangeNothing_tables :
    ((queued lab (regionQueryVals 4 0)).Executes 0x04#8 (order (regionQueryVals 4 0)) [] ∧
      (order (regionQueryVals 4 0)).num 3 1 = (4 : Fin 32).val ∧ lab.classifier.regions[(4 : Fin 32)] = none) ∧
    ((queued lab (regionQueryVals 3 0)).Executes 0x04#8 (order (regionQueryVals 3 0)) [] ∧
      (order (regionQueryVals 3 0)).num 3 1 = (3 : Fin 32).val ∧
      lab.classifier.regions[(3 : Fin 32)] = some bandK ∧ (order (regionQueryVals 3 0)).byte 4 = 0#8) ∧
    ((queued lab (regionQueryVals 3 1)).Executes 0x04#8 (order (regionQueryVals 3 1)) [] ∧
      (order (regionQueryVals 3 1)).num 3 1 = (3 : Fin 32).val ∧ (order (regionQueryVals 3 1)).byte 4 = 1#8) ∧
    ((queued lab (regionQueryVals 32 0)).Executes 0x04#8 (order (regionQueryVals 32 0)) [] ∧
      31 < (order (regionQueryVals 32 0)).num 3 1) ∧
    ((queued lab (jobQueryVals 1 1)).Executes 0x14#8 (order (jobQueryVals 1 1)) [] ∧
      (order (jobQueryVals 1 1)).num 3 1 = 1 ∧ (order (jobQueryVals 1 1)).num 4 1 = (1 : Fin 16).val ∧
      lab.jobs[(1 : Fin 16)] = none) ∧
    ((queued lab (jobQueryVals 1 0)).Executes 0x14#8 (order (jobQueryVals 1 0)) [] ∧
      (order (jobQueryVals 1 0)).num 3 1 = 1 ∧ (order (jobQueryVals 1 0)).num 4 1 = (0 : Fin 16).val ∧
      lab.jobs[(0 : Fin 16)] = some printJob) ∧
    ((queued lab (jobQueryVals 0 1)).Executes 0x14#8 (order (jobQueryVals 0 1)) [] ∧
      (order (jobQueryVals 0 1)).num 3 1 = 0 ∧ (order (jobQueryVals 0 1)).num 4 2 ≠ 0 ∧
      (queued lab (jobQueryVals 0 1)).jobWithTag ((order (jobQueryVals 0 1)).num 4 2) = some 0) ∧
    ((queued lab (accountQueryVals 1 1 0)).Executes 0x46#8 (order (accountQueryVals 1 1 0)) [] ∧
      (order (accountQueryVals 1 1 0)).num 8 1 ≤ 1 ∧ (order (accountQueryVals 1 1 0)).num 3 1 = 1 ∧
      (order (accountQueryVals 1 1 0)).num 4 1 = (1 : Fin 64).val ∧ lab.accounts.users[(1 : Fin 64)] = none) ∧
    ((queued lab (accountQueryVals 1 0 0)).Executes 0x46#8 (order (accountQueryVals 1 0 0)) [] ∧
      (order (accountQueryVals 1 0 0)).num 3 1 = 1 ∧ (order (accountQueryVals 1 0 0)).num 4 1 = (0 : Fin 64).val ∧
      lab.accounts.users[(0 : Fin 64)] = some alice ∧ (order (accountQueryVals 1 0 0)).num 8 1 = 0) ∧
    ((queued lab (accountQueryVals 0 100 1)).Executes 0x46#8 (order (accountQueryVals 0 100 1)) [] ∧
      (order (accountQueryVals 0 100 1)).num 3 1 = 0 ∧ (order (accountQueryVals 0 100 1)).num 4 4 ≠ 0 ∧
      (queued lab (accountQueryVals 0 100 1)).userWithId ((order (accountQueryVals 0 100 1)).num 4 4) = some 0 ∧
      (order (accountQueryVals 0 100 1)).num 8 1 = 1) :=
  ⟨both (by decide +kernel), both (by decide +kernel), both (by decide +kernel), both (by decide +kernel),
    both (by decide +kernel), both (by decide +kernel), both (by decide +kernel), both (by decide +kernel),
    both (by decide +kernel), both (by decide +kernel)⟩

theorem witness_QueriesAndUnknownKindsChangeNothing_meters :
    ((queued lab (metersQueryVals 2 0)).Executes 0x26#8 (order (metersQueryVals 2 0)) [] ∧
      (order (metersQueryVals 2 0)).num 3 1 = 2 ∧ (order (metersQueryVals 2 0)).num 4 1 ≤ 4 ∧
      lab.store.pending = none) ∧
    ((queued switching (metersQueryVals 2 3)).Executes 0x26#8 (order (metersQueryVals 2 3)) [] ∧
      (order (metersQueryVals 2 3)).num 3 1 = 2 ∧
      switching.store.pending.map PendingCopy.set = some switching.store.staged ∧
      (order (metersQueryVals 2 3)).num 4 1 = (3 : Plane).val) ∧
    ((queued lab (metersQueryVals 0 4)).Executes 0x26#8 (order (metersQueryVals 0 4)) [] ∧
      (order (metersQueryVals 0 4)).num 3 1 = 0 ∧ (order (metersQueryVals 0 4)).num 4 1 = 4) ∧
    ((queued lab (metersQueryVals 1 4)).Executes 0x26#8 (order (metersQueryVals 1 4)) [] ∧
      (order (metersQueryVals 1 4)).num 3 1 = 1 ∧ (order (metersQueryVals 1 4)).num 4 1 = 4) ∧
    ((queued lab [u8 0x47, u16 7, u8 3]).Executes 0x47#8 (order [u8 0x47, u16 7, u8 3]) [] ∧
      2 < (order [u8 0x47, u16 7, u8 3]).num 3 1 ∧ (order [u8 0x47, u16 7, u8 0]).num 3 1 = 0 ∧
      (order [u8 0x47, u16 7, u8 1]).num 3 1 = 1 ∧ (order [u8 0x47, u16 7, u8 2]).num 3 1 = 2) ∧
    ((queued lab [u8 0x63, u16 7]).Executes (order [u8 0x63, u16 7]).kind (order [u8 0x63, u16 7]) [] ∧
      (order [u8 0x63, u16 7]).kind ∉ orderKinds) :=
  ⟨both (by decide +kernel), both (by decide +kernel), both (by decide +kernel), both (by decide +kernel),
    both (by decide +kernel), both (by decide +kernel)⟩

/-- The part with one entry of the absent list, of plane 0. -/
def absentPart : State := { busy with cartridges := { busy.cartridges with absent := [absentOne 7] } }

theorem witness_QueriesAndUnknownKindsChangeNothing_cartridge :
    ((queued absentPart (cartridgeQueryVals 3 0)).Executes 0x51#8 (order (cartridgeQueryVals 3 0)) [] ∧
      (order (cartridgeQueryVals 3 0)).num 3 1 = (3 : Plane).val ∧ (order (cartridgeQueryVals 3 0)).num 4 1 = 0 ∧
      absentPart.cartridges.slots[(3 : Plane)].history.length ≤ 8) ∧
    ((queued absentPart (cartridgeQueryVals 3 1)).Executes 0x51#8 (order (cartridgeQueryVals 3 1)) [] ∧
      (order (cartridgeQueryVals 3 1)).num 4 1 = 1) ∧
    ((queued absentPart (cartridgeQueryVals 0 2)).Executes 0x51#8 (order (cartridgeQueryVals 0 2)) [] ∧
      (order (cartridgeQueryVals 0 2)).num 3 1 = (0 : Plane).val ∧
      (order (cartridgeQueryVals 0 2)).num 4 1 = 0 + 2 ∧
      ((absentPart.cartridges.absent.zipIdx 1).filter fun x => decide (x.1.plane = 0))[0]? = some (absentOne 7, 1)) ∧
    ((queued absentPart (cartridgeQueryVals 3 9)).Executes 0x51#8 (order (cartridgeQueryVals 3 9)) [] ∧
      (order (cartridgeQueryVals 3 9)).num 4 1 = 7 + 2 ∧
      ((absentPart.cartridges.absent.zipIdx 1).filter fun x => decide (x.1.plane = 3))[7]? = none) :=
  ⟨both (by decide +kernel), both (by decide +kernel), both (by decide +kernel), both (by decide +kernel)⟩

end Sys2Proof.Tests
end

/-! PROOFS. The load orders FACTORS LOAD, CLASSES LOAD and PRICES LOAD (R84 to R86): the fields of their entries, the
law that every load of the staged set obeys, and for each order its two branches and the statement it settles. -/

namespace Sys2Proof.Machine

/-! ### Plane sets in the entry of an order -/

theorem mem_allPlanes (p : Plane) : p ∈ allPlanes := by
  revert p
  decide

theorem OrderEntry.byte_toNat (e : OrderEntry) (o : Nat) : (e.byte o).toNat = e.num o 1 := rfl

/-- The plane set in a byte is the number of the byte's low four bits. -/
theorem OrderEntry.planes_eq_ofNat (e : OrderEntry) (o : Nat) : e.planes o = BitVec.ofNat 4 (e.num o 1) := by
  apply BitVec.eq_of_toNat_eq
  simp [OrderEntry.planes, OrderEntry.byte_toNat]

theorem OrderEntry.planes_toNat_of_lt (e : OrderEntry) {o : Nat} (h : e.num o 1 < 16) :
    (e.planes o).toNat = e.num o 1 := by
  rw [OrderEntry.planes_eq_ofNat, BitVec.toNat_ofNat]
  exact Nat.mod_eq_of_lt h

theorem OrderEntry.planes_eq_zero_iff (e : OrderEntry) {o : Nat} (h : e.num o 1 < 16) :
    e.planes o = 0 ↔ e.num o 1 = 0 := by
  rw [← BitVec.toNat_inj, OrderEntry.planes_toNat_of_lt e h]
  rfl

theorem OrderEntry.hasPlane_planes (e : OrderEntry) (o : Nat) (p : Plane) :
    hasPlane (e.planes o) p = (e.byte o).getLsbD p.val := by
  simp [hasPlane, OrderEntry.planes]

/-! ### The law of a load (R83 to R86) -/

section Load

variable {s : State} {k : Byte} {e : OrderEntry} {rest : List OrderEntry} {c : Instr}
  {body : OrderEntry → State → OrderAnswer × State}

/-- An order whose body stages a set as the entry leaves the queue is a load of that set: what leaving the queue keeps
covers the store, the serials, the estimates and the low mark. -/
theorem stagedBy_of_stage (h : s.Executes k e rest) (hc : exec c s = runOrder (isKind k) body s) {set : ParamSet}
    {values : List Val} (hb : body e (popOrder rest s) = stage set values (popOrder rest s)) :
    StagedBy s c e rest set values := by
  obtain ⟨t, hrun, hanswer, hledger⟩ := runOrder_answered h (isKind k) body h.isKind none
    (values ++ [u8 (if set ≠ s.store.live then 1 else 0)])
    (by rw [hb]; simp [stage, OrderAnswer.parts, flagVal, MeterStore.differs])
    (by rw [hb]; rfl)
    (fun p => by rw [hb]; simp [stage])
    (fun p => by rw [hb]; simp [stage])
    (by rw [hb]; simp [stage])
  refine ⟨t, hc.trans hrun, hanswer, ?_⟩
  calc t.ledger
      = { (popOrder rest s).ledger with store := { (popOrder rest s).store with staged := set } } := by
        rw [hledger, hb]; rfl
    _ = { s.ledger with store := { s.store with staged := set } } := by rw [popOrder_ledger, popOrder_store]

/-- An order whose body refuses as the entry leaves the queue, without values and without a change, is refused so. -/
theorem refusedBy_of_refused (h : s.Executes k e rest) (hc : exec c s = runOrder (isKind k) body s) {reason : Reason}
    (hb : body e (popOrder rest s) = (.refused reason [], popOrder rest s)) : RefusedBy s c e rest reason := by
  obtain ⟨t, hrun, hanswer, hledger⟩ := runOrder_unchanged h (isKind k) body h.isKind (some reason) []
    (by rw [hb]; rfl) (by rw [hb])
  exact ⟨t, hc.trans hrun, hanswer, hledger⟩

end Load

/-! ### FACTORS LOAD (R84) -/

/-- What R84 refuses: an empty selection, or a factor above 65,535 for a selected plane. -/
def OrderEntry.BadFactors (e : OrderEntry) : Prop :=
  e.planes 3 = 0 ∨ ∃ p : Plane, hasPlane (e.planes 3) p = true ∧ 65535 < e.factor p

theorem factorsLoad_of_bad {e : OrderEntry} (h : e.BadFactors) (s : State) :
    factorsLoad e s = (.refused .badArg [], s) := by
  refine if_pos (h.imp_right ?_)
  rintro ⟨p, hp, hlarge⟩
  exact List.any_eq_true.mpr ⟨p, mem_allPlanes p, by simp [hp, hlarge]⟩

theorem factorsLoad_of_good {e : OrderEntry} (h : ¬e.BadFactors) (s : State) :
    factorsLoad e s =
      stage { s.store.staged with factors := loadedFactors e s.store.staged.factors }
        ((loadedFactors e s.store.staged.factors).toList.map u32) s := by
  refine if_neg (mt (Or.imp_right fun hany => ?_) h)
  obtain ⟨p, -, hp⟩ := List.any_eq_true.mp hany
  exact ⟨p, by simpa using hp⟩

/-- What R84 refuses, in the words of the entry's fields, for a selection of the four planes. -/
theorem OrderEntry.badFactors_iff {e : OrderEntry} (h : e.num 3 1 < 16) :
    e.BadFactors ↔ e.num 3 1 = 0 ∨
      ∃ p : Plane, (e.byte 3).getLsbD p.val = true ∧ 65535 < e.num (4 + 4 * p.val) 4 := by
  simp only [OrderEntry.BadFactors, e.planes_eq_zero_iff h, OrderEntry.hasPlane_planes, OrderEntry.factor]

theorem loadedFactors_eq (e : OrderEntry) (old : Vector Nat 4) :
    loadedFactors e old =
      Vector.ofFn fun p => if (e.byte 3).getLsbD p.val then e.num (4 + 4 * p.val) 4 else old[p] := by
  simp only [loadedFactors, OrderEntry.hasPlane_planes, OrderEntry.factor]

/-- Settles O41: the two branches of FACTORS LOAD under the law of a load. -/
theorem factorsLoadStagesTheSelected : Obligations.FactorsLoadStagesTheSelected := by
  intro s e rest h hsel
  refine ⟨fun hbad => ?refused, fun hsome hfit => ?staged⟩
  case refused => exact refusedBy_of_refused h rfl (factorsLoad_of_bad ((OrderEntry.badFactors_iff hsel).mpr hbad) _)
  case staged =>
    have hgood : ¬e.BadFactors := by
      rw [OrderEntry.badFactors_iff hsel]
      rintro (hzero | ⟨p, hp, hlarge⟩)
      · exact hsome hzero
      · exact absurd (hfit p hp) (Nat.not_le.mpr hlarge)
    refine stagedBy_of_stage h rfl ?_
    rw [factorsLoad_of_good hgood, popOrder_store, loadedFactors_eq]

/-! ### CLASSES LOAD (R85) -/

/-- What R85 refuses: a colour threshold, a bound or a mask out of range, or bounds out of order. -/
def OrderEntry.BadClasses (e : OrderEntry) : Prop :=
  10000 < e.num 3 2 ∨ e.num 7 2 < e.num 5 2 ∨ 40000 < e.num 7 2 ∨ 15 < e.num 9 1

theorem classesLoad_of_bad {e : OrderEntry} (h : e.BadClasses) (s : State) :
    classesLoad e s = (.refused .badArg [], s) := if_pos h

theorem classesLoad_of_good {e : OrderEntry} (h : ¬e.BadClasses) (s : State) :
    classesLoad e s =
      stage
        { s.store.staged with
          colourThreshold := e.num 3 2, bound1 := e.num 5 2, bound2 := e.num 7 2
          mask := BitVec.ofNat 4 (e.num 9 1) }
        [u16 (e.num 3 2), u16 (e.num 5 2), u16 (e.num 7 2), u8 (e.num 9 1)] s := by
  have hmask : e.num 9 1 < 16 := by
    have hlow : ¬15 < e.num 9 1 := fun hlarge => h (.inr (.inr (.inr hlarge)))
    omega
  have hvalue : planesVal (e.planes 9) = u8 (e.num 9 1) := congrArg u8 (e.planes_toNat_of_lt hmask)
  rw [← hvalue, ← OrderEntry.planes_eq_ofNat]
  exact if_neg h

/-- Settles O42: the two branches of CLASSES LOAD under the law of a load. -/
theorem classesLoadStagesAllFour : Obligations.ClassesLoadStagesAllFour := by
  intro s e rest h
  refine ⟨fun hbad => ?refused, fun hgood => ?staged⟩
  case refused => exact refusedBy_of_refused h rfl (classesLoad_of_bad hbad _)
  case staged =>
    refine stagedBy_of_stage h rfl ?_
    rw [classesLoad_of_good hgood, popOrder_store]

/-! ### PRICES LOAD (R86) -/

/-- Some of the six entries exceeds 65,535, which R86 refuses. -/
theorem OrderEntry.prices_any_iff (e : OrderEntry) :
    (e.prices.toList.any fun x => decide (65535 < x)) = true ↔ ∃ i < 6, 65535 < e.num (3 + 4 * i) 4 := by
  simp only [OrderEntry.prices, List.any_eq_true, Vector.mem_toList_iff, Vector.mem_ofFn, decide_eq_true_eq]
  constructor
  · rintro ⟨_, ⟨i, rfl⟩, hlarge⟩
    exact ⟨i.val, i.isLt, hlarge⟩
  · rintro ⟨i, hi, hlarge⟩
    exact ⟨_, ⟨⟨i, hi⟩, rfl⟩, hlarge⟩

theorem pricesLoad_of_bad {e : OrderEntry} (h : ∃ i < 6, 65535 < e.num (3 + 4 * i) 4) (s : State) :
    pricesLoad e s = (.refused .badArg [], s) := if_pos (e.prices_any_iff.mpr h)

theorem pricesLoad_of_good {e : OrderEntry} (h : ∀ i < 6, e.num (3 + 4 * i) 4 ≤ 65535) (s : State) :
    pricesLoad e s = stage { s.store.staged with prices := e.prices } [] s := by
  refine if_neg fun hany => ?_
  obtain ⟨i, hi, hlarge⟩ := e.prices_any_iff.mp hany
  exact absurd (h i hi) (Nat.not_le.mpr hlarge)

/-- Settles O43: the two branches of PRICES LOAD under the law of a load. -/
theorem pricesLoadStagesTheTable : Obligations.PricesLoadStagesTheTable := by
  intro s e rest h
  refine ⟨fun hbad => ?refused, fun hgood => ?staged⟩
  case refused => exact refusedBy_of_refused h rfl (pricesLoad_of_bad hbad _)
  case staged =>
    refine stagedBy_of_stage h rfl ?_
    rw [pricesLoad_of_good hgood, popOrder_store]
    rfl

end Sys2Proof.Machine

section

/-! PROOFS. What a step can do, said once: every command is a chain of small changes, each of which touches one table
under the guard that the model checks there. An invariant is then looked at change by change. -/

namespace Sys2Proof.Machine

/-! ### The tables that the laws speak of -/

/-- `t` keeps every table of `s` that the laws of the tables speak of; the channel front, the line protection unit, the
upstream stream, the parameter store, the unattributed records, the meters and the notices may differ, and lines that
are no returns may have joined the part's own stream. -/
structure TablesKept (s t : State) : Prop where
  pending : t.pending = s.pending := by rfl
  fuses : t.fuses = s.fuses := by rfl
  mem : t.mem = s.mem := by rfl
  classifier : t.classifier = s.classifier := by rfl
  jobs : t.jobs = s.jobs := by rfl
  sides : t.sides = s.sides := by rfl
  users : t.accounts.users = s.accounts.users := by rfl
  restore : t.accounts.restore = s.accounts.restore := by rfl
  cartridges : t.cartridges = s.cartridges := by rfl
  orders : t.orders = s.orders := by rfl
  writeIndex : t.writer.writeIndex = s.writer.writeIndex := by rfl
  readIndex : t.writer.readIndex = s.writer.readIndex := by rfl
  epoch : t.writer.epoch = s.writer.epoch := by rfl
  own : ∃ ls, (∀ l ∈ ls, l.isReturn = false) ∧ t.port.own = s.port.own ++ ls := by
    exact ⟨[], List.forall_mem_nil _, (List.append_nil _).symm⟩

/-! ### The end of a side and the emptying of the side list -/

/-- The owner's record once the reserve of a side has left its hold, the warning test made (R122, R124). -/
def EndsHold (reserve : Nat) (h : User → User) : Prop :=
  ∀ u, (h u).hold = u.hold - reserve ∧ (h u).warned = decide ((h u).available < (h u).warn)

/-- A change of a side record that keeps what tells the record, its owner and its state. -/
structure SideKept (f : Side → Side) : Prop where
  uid : ∀ x, (f x).uid = x.uid := by intro; rfl
  id : ∀ x, (f x).id = x.id := by intro; rfl
  state : ∀ x, (f x).state = x.state := by intro; rfl
  userSlot : ∀ x, (f x).userSlot = x.userSlot := by intro; rfl
  reserve : ∀ x, (f x).reserve = x.reserve := by intro; rfl

/-- A record of the side list stands for the side: it has its number, its owner and its reserve, and is not SETTLED. -/
def SideListed (r : Side) (s : State) : Prop :=
  ∃ x ∈ s.sides.records, x.uid = r.uid ∧ x.state ≠ .settled ∧ x.userSlot = r.userSlot ∧ x.reserve = r.reserve

/-- The records of the side list are told apart by their numbers. -/
def SidesDistinct (s : State) : Prop := (s.sides.records.map Side.uid).Nodup

/-- The record of a side that is ADMITTED or METERING becomes SETTLED, and its reserve leaves its owner's hold (R109,
R114). -/
structure SideEnds (r : Side) (s t : State) : Prop where
  listed : SidesDistinct s → SideListed r s
  sides : ∃ g, SideKept g ∧ t.sides = (markSettled r.uid g s).sides
  users : ∃ h, EndsHold r.reserve h ∧
    t.accounts.users = put s.accounts.users r.userSlot (s.accounts.users[r.userSlot].map h)
  restore : t.accounts.restore = s.accounts.restore
  rest : TablesKept { s with sides := t.sides, accounts := t.accounts } t

/-- The side list is emptied, and every hold released (R119, R122). -/
structure SidesEmptied (s t : State) : Prop where
  sides : t.sides = { s.sides with records := [], settledOrder := [] }
  users : ∀ i : Fin 64, t.accounts.users[i] = s.accounts.users[i].map
    (releasedUser (s.sides.records.filter fun r => decide (r.state ≠ .settled)) i)
  restore : t.accounts.restore = s.accounts.restore
  regions : ∀ i : Fin 16, (t.jobs[i]).map Job.regions = (s.jobs[i]).map Job.regions
  rest : TablesKept { s with sides := t.sides, accounts := t.accounts, jobs := t.jobs } t

/-! ### Steps of the cartridge prover -/

/-- An attempt ends (R145, R149, R151), but for the answer to a parked CARTRIDGE PROBE. -/
def closeAttempt (p : Plane) (o : ProofOutcome) (s : State) : State :=
  let s1 := freeLine (s.onSlot p fun c =>
    { c with
      history := (decide (o = .pass) :: c.history).take 8
      everFailed := c.everFailed || decide (o = .fail) || decide (o = .rejected)
      everSilent := c.everSilent || decide (o = .silent)
      answerTimer := none })
  let ended := fun s : State => s.onSlot p fun c => { c with exchange := .idle, attempts := 0 }
  match o with
  | .pass => thresholdTest p (changeVerdict p .genuine (ended s1))
  | .rejected => changeVerdict p .rejected (ended s1)
  | .fail | .silent =>
    if s.cartridges.slots[p].attempts < 3 then
      changeVerdict p .doubtful
        (s1.onSlot p fun c => { c with exchange := .retryWait, retryTimer := some 100 })
    else changeVerdict p .unproven (ended s1)

/-- The ended attempt, and with it the proof unless a retry follows, in which a parked CARTRIDGE PROBE is answered. -/
theorem endAttempt_eq (p : Plane) (o : ProofOutcome) (s : State) :
    endAttempt p o s =
      if (o = .fail ∨ o = .silent) ∧ s.cartridges.slots[p].attempts < 3 then closeAttempt p o s
      else completeProbe p o s.cartridges.slots[p].attempts (closeAttempt p o s) := by
  by_cases h : s.cartridges.slots[p].attempts < 3
  · cases o <;> simp only [endAttempt, closeAttempt, h] <;> rfl
  · cases o <;> simp only [endAttempt, closeAttempt, h] <;> rfl

/-- A cartridge slot record with the same debts and standing on the line; the serial, the count and the re-proof count
may differ. -/
structure DebtsKept (f : CartridgeSlot → CartridgeSlot) : Prop where
  owed : ∀ x, (f x).owed = x.owed := by intro; rfl
  uncertain : ∀ x, (f x).uncertain = x.uncertain := by intro; rfl
  seated : ∀ x, (f x).seated = x.seated := by intro; rfl
  verdict : ∀ x, (f x).verdict = x.verdict := by intro; rfl
  exchange : ∀ x, (f x).exchange = x.exchange := by intro; rfl
  probe : ∀ x, (f x).probePending = x.probePending := by intro; rfl
  debit : ∀ x, (f x).debitPending = x.debitPending := by intro; rfl
  settling : ∀ x, (f x).settlingTimer = x.settlingTimer := by intro; rfl
  retry : ∀ x, (f x).retryTimer = x.retryTimer := by intro; rfl

/-- The exchange of slot `p` is a proof on the line. -/
def ProofOnLine (p : Plane) (s : State) : Prop :=
  ∃ x nonce, s.cartridges.line = some x ∧ x.slot = p ∧ x.message = .challenge nonce

/-- The debit of slot `p` on the line has the given amount. -/
def DebitOnLine (p : Plane) (amount : Nat) (s : State) : Prop :=
  ∃ x nonce tag, s.cartridges.line = some x ∧ x.slot = p ∧ x.message = .debit amount nonce tag

/-- What the cartridge prover can do within a command: what changes cartridge slots, absent list, totals, policy or
line, with what the model makes sure of there. -/
inductive ProverStep (c : Instr) : State → State → Prop
  | threshold (s p) : ProverStep c s (thresholdTest p s)
  | probe (s p) : ProverStep c s (requestProbe p s)
  | slot (s p f) (h : DebtsKept f) : ProverStep c s (s.onSlot p f)
  | pin (s p b) : ProverStep c s (setPin p b s)
  | policy (s t) : ProverStep c s { s with cartridges := { s.cartridges with policy := t } }
  | sideDraw (s p d v) : ProverStep c s (routeSideDraw p d v s).1
  | unattributedDraw (s p d) : ProverStep c s (routeUnattributed p d s)
  | totals (s v) :
      ProverStep c s { s with cartridges := { s.cartridges with totals := restoredTotals s.cartridges v } }
  | arbitrate (s) : ProverStep c s (arbitrate s)
  | phase (s ph) : ProverStep c s (setPhase ph s)
  | seat (s p) (h : s.cartridges.slots[p].seated = false) : ProverStep c s (seatCartridge p s)
  | settle (s p) (h : s.cartridges.slots[p].settlingTimer.isSome = true) :
      ProverStep c s (s.onSlot p fun x =>
        { x with exchange := .idle, attempts := 0, probePending := true, settlingTimer := none })
  | retry (s p) (h : s.cartridges.slots[p].retryTimer.isSome = true) :
      ProverStep c s (s.onSlot p fun x => { x with exchange := .idle, probePending := true, retryTimer := none })
  | attempt (s p o) (h : ProofOnLine p s) : ProverStep c s (closeAttempt p o s)
  | count (s p a) (h : ProofOnLine p s) :
      ProverStep c s (s.onSlot p fun x => { x with remaining := some a, uncertain := none })
  | applied (s p a u) (h : ProofOnLine p s) (hu : s.cartridges.slots[p].uncertain = some u) :
      ProverStep c s (addConfirmed p u (s.onSlot p fun x =>
        { x with remaining := some a, uncertain := none, owed := x.owed - u }))
  | claimCount (s p v a n) (h : ProofOnLine p s) (ha : s.absentEntry v p = some a) :
      ProverStep c s ((claimEntry p a s).onSlot p fun x => { x with remaining := some n, uncertain := none })
  | claimApplied (s p v a n u) (h : ProofOnLine p s) (ha : s.absentEntry v p = some a) (hu : a.uncertain = some u) :
      ProverStep c s (addConfirmed p u ((claimEntry p a s).onSlot p fun x =>
        { x with remaining := some n, uncertain := none, owed := x.owed - u }))
  | claimRejected (s p v a) (h : ProofOnLine p s) (ha : s.absentEntry v p = some a) :
      ProverStep c s (closeAttempt p .rejected (claimEntry p a s))
  | stash (s p) (h : ProofOnLine p s) : ProverStep c s (stashSlot p s)
  | badDebit (s p amount silent) (h : DebitOnLine p amount s) : ProverStep c s (endDebitBadly p amount silent s)
  | goodDebit (s p amount n) (h : DebitOnLine p amount s) : ProverStep c s (confirmDebit p amount n s)
  | abandon (s) : ProverStep c s (abandonExchange s)
  | remove (s p) (hc : c = .presenceDeassert p) :
      ProverStep c s ((stashSlot p (dropExchange p (keepUncertain p s))).onSlot p fun _ => CartridgeSlot.empty)

/-! ### The changes -/

/-- The user table, the retired record and the device meters of a snapshot are installed, each user with the warning
test (R138). -/
def restoreUsers (us : List UserCopy) (retired : Counters) (meters : DeviceMeters) (s : State) : State :=
  (List.finRange 64).foldl (fun s i => warningTest i s)
    { s with accounts := { s.accounts with users := restoredUsers us, retired, meters, restore := none } }

/-- The record `r` leaves region slot `i`, and a bound one its job's count (R11, R32). -/
def freeRegion (i : Fin 32) (r : Region) (s : State) : State :=
  let freed := { s with classifier := { s.classifier with regions := put s.classifier.regions i none } }
  match r.state, r.job with
  | .live, some j => freed.onJob j fun x => { x with regions := x.regions - 1 }
  | _, _ => freed

/-- What a command can do to the tables within its own effect, piece by piece: none of it moves a result into or out of
the holding list, issues a return, or starts the metering of a side. -/
inductive Work (c : Instr) : State → State → Prop
  | aside {s t} (h : TablesKept s t) : Work c s t
  | prover {s t} (h : ProverStep c s t) : Work c s t
  | store (s n mask data) : Work c s { s with mem := writeLine s.mem n mask data }
  | job (s i f) (h : ∀ j : Job, (f j).regions = j.regions) : Work c s (s.onJob i f)
  | jobOpen (s i j) (hfree : s.jobs[i] = none) (h : j.regions = 0) :
      Work c s { s with jobs := put s.jobs i (some j) }
  | jobFree (s i) :
      Work c s { s with
        classifier := { s.classifier with
          regions := s.classifier.regions.map fun (x : Option Region) => x.map (orphanRegion i) }
        jobs := put s.jobs i none }
  | refusals (s i n) : Work c s (s.onRegion i fun r => { r with refusals := n })
  | sources (s v) : Work c s { s with classifier := { s.classifier with sources := v } }
  | regionDefine (s) (f : RegionForm) (i) (hi : indexOf 32 f.slot = some i) (h : firstFailure (f.checks s) = none) :
      Work c s (installRegion i (f.record s) s)
  | regionFree (s i r) (h : s.classifier.regions[i] = some r) :
      Work c s (freeRegion i r s)
  | side (s uid f) (h : SideKept f) : Work c s (s.onSide uid f)
  | strict (s b) : Work c s { s with sides := { s.sides with strict := b } }
  | sideAdmit (s f i j u) (hroom : s.sides.records.length < 8) (hbusy : s.accounts.restore = none)
      (hu : s.accounts.users[j.owner] = some u) : Work c s (admitSide (newSide f i j u s) s)
  | sideEnd {s t} (r) (h : SideEnds r s t) : Work c s t
  | userOpen (s i u) (hfree : s.accounts.users[i] = none) (h : u.hold = 0) :
      Work c s (warningTest i (setUser i (some u) s))
  | userSet (s i u u') (hu : s.accounts.users[i] = some u) (h : u'.hold = u.hold) :
      Work c s (warningTest i (setUser i (some u') s))
  | userState (s i u x) (hu : s.accounts.users[i] = some u) :
      Work c s (setUser i (some { u with state := x }) s)
  | userRemove (s i u) (hu : s.accounts.users[i] = some u) (h : u.hold = 0) : Work c s (setUser i none s)
  | restoreOpen (s b) (h : s.accounts.restore.isSome ∨ s.sides.records = []) : Work c s (setRestore (some b) s)
  | restoreClose (s) : Work c s (setRestore none s)
  | usersRestore (s) (us : List UserCopy) (retired meters) (h : s.accounts.restore.isSome) :
      Work c s (restoreUsers us retired meters s)
  | complete (s f r v) : Work c s (s.completeParked f r v)
  | park (s e o) (h : s.parkedFull = false) : Work c s (s.park e o)
  | supersede (s e) (hc : c = .metersApply) : Work c s (supersede e s)
  | queue (s e) (hroom : s.orders.queue.length < 8) (hwait : s.orders.resetWait = none) :
      Work c s { s with orders := { s.orders with queue := s.orders.queue ++ [e] } }
  | offer (s a) : Work c s (offerIndex a s)

/-- What a command can do to the tables, piece by piece. -/
inductive Change (c : Instr) : State → State → Prop
  | work {s t} (h : Work c s t) : Change c s t
  | sideStart (s r) (hc : c = .sideMark) (h : s.oldestAdmitted = some r) : Change c s (startSide r s)
  | sideTold (s) : Change c s (tellSideList s)
  | sidesEmpty {s t} (h : SidesEmptied s t) : Change c s t
  | dequeue (s e rest) (h : s.orders.queue = e :: rest) :
      Change c s { s with orders := { s.orders with queue := rest } }
  | hold (s e r v) (h : s.orders.holding.length < 8) : Change c s (s.hold e r v)
  | move (s) : Change c s (moveCompleted s)
  | toldResult (s) : Change c s (tellOrderTaker s)
  | exported (s) :
      Change c s { s with orders := { s.orders with parked := s.orders.parked.map countExported } }
  | enterWait (s e rest) (h : s.orders.queue = e :: rest) : Change c s (enterResetWait e rest s)
  | drain (s) : Change c s (noteDrain s)
  | tablesReset (s sequence) : Change c s (resetTables sequence s)
  | grantOwn (s) : Change c s (grantOwn s)
  | returnAccept (s) (h : ∃ o l rest, s.port.own = .ret o l :: rest) :
      Change c s (grantOwn
        { s with writer := { s.writer with writeIndex := (s.writer.writeIndex + 1) % ringSlots } })
  | returnIssue (s) : Change c s (issueReturn s)
  | ringReset (s) (h : ∀ l ∈ s.port.own, l.isReturn = false) : Change c s (resetRing s)

/-- A chain of pieces of work. -/
abbrev Works (c : Instr) : State → State → Prop := Relation.ReflTransGen (Work c)

/-- What a command can do: a chain of changes. -/
abbrev Changes (c : Instr) : State → State → Prop := Relation.ReflTransGen (Change c)

end Sys2Proof.Machine
end

section

/-! PROOFS. The shared operations as chains of changes: what each block's operations do to the tables. -/

namespace Sys2Proof.Machine

variable {c : Instr} {s t u : State}

/-! ### Chains -/

theorem TablesKept.works (h : TablesKept s t) : Works c s t := .single (.aside h)

theorem ProverStep.works (h : ProverStep c s t) : Works c s t := .single (.prover h)

theorem Work.works (h : Work c s t) : Works c s t := .single h

theorem Works.changes (h : Works c s t) : Changes c s t := Relation.ReflTransGen.mono (fun _ _ hw => Change.work hw) s t h

theorem Change.changes (h : Change c s t) : Changes c s t := .single h

/-- A fold is a chain when each of its steps is one. -/
theorem foldl_works {α : Type} {f : State → α → State} (l : List α) (h : ∀ s, ∀ a ∈ l, Works c s (f s a)) (s : State) :
    Works c s (l.foldl f s) := by
  induction l generalizing s with
  | nil => exact .refl
  | cons a l ih =>
    exact (h s a (by simp)).trans (ih (fun s b hb => h s b (by simp [hb])) (f s a))

/-! ### Users and the warning test (R124) -/

theorem put_self {α : Type} {n : Nat} (v : Vector α n) (i : Fin n) : put v i v[i] = v := by
  ext j hj
  simp only [put, Vector.getElem_set]
  split
  · subst_vars; rfl
  · rfl

theorem put_put {α : Type} {n : Nat} (v : Vector α n) (i : Fin n) (x y : α) : put (put v i x) i y = put v i y := by
  ext j hj
  simp only [put, Vector.getElem_set]
  split <;> rfl

/-- A user record with the warning that its available balance calls for (R124). -/
def User.tested (r : User) : User := { r with warned := decide (r.available < r.warn) }

theorem warningTest_of_none {i : Fin 64} (h : s.accounts.users[i] = none) : warningTest i s = s := by
  simp only [warningTest, h]

/-- The warning test sets WARNED as the available balance calls for, and raises the user's bit when it becomes set. -/
theorem warningTest_of_some {i : Fin 64} {r : User} (h : s.accounts.users[i] = some r) :
    warningTest i s = { s with
      accounts := { s.accounts with users := put s.accounts.users i (some r.tested) }
      writer := { s.writer with userMap := warnedMap s.writer.userMap i r.warned r.tested.warned } } := by
  have hw : ∀ b, r.warned = b → { r with warned := b } = r := by rintro _ rfl; rfl
  simp only [warningTest, h]
  by_cases hlow : r.available < r.warn
  · cases hwarned : r.warned
    · simp [hlow, warnedMap, User.tested, State.onUser, State.raiseQuota, h]
    · simp only [hlow, User.tested, warnedMap]
      rw [decide_true, hw true hwarned, ← h, put_self]
      rfl
  · simp [hlow, warnedMap, User.tested, State.onUser, h]

/-- The user record of slot `i` is edited, with no other change to the tables than perhaps the user map. -/
structure UserEdited (i : Fin 64) (h : User → User) (s t : State) : Prop where
  users : t.accounts.users = put s.accounts.users i (s.accounts.users[i].map h)
  restore : t.accounts.restore = s.accounts.restore
  sides : t.sides = s.sides
  rest : TablesKept { s with accounts := t.accounts } t

theorem UserEdited.trans {i : Fin 64} {h k : User → User} (hst : UserEdited i h s t) (htu : UserEdited i k t u) :
    UserEdited i (k ∘ h) s u where
  users := by rw [htu.users, hst.users, put_same, put_put, Option.map_map]
  restore := htu.restore.trans hst.restore
  sides := htu.sides.trans hst.sides
  rest := by
    obtain ⟨hp, hf, hm, hc, hj, hs, -, -, hca, ho, hw, hr, he, ls, hls, how⟩ := hst.rest
    obtain ⟨hp', hf', hm', hc', hj', hs', -, -, hca', ho', hw', hr', he', ls', hls', how'⟩ := htu.rest
    refine ⟨hp'.trans hp, hf'.trans hf, hm'.trans hm, hc'.trans hc, hj'.trans hj, hs'.trans hs, rfl, rfl,
      hca'.trans hca, ho'.trans ho, hw'.trans hw, hr'.trans hr, he'.trans he, ls ++ ls', ?_, ?_⟩
    · simpa [or_imp, forall_and] using ⟨hls, hls'⟩
    · rw [how', show t.port.own = _ from how]; simp

theorem UserEdited.refl (i : Fin 64) (s : State) : UserEdited i id s s where
  users := by rw [Option.map_id_fun, id, put_self]
  restore := rfl
  sides := rfl
  rest := {}

theorem warningTest_edited (i : Fin 64) (s : State) : UserEdited i User.tested s (warningTest i s) := by
  cases h : s.accounts.users[i] with
  | none =>
    rw [warningTest_of_none h]
    exact ⟨by rw [h, Option.map_none, ← h, put_self], rfl, rfl, {}⟩
  | some r =>
    rw [warningTest_of_some h]
    exact ⟨by rw [h]; rfl, rfl, rfl, {}⟩

theorem onUser_edited (i : Fin 64) (h : User → User) (s : State) : UserEdited i h s (s.onUser i h) :=
  ⟨rfl, rfl, rfl, {}⟩

theorem raise_kept (s : State) (n : Notice) : TablesKept s (s.raise n) := {}

theorem raiseIf_kept (s : State) (b : Bool) (n : Notice) : TablesKept s (s.raiseIf b n) := by
  cases b
  · exact {}
  · exact {}

/-- What edits a record may raise a notice. -/
theorem UserEdited.raiseIf {i : Fin 64} {h : User → User} (hst : UserEdited i h s t) (b : Bool) (n : Notice) :
    UserEdited i h s (t.raiseIf b n) := by
  cases b
  · exact hst
  · obtain ⟨hu, hr, hs, hrest⟩ := hst
    exact ⟨hu, hr, hs, ⟨hrest.pending, hrest.fuses, hrest.mem, hrest.classifier, hrest.jobs, hrest.sides, rfl, rfl,
      hrest.cartridges, hrest.orders, hrest.writeIndex, hrest.readIndex, hrest.epoch, hrest.own⟩⟩

theorem chargeUser_edited (i : Fin 64) (n : Nat) (s : State) :
    ∃ h : User → User, (∀ r, (h r).hold = r.hold) ∧ UserEdited i h s (chargeUser i n s) := by
  unfold chargeUser
  cases hu : s.accounts.users[i] with
  | none => exact ⟨id, fun _ => rfl, .refl i s⟩
  | some r =>
    dsimp only
    split
    · refine ⟨_, ?_, (onUser_edited i _ s).raiseIf true .saturation⟩
      exact fun _ => rfl
    · refine ⟨_, ?_, onUser_edited i _ s⟩
      exact fun _ => rfl

theorem countUser_edited (i : Fin 64) (k : Fin 8) (s : State) :
    ∃ h : User → User, (∀ r, (h r).hold = r.hold) ∧ UserEdited i h s (countUser i k s) := by
  unfold countUser
  cases hu : s.accounts.users[i] with
  | none => exact ⟨id, fun _ => rfl, .refl i s⟩
  | some r =>
    refine ⟨_, ?_, (onUser_edited i _ s).raiseIf _ .saturation⟩
    exact fun _ => rfl

theorem countSideMeter_edited (i : Fin 64) (k : Fin 8) (s : State) : UserEdited i id s (countSideMeter k s) := by
  have h : UserEdited i id s { s with accounts := { s.accounts with meters := { s.accounts.meters with
      sides := put s.accounts.meters.sides k (addSat max32 s.accounts.meters.sides[k] 1).1 } } } :=
    ⟨(UserEdited.refl i s).users, rfl, rfl, {}⟩
  exact h.raiseIf _ .saturation

theorem countBoth_edited (i : Fin 64) (k : Fin 8) (s : State) :
    ∃ h : User → User, (∀ r, (h r).hold = r.hold) ∧ UserEdited i h s (countBoth i k s) := by
  obtain ⟨h, hh, he⟩ := countUser_edited i k s
  exact ⟨id ∘ h, hh, he.trans (countSideMeter_edited i k _)⟩

/-- A settlement takes the reserve out of the owner's hold and makes the warning test (R109). -/
theorem settleAccount_edited (r : Side) (o : SideOutcome) (f : CloseFigures) (n : Nat) (s : State) :
    ∃ h, EndsHold r.reserve h ∧ UserEdited r.userSlot h s (settleAccount r o f n s) := by
  have hrel : UserEdited r.userSlot (fun x => { x with hold := x.hold - r.reserve }) s
      (releaseHold r.userSlot r.reserve s) := onUser_edited _ _ _
  have hcounts : ∃ k : User → User, (∀ x, (k x).hold = x.hold) ∧
      UserEdited r.userSlot k (releaseHold r.userSlot r.reserve s)
        (if o = .jammed then countBoth r.userSlot spoiledIndex (releaseHold r.userSlot r.reserve s)
        else
          let s2 := countBoth r.userSlot (counterIndex f.cls f.tier)
            (chargeUser r.userSlot n (releaseHold r.userSlot r.reserve s))
          if r.face = .back then countBoth r.userSlot duplexIndex s2 else s2) := by
    split
    · exact countBoth_edited _ _ _
    · obtain ⟨k1, hk1, he1⟩ := chargeUser_edited r.userSlot n (releaseHold r.userSlot r.reserve s)
      obtain ⟨k2, hk2, he2⟩ := countBoth_edited r.userSlot (counterIndex f.cls f.tier)
        (chargeUser r.userSlot n (releaseHold r.userSlot r.reserve s))
      dsimp only
      split
      · obtain ⟨k3, hk3, he3⟩ := countBoth_edited r.userSlot duplexIndex
          (countBoth r.userSlot (counterIndex f.cls f.tier)
            (chargeUser r.userSlot n (releaseHold r.userSlot r.reserve s)))
        exact ⟨_, fun x => by simp [hk1, hk2, hk3], (he1.trans he2).trans he3⟩
      · exact ⟨_, fun x => by simp [hk1, hk2], he1.trans he2⟩
  obtain ⟨k, hk, he⟩ := hcounts
  refine ⟨User.tested ∘ (k ∘ fun x => { x with hold := x.hold - r.reserve }), fun x => ⟨?_, ?_⟩,
    (hrel.trans he).trans (warningTest_edited _ _)⟩
  · simp [User.tested, hk]
  · rfl

/-! ### The parked-order list, jobs and regions -/

theorem completeParked_works (f : ParkObject → Bool) (r : Option Reason) (v : List Val) (s : State) :
    Works c s (s.completeParked f r v) := (Work.complete s f r v).works

theorem onJob_works {f : Job → Job} (i : Fin 16) (h : ∀ j : Job, (f j).regions = j.regions) (s : State) :
    Works c s (s.onJob i f) := (Work.job s i f h).works

theorem attemptClose_works (i : Fin 16) (s : State) : Works c s (attemptClose i s) := by
  unfold attemptClose
  split
  · exact .refl
  · split
    · exact (Work.jobFree s i).works.trans (completeParked_works _ _ _ _)
    · exact .refl

theorem attemptRemove_works (i : Fin 32) (s : State) : Works c s (attemptRemove i s) := by
  unfold attemptRemove
  split
  · exact .refl
  · rename_i r hr
    split
    · split
      · exact completeParked_works _ _ _ _
      · exact (Work.regionFree s i r hr).works.trans (completeParked_works _ _ _ _)
    · exact .refl

theorem countEnciphered_works (i : Fin 16) (s : State) : Works c s (countEnciphered i s) := by
  unfold countEnciphered
  split
  · exact .refl
  · exact (onJob_works i (by intro; rfl) s).trans (raiseIf_kept _ _ _).works

theorem countSettled_works (i : Fin 16) (s : State) : Works c s (countSettled i s) := by
  unfold countSettled
  split
  · exact .refl
  · exact (onJob_works i (by intro; rfl) s).trans (raiseIf_kept _ _ _).works

theorem sideLeaves_works (i : Fin 16) (s : State) : Works c s (sideLeaves i s) :=
  (onJob_works i (by intro; rfl) s).trans (attemptClose_works i _)

/-! ### The end of a side -/

theorem countReproof_works (p : Plane) (s : State) : Works c s (countReproof p s) := by
  unfold countReproof
  dsimp only
  split
  · split
    · exact (ProverStep.slot s p _ {}).works.trans (ProverStep.probe _ p).works
    · exact (ProverStep.slot s p _ {}).works
  · exact .refl

theorem handPlaneDraw_works (r : Side) (f : CloseFigures) (s : State) (p : Plane) :
    Works c s (handPlaneDraw r f s p) := by
  unfold handPlaneDraw
  split
  · refine (ProverStep.sideDraw s p f.draw[p] r.serials[p]).works.trans (.trans ?_ (countReproof_works p _))
    split
    · exact (Work.side _ r.uid _ {}).works
    · exact .refl
  · exact .refl

theorem handDraw_works (r : Side) (f : CloseFigures) (s : State) : Works c s (handDraw r f s) :=
  foldl_works _ (fun s p _ => handPlaneDraw_works r f s p) s

/-- What follows the settlement in the close of a side: the job's totals and counts, and the draw (R108 to R110). -/
def afterSettlement (r : Side) (f : CloseFigures) (s : State) : State :=
  handDraw r f (sideLeaves r.jobSlot (countSettled r.jobSlot s))

theorem afterSettlement_works (r : Side) (f : CloseFigures) (s : State) : Works c s (afterSettlement r f s) :=
  ((countSettled_works _ s).trans (sideLeaves_works _ _)).trans (handDraw_works _ _ _)

/-- The record and the account of a closed side (R108, R109). -/
def settleSide (r : Side) (o : SideOutcome) (s : State) : State :=
  let f := closeFigures s.store.live r
  let n := if o = .jammed then (0, false) else chargeOf s.store.live r.reserve f
  settleAccount r o f n.1 (markSettled r.uid (fun x =>
    { x with outcome := some o, figures := some f, charge := some n.1, capped := n.2 }) s)

theorem closeSide_eq (r : Side) (o : SideOutcome) (s : State) :
    closeSide r o s = afterSettlement r (closeFigures s.store.live r) (settleSide r o s) := rfl

/-- A settlement that follows the mark on the record ends the side. -/
theorem UserEdited.ends_of_marked {r : Side} {h : User → User} {g : Side → Side}
    (he : UserEdited r.userSlot h (markSettled r.uid g s) t) (hh : EndsHold r.reserve h) (hg : SideKept g)
    (hl : SidesDistinct s → SideListed r s) : SideEnds r s t :=
  ⟨hl, ⟨g, hg, he.sides⟩, ⟨h, hh, he.users⟩, he.restore,
    ⟨he.rest.pending, he.rest.fuses, he.rest.mem, he.rest.classifier, he.rest.jobs, rfl, rfl, rfl, he.rest.cartridges,
      he.rest.orders, he.rest.writeIndex, he.rest.readIndex, he.rest.epoch, he.rest.own⟩⟩

/-- A settlement that comes before the mark on the record ends the side. -/
theorem UserEdited.ends_of_mark {r : Side} {h : User → User} {g : Side → Side} (he : UserEdited r.userSlot h s t)
    (hh : EndsHold r.reserve h) (hg : SideKept g) (hl : SidesDistinct s → SideListed r s) : SideEnds r s (markSettled r.uid g t) :=
  ⟨hl, ⟨g, hg, by simp only [markSettled, State.onSide, he.sides]⟩, ⟨h, hh, he.users⟩, he.restore,
    ⟨he.rest.pending, he.rest.fuses, he.rest.mem, he.rest.classifier, he.rest.jobs, rfl, rfl, rfl, he.rest.cartridges,
      he.rest.orders, he.rest.writeIndex, he.rest.readIndex, he.rest.epoch, he.rest.own⟩⟩

theorem settleSide_ends {r : Side} (o : SideOutcome) (h : SidesDistinct s → SideListed r s) : SideEnds r s (settleSide r o s) := by
  unfold settleSide
  dsimp only
  obtain ⟨k, hk, he⟩ := settleAccount_edited r o _ _ _
  exact he.ends_of_marked hk {} h

theorem closeSide_works {r : Side} (o : SideOutcome) (h : SidesDistinct s → SideListed r s) : Works c s (closeSide r o s) := by
  rw [closeSide_eq]
  exact (Work.sideEnd r (settleSide_ends o h)).works.trans (afterSettlement_works _ _ _)

theorem meteringSide_mem {r : Side} (h : s.meteringSide = some r) : r ∈ s.sides.records :=
  List.mem_of_find?_eq_some h

theorem meteringSide_state {r : Side} (h : s.meteringSide = some r) : r.state = .metering := by
  unfold State.meteringSide at h
  simpa using List.find?_some h

theorem meteringSide_listed {r : Side} (h : s.meteringSide = some r) : SideListed r s :=
  ⟨r, meteringSide_mem h, rfl, by simp [meteringSide_state h], rfl, rfl⟩

/-- A completion attempt does not look at the side list. -/
theorem attemptClose_withSides (i : Fin 16) (x : SideList) (s : State) :
    attemptClose i { s with sides := x } = { attemptClose i s with sides := x } := by
  unfold attemptClose
  dsimp only
  split
  · rfl
  · split
    · unfold completeClose State.completeParked
      dsimp only
      split <;> rfl
    · rfl

@[simp] theorem completeClose_sides (i : Fin 16) (j : Job) (s : State) : (completeClose i j s).sides = s.sides := by
  simp [completeClose]

@[simp] theorem attemptClose_sides (i : Fin 16) (s : State) : (attemptClose i s).sides = s.sides := by
  unfold attemptClose
  split
  · rfl
  · split
    · simp
    · rfl

@[simp] theorem sideLeaves_sides (i : Fin 16) (s : State) : (sideLeaves i s).sides = s.sides := by
  simp [sideLeaves]

theorem sideLeaves_markSettled (i : Fin 16) (uid : Nat) (g : Side → Side) (s : State) :
    markSettled uid g (sideLeaves i s) = sideLeaves i (markSettled uid g s) := by
  have h := attemptClose_withSides i (markSettled uid g s).sides (s.onJob i fun j => { j with sides := j.sides - 1 })
  refine Eq.trans ?_ h.symm
  unfold markSettled State.onSide
  rw [sideLeaves_sides]
  rfl

/-- The void of a side in the order in which the tables see it: the hold, the record, the job's count (R114). -/
theorem voidSide_eq (r : Side) (s : State) :
    voidSide r s = sideLeaves r.jobSlot
      (markSettled r.uid (fun x => { x with outcome := some .voided })
        (warningTest r.userSlot (releaseHold r.userSlot r.reserve s))) := by
  unfold voidSide
  exact sideLeaves_markSettled _ _ _ _

theorem releaseHold_tested_edited (i : Fin 64) (n : Nat) (s : State) :
    UserEdited i (User.tested ∘ fun x => { x with hold := x.hold - n }) s (warningTest i (releaseHold i n s)) :=
  (onUser_edited i _ s).trans (warningTest_edited i _)

theorem voidSide_works {r : Side} (h : SidesDistinct s → SideListed r s) : Works c s (voidSide r s) := by
  rw [voidSide_eq]
  exact (Work.sideEnd r ((releaseHold_tested_edited r.userSlot r.reserve s).ends_of_mark
    (fun _ => ⟨rfl, rfl⟩) {} h)).works.trans (sideLeaves_works _ _)

/-! ### What the prover's steps leave alone -/

/-- `t` differs from `s` in the cartridge prover, the notices and the number of draws alone. -/
def ProverOnly (s t : State) : Prop :=
  ∃ draws cartridges notices, t = { s with draws, cartridges, writer := { s.writer with notices } }

theorem ProverOnly.refl (s : State) : ProverOnly s s := ⟨_, _, _, rfl⟩

theorem ProverOnly.trans (hst : ProverOnly s t) (htu : ProverOnly t u) : ProverOnly s u := by
  obtain ⟨_, _, _, rfl⟩ := hst
  obtain ⟨d, k, n, rfl⟩ := htu
  exact ⟨d, k, n, rfl⟩

theorem onSlot_proverOnly (s : State) (p : Plane) (f : CartridgeSlot → CartridgeSlot) : ProverOnly s (s.onSlot p f) :=
  ⟨_, _, _, rfl⟩

theorem raise_proverOnly (s : State) (n : Notice) : ProverOnly s (s.raise n) := ⟨_, _, _, rfl⟩

theorem raiseIf_proverOnly (s : State) (b : Bool) (n : Notice) : ProverOnly s (s.raiseIf b n) := by
  cases b
  · exact .refl s
  · exact raise_proverOnly s n

theorem changeVerdict_proverOnly (p : Plane) (v : Verdict) (s : State) : ProverOnly s (changeVerdict p v s) := by
  unfold changeVerdict
  split
  · exact .refl s
  · exact (onSlot_proverOnly _ _ _).trans (raise_proverOnly _ _)

theorem requestProbe_proverOnly (p : Plane) (s : State) : ProverOnly s (requestProbe p s) := by
  unfold requestProbe
  dsimp only
  split
  · exact onSlot_proverOnly _ _ _
  · exact .refl s

theorem thresholdTest_proverOnly (p : Plane) (s : State) : ProverOnly s (thresholdTest p s) := by
  unfold thresholdTest
  dsimp only
  split
  · exact onSlot_proverOnly _ _ _
  · exact .refl s

theorem arbitrate_proverOnly (s : State) : ProverOnly s (arbitrate s) := by
  unfold arbitrate
  split
  · exact .refl s
  · split
    · exact ⟨_, _, _, rfl⟩
    · split
      · exact ⟨_, _, _, rfl⟩
      · exact .refl s

theorem loseExcess_proverOnly (p : Plane) (owed d : Nat) (s : State) : ProverOnly s (loseExcess p owed d s) := by
  unfold loseExcess
  split
  · exact ⟨_, _, _, rfl⟩
  · exact .refl s

theorem oweSlot_proverOnly (p : Plane) (d : Nat) (s : State) : ProverOnly s (oweSlot p d s) :=
  ((onSlot_proverOnly _ _ _).trans (loseExcess_proverOnly _ _ _ _)).trans (thresholdTest_proverOnly _ _)

theorem oweAbsent_proverOnly (a : AbsentEntry) (d : Nat) (s : State) : ProverOnly s (oweAbsent a d s) :=
  .trans (t := { s with cartridges := _ }) ⟨_, _, _, rfl⟩ (loseExcess_proverOnly _ _ _ _)

theorem joinAbsent_proverOnly (a : AbsentEntry) (s : State) : ProverOnly s (joinAbsent a s) := by
  unfold joinAbsent
  split
  · exact ⟨_, _, _, rfl⟩
  · split
    · exact ⟨_, _, _, rfl⟩
    · exact ⟨_, _, _, rfl⟩

theorem stashSlot_proverOnly (p : Plane) (s : State) : ProverOnly s (stashSlot p s) := by
  unfold stashSlot
  dsimp only
  split
  · exact (onSlot_proverOnly _ _ _).trans (joinAbsent_proverOnly _ _)
  · exact onSlot_proverOnly _ _ _

theorem claimEntry_proverOnly (p : Plane) (a : AbsentEntry) (s : State) : ProverOnly s (claimEntry p a s) := by
  unfold claimEntry
  exact .trans (.trans (t := { s with cartridges := _ }) ⟨_, _, _, rfl⟩ (stashSlot_proverOnly _ _))
    (onSlot_proverOnly _ _ _)

theorem routeSideDraw_proverOnly (p : Plane) (d : Nat) (v : Option Serial) (s : State) :
    ProverOnly s (routeSideDraw p d v s).1 := by
  have hdrawn : ProverOnly s (addDrawn p d s) := ⟨_, _, _, rfl⟩
  have hunproven : ProverOnly s (addUnproven p d (addDrawn p d s)) := ⟨_, _, _, rfl⟩
  unfold routeSideDraw
  dsimp only
  split
  · exact hunproven
  · split
    · exact hdrawn.trans (oweSlot_proverOnly _ _ _)
    · split
      · exact hdrawn.trans (oweAbsent_proverOnly _ _ _)
      · exact hunproven

theorem routeUnattributed_proverOnly (p : Plane) (d : Nat) (s : State) : ProverOnly s (routeUnattributed p d s) := by
  have hdrawn : ProverOnly s (addDrawn p d s) := ⟨_, _, _, rfl⟩
  unfold routeUnattributed
  dsimp only
  split
  · exact hdrawn.trans (oweSlot_proverOnly _ _ _)
  · exact ⟨_, _, _, rfl⟩

theorem closeAttempt_proverOnly (p : Plane) (o : ProofOutcome) (s : State) : ProverOnly s (closeAttempt p o s) := by
  unfold closeAttempt
  split
  · exact .trans (.trans ⟨_, _, _, rfl⟩ (changeVerdict_proverOnly _ _ _)) (thresholdTest_proverOnly _ _)
  · exact .trans ⟨_, _, _, rfl⟩ (changeVerdict_proverOnly _ _ _)
  all_goals
    split
    · exact .trans ⟨_, _, _, rfl⟩ (changeVerdict_proverOnly _ _ _)
    · exact .trans ⟨_, _, _, rfl⟩ (changeVerdict_proverOnly _ _ _)

theorem endDebitBadly_proverOnly (p : Plane) (n : Nat) (b : Bool) (s : State) :
    ProverOnly s (endDebitBadly p n b s) :=
  .trans (.trans (.trans ⟨_, _, _, rfl⟩ (changeVerdict_proverOnly _ _ _)) (requestProbe_proverOnly _ _))
    (thresholdTest_proverOnly _ _)

theorem confirmDebit_proverOnly (p : Plane) (n k : Nat) (s : State) : ProverOnly s (confirmDebit p n k s) :=
  .trans ⟨_, _, _, rfl⟩ (thresholdTest_proverOnly _ _)

theorem abandonExchange_proverOnly (s : State) : ProverOnly s (abandonExchange s) := by
  unfold abandonExchange
  split
  · exact .refl s
  · dsimp only
    split
    · exact ⟨_, _, _, rfl⟩
    · exact .trans (.trans ⟨_, _, _, rfl⟩ (changeVerdict_proverOnly _ _ _)) (requestProbe_proverOnly _ _)

theorem keepUncertain_proverOnly (p : Plane) (s : State) : ProverOnly s (keepUncertain p s) := by
  unfold keepUncertain
  split
  · exact onSlot_proverOnly _ _ _
  · exact .refl s

theorem dropExchange_proverOnly (p : Plane) (s : State) : ProverOnly s (dropExchange p s) := by
  unfold dropExchange
  split
  · split
    · exact ⟨_, _, _, rfl⟩
    · exact .refl s
  · exact .refl s

theorem ProverStep.only (h : ProverStep c s t) : ProverOnly s t := by
  cases h with
  | threshold p => exact thresholdTest_proverOnly _ _
  | probe p => exact requestProbe_proverOnly _ _
  | slot p f _ => exact onSlot_proverOnly _ _ _
  | sideDraw p d v => exact routeSideDraw_proverOnly _ _ _ _
  | unattributedDraw p d => exact routeUnattributed_proverOnly _ _ _
  | arbitrate => exact arbitrate_proverOnly _
  | attempt p o _ => exact closeAttempt_proverOnly _ _ _
  | claimCount p v a n _ _ => exact (claimEntry_proverOnly _ _ _).trans (onSlot_proverOnly _ _ _)
  | claimApplied p v a n u _ _ _ => exact (claimEntry_proverOnly _ _ _).trans ⟨_, _, _, rfl⟩
  | claimRejected p v a _ _ => exact (claimEntry_proverOnly _ _ _).trans (closeAttempt_proverOnly _ _ _)
  | stash p _ => exact stashSlot_proverOnly _ _
  | badDebit p n b _ => exact endDebitBadly_proverOnly _ _ _ _
  | goodDebit p n k _ => exact confirmDebit_proverOnly _ _ _ _
  | abandon => exact abandonExchange_proverOnly _
  | remove p _ =>
    exact (((keepUncertain_proverOnly _ _).trans (dropExchange_proverOnly _ _)).trans (stashSlot_proverOnly _ _)).trans
      (onSlot_proverOnly _ _ _)
  | pin | policy | totals | phase | seat | settle | retry | count | applied => exact ⟨_, _, _, rfl⟩

end Sys2Proof.Machine
end

section

/-! PROOFS. The blocks of the part as chains of changes: readout, marks, grants, arrivals, the return writer and the
reset event. -/

namespace Sys2Proof.Machine

variable {c : Instr} {s t u : State}

/-! ### Readout and marks -/

theorem TablesKept.refl (s : State) : TablesKept s s := {}

theorem TablesKept.trans (hst : TablesKept s t) (htu : TablesKept t u) : TablesKept s u := by
  obtain ⟨hp, hf, hm, hc, hj, hs, hu, hre, hca, ho, hw, hr, he, ls, hls, how⟩ := hst
  obtain ⟨hp', hf', hm', hc', hj', hs', hu', hre', hca', ho', hw', hr', he', ls', hls', how'⟩ := htu
  refine ⟨hp'.trans hp, hf'.trans hf, hm'.trans hm, hc'.trans hc, hj'.trans hj, hs'.trans hs, hu'.trans hu,
    hre'.trans hre, hca'.trans hca, ho'.trans ho, hw'.trans hw, hr'.trans hr, he'.trans he, ls ++ ls', ?_, ?_⟩
  · simpa [or_imp, forall_and] using ⟨hls, hls'⟩
  · rw [how', how, List.append_assoc]

theorem meterUp_kept (s : State) (n : Nat) (g : Nat → State → State) (h : ∀ n s, TablesKept s (g n s)) :
    TablesKept s (meterUp s n g) := (h _ s).trans (raiseIf_kept _ _ _)

theorem countUnaccounted_kept (s : State) : TablesKept s (countUnaccounted s) := meterUp_kept _ _ _ fun _ _ => {}

theorem countBlanked_kept (s : State) : TablesKept s (countBlanked s) := meterUp_kept _ _ _ fun _ _ => {}

theorem countUnattributed_kept (p : Plane) (s : State) : TablesKept s (countUnattributed p s) :=
  meterUp_kept _ _ _ fun _ _ => {}

theorem addUnattributedWeight_kept (p : Plane) (n : Nat) (s : State) : TablesKept s (addUnattributedWeight p n s) := by
  unfold addUnattributedWeight
  exact .trans (t := { s with unattributed := _ }) {} (raiseIf_kept _ _ _)

theorem takeUnattributed_kept (p : Plane) (n : Nat) (s : State) : TablesKept s (takeUnattributed p n s) :=
  (((addUnattributedWeight_kept p n s).trans {}).trans (countUnattributed_kept p _)).trans (raise_kept _ _)

theorem countSideBlanked_works (s : State) : Works c s (countSideBlanked s) := by
  unfold countSideBlanked
  split
  · exact .refl
  · exact (Work.side s _ _ {}).works.trans (raiseIf_kept _ _ _).works

theorem countBlank_works (b : BlankCount) (s : State) : Works c s (countBlank b s) := by
  cases b with
  | sideAndDevice => exact (countSideBlanked_works s).trans (countBlanked_kept _).works
  | device => exact (countBlanked_kept _).works
  | strict p => exact ((countUnattributed_kept p s).trans (raise_kept _ _)).works

theorem meterToSide_works {m : Side} (r : Readout) (l : Line) (h : s.meteringSide = some m) :
    Works c s (meterToSide m r l s) := by
  unfold meterToSide
  split
  · exact .refl
  · rename_i context _
    let x := meterLine s.store.live r.plane r.depth l context
    have hlisted : SideListed { m with context := some x.1 }
        ((s.onSide m.uid fun y => { y with context := some x.1 }).raiseIf x.2 .saturation) := by
      refine ⟨{ m with context := some x.1 }, ?_, rfl, by simp [meteringSide_state h], rfl, rfl⟩
      rw [State.raiseIf_sides]
      exact List.mem_map.mpr ⟨m, meteringSide_mem h, by simp⟩
    have hfilled : Works c s ((s.onSide m.uid fun y => { y with context := some x.1 }).raiseIf x.2 .saturation) :=
      (Work.side s m.uid _ {}).works.trans (raiseIf_kept _ _ _).works
    dsimp only
    split
    · exact hfilled.trans (closeSide_works _ fun _ => hlisted)
    · exact hfilled

theorem attributeLine_metering {r : Readout} {m : Side} (h : attributeLine r s = some m) : s.meteringSide = some m := by
  unfold attributeLine at h
  split at h
  · simp at h
  · rename_i x hx
    split at h
    · rw [hx, h]
    · simp at h

theorem handOver_works (r : Readout) (l : Line) (s : State) : Works c s (handOver r l s) := by
  unfold handOver
  split
  · rename_i m hm
    exact meterToSide_works r l (attributeLine_metering hm)
  · exact (takeUnattributed_kept _ _ _).works

theorem convertPlane_works (s : State) (p : Plane) : Works c s (convertPlane s p) := by
  unfold convertPlane
  exact (ProverStep.unattributedDraw s p _).works.trans (TablesKept.works {})

theorem convertUnattributed_works (s : State) : Works c s (convertUnattributed s) :=
  foldl_works _ (fun s p _ => convertPlane_works s p) s

theorem switchPending_works (s : State) : Works c s (switchPending s) := by
  unfold switchPending
  split
  · exact .refl
  · exact .trans (b := { s with store := _ }) (TablesKept.works {}) (completeParked_works _ _ _ _)

/-- What a side mark does before the oldest side starts (R100). -/
def beforeStart (s : State) : State :=
  switchPending (convertUnattributed (match s.meteringSide with
    | some r => closeSide r .short s
    | none => s))

theorem takeMark_eq (s : State) :
    takeMark s = match (beforeStart s).oldestAdmitted with
      | some r => startSide r (beforeStart s)
      | none => (countUnaccounted (beforeStart s)).raise .unaccounted := rfl

theorem beforeStart_works (s : State) : Works c s (beforeStart s) := by
  unfold beforeStart
  refine .trans (.trans ?_ (convertUnattributed_works _)) (switchPending_works _)
  split
  · rename_i r hr
    exact closeSide_works _ fun _ => meteringSide_listed hr
  · exact .refl

theorem takeMark_changes (hc : c = .sideMark) (s : State) : Changes c s (takeMark s) := by
  rw [takeMark_eq]
  refine (beforeStart_works s).changes.trans ?_
  split
  · rename_i r hr
    exact (Change.sideStart _ r hc hr).changes
  · exact ((countUnaccounted_kept _).trans (raise_kept _ _)).works.changes

/-! ### The line protection unit and the grants -/

theorem towardPort_kept (r : Req) (s : State) : TablesKept s (towardPort r s) := by
  unfold towardPort
  split
  · exact {}
  · exact {}

/-- Lines that are no returns join the part's own stream. -/
theorem issueOwn_kept (ls : List OwnLine) (s : State) (h : ∀ l ∈ ls, l.isReturn = false) :
    TablesKept s (issueOwn ls s) := { own := ⟨ls, h, rfl⟩ }

theorem issueRead_kept (i : Fin 8) (s : State) : TablesKept s (issueRead i s) := by
  unfold issueRead
  split
  · exact {}
  · split
    · exact .trans (t := setEntry i _ s) {} (issueOwn_kept _ _ (by simp [OwnLine.isReturn]))
    · exact {}

theorem giveEntry_works (i : Fin 8) (r : Req) (s : State) : Works c s (giveEntry i r s) := by
  unfold giveEntry
  refine .trans ?_ (issueRead_kept i _).works
  split
  · exact .trans (b := setEntry i _ s) (TablesKept.works {}) (onJob_works _ (by intro; rfl) _)
  · exact TablesKept.works {}

theorem claimMerge_works (r : Req) (s : State) : Works c s (claimMerge r s) := by
  unfold claimMerge
  split
  · exact TablesKept.works {}
  · dsimp only
    split
    · exact .trans (b := { s with protection := _ }) (TablesKept.works {}) (giveEntry_works _ _ _)
    · exact TablesKept.works {}

theorem refillEntry_works (i : Fin 8) (s : State) : Works c s (refillEntry i s) := by
  unfold refillEntry
  dsimp only
  split
  · exact TablesKept.works {}
  · exact .trans (TablesKept.works {}) (giveEntry_works _ _ _)

theorem serveQueue_works (i : Fin 8) (line : Nat) (s : State) : Works c s (serveQueue i line s) := by
  unfold serveQueue
  dsimp only
  split
  · exact .trans (TablesKept.works {}) (giveEntry_works _ _ _)
  · exact .trans (TablesKept.works {}) (refillEntry_works _ _)

theorem answer_kept (id : Nat) (a : Answer) (s : State) : TablesKept s (s.answer id a) := {}

theorem leaveLineCount_works (i : Fin 16) (s : State) : Works c s (leaveLineCount i s) :=
  (onJob_works i (by intro; rfl) s).trans (attemptClose_works i _)

theorem storeWrite_works (r : Req) (s : State) : Works c s (storeWrite r s) := by
  unfold storeWrite
  split
  · exact (Work.store s _ _ _).works
  · exact .refl

theorem performPlain_works (r : Req) (s : State) : Works c s (performPlain r s) := by
  unfold performPlain
  split
  · exact (storeWrite_works r s).trans (answer_kept _ _ _).works
  · exact (answer_kept _ _ _).works

theorem performGrant_works (r : Req) (s : State) : Works c s (performGrant r s) := by
  unfold performGrant
  split
  · exact (((storeWrite_works r s).trans (answer_kept _ _ _).works).trans (countEnciphered_works _ _)).trans
      (leaveLineCount_works _ _)
  · exact (answer_kept _ _ _).works.trans (leaveLineCount_works _ _)
  · exact ((answer_kept _ _ _).works.trans (leaveLineCount_works _ _)).trans (handOver_works _ _ _)
  · exact (answer_kept _ _ _).works.trans (handOver_works _ _ _)
  · exact (Work.store s _ _ _).works.trans (answer_kept _ _ _).works
  · exact performPlain_works r s

theorem wakeEntries_works (line : Nat) (s : State) : Works c s (wakeEntries line s) := by
  refine foldl_works _ (fun s i _ => ?_) s
  split
  · split
    · exact (issueRead_kept i s).works
    · exact .refl
  · exact .refl

theorem grantUpstream_works (s : State) : Works c s (grantUpstream s) := by
  unfold grantUpstream
  split
  · exact .refl
  · exact .trans (.trans (TablesKept.works {}) (performGrant_works _ _)) (wakeEntries_works _ _)

theorem grantMergeRead_works (i : Fin 8) (s : State) : Works c s (grantMergeRead i s) := by
  unfold grantMergeRead
  split
  · exact .refl
  · exact .trans (TablesKept.works {}) (issueOwn_kept _ _ (by simp [OwnLine.isReturn])).works

theorem attemptRemoveOf_works (r : Req) (s : State) : Works c s (attemptRemoveOf r s) := by
  unfold attemptRemoveOf
  split
  · split
    · split
      · exact attemptRemove_works _ _
      · exact .refl
    · exact .refl
  · exact .refl

theorem acceptMergeWrite_works (i : Fin 8) (s : State) : Works c s (acceptMergeWrite i s) := by
  unfold acceptMergeWrite
  split
  · exact .refl
  · rename_i e _
    dsimp only
    refine .trans ?_ (attemptRemoveOf_works _ _)
    refine (Work.store s e.req.line fullMask (e.merged.getD 0)).works.trans ?_
    cases e.req.countedJob with
    | none => exact (answer_kept _ _ _).works.trans (serveQueue_works _ _ _)
    | some j =>
      exact ((((onJob_works j (by intro; rfl) _).trans (countEnciphered_works _ _)).trans
        (answer_kept _ _ _).works).trans (serveQueue_works _ _ _)).trans (attemptClose_works _ _)

end Sys2Proof.Machine
end

section

/-! PROOFS. What a piece of work leaves alone, and with it the arrivals, the return writer and the reset event as chains
of changes. -/

namespace Sys2Proof.Machine

variable {c : Instr} {s t u : State}

/-! ### What a piece of work leaves alone -/

/-- Holding list, reset wait and reset sequence stay, and no return joins the part's own stream. -/
structure TakerKept (s t : State) : Prop where
  holding : t.orders.holding = s.orders.holding := by rfl
  wait : t.orders.resetWait = s.orders.resetWait := by rfl
  own : ∃ ls, (∀ l ∈ ls, l.isReturn = false) ∧ t.port.own = s.port.own ++ ls := by
    exact ⟨[], List.forall_mem_nil _, (List.append_nil _).symm⟩

theorem TakerKept.refl (s : State) : TakerKept s s := {}

theorem TakerKept.trans (hst : TakerKept s t) (htu : TakerKept t u) : TakerKept s u := by
  obtain ⟨hh, hw, ls, hls, how⟩ := hst
  obtain ⟨hh', hw', ls', hls', how'⟩ := htu
  refine ⟨hh'.trans hh, hw'.trans hw, ls ++ ls', ?_, ?_⟩
  · simpa [or_imp, forall_and] using ⟨hls, hls'⟩
  · rw [how', how, List.append_assoc]

theorem TablesKept.taker (h : TablesKept s t) : TakerKept s t :=
  ⟨congrArg OrderTaker.holding h.orders, congrArg OrderTaker.resetWait h.orders, h.own⟩

theorem ProverOnly.taker (h : ProverOnly s t) : TakerKept s t := by
  obtain ⟨_, _, _, rfl⟩ := h
  exact {}

theorem UserEdited.taker {i : Fin 64} {h : User → User} (he : UserEdited i h s t) : TakerKept s t :=
  ⟨congrArg OrderTaker.holding he.rest.orders, congrArg OrderTaker.resetWait he.rest.orders, he.rest.own⟩

theorem onJob_taker (i : Fin 16) (f : Job → Job) (s : State) : TakerKept s (s.onJob i f) := {}

theorem foldl_warningTest_taker (l : List (Fin 64)) (s : State) :
    TakerKept s (l.foldl (fun s i => warningTest i s) s) := by
  induction l generalizing s with
  | nil => exact .refl s
  | cons i l ih => exact (warningTest_edited i s).taker.trans (ih _)

theorem completeParked_taker (f : ParkObject → Bool) (r : Option Reason) (v : List Val) (s : State) :
    TakerKept s (s.completeParked f r v) := by
  unfold State.completeParked
  split
  · exact .refl s
  · exact {}

theorem Work.taker (h : Work c s t) : TakerKept s t := by
  cases h with
  | aside h => exact h.taker
  | prover h => exact h.only.taker
  | sideEnd r h =>
    exact ⟨congrArg OrderTaker.holding h.rest.orders, congrArg OrderTaker.resetWait h.rest.orders, h.rest.own⟩
  | sideAdmit f i j u _ _ _ =>
    exact .trans (.trans (t := takeHold _ _ _) {} (warningTest_edited _ _).taker) (onJob_taker _ _ _)
  | userOpen i u _ _ => exact .trans (t := setUser i (some u) s) {} (warningTest_edited i _).taker
  | userSet i u u' _ _ => exact .trans (t := setUser i (some u') s) {} (warningTest_edited i _).taker
  | usersRestore us retired meters _ =>
    unfold restoreUsers
    exact .trans (t := { s with accounts := _ }) {} (foldl_warningTest_taker _ _)
  | complete f r v => exact completeParked_taker f r v s
  | supersede e _ =>
    unfold Machine.supersede
    split
    · exact .refl s
    · exact {}
  | regionFree i r _ =>
    unfold freeRegion
    dsimp only
    split
    · exact {}
    · exact {}
  | regionDefine f i _ _ =>
    unfold installRegion
    dsimp only
    split
    · exact {}
    · exact {}
  | offer a =>
    unfold offerIndex
    split
    · split
      · exact {}
      · exact {}
    · exact {}
  | store | job | jobOpen | jobFree | refusals | sources | side | strict | userState | userRemove | restoreOpen
  | restoreClose | park | queue => exact {}

theorem Works.taker (h : Works c s t) : TakerKept s t := by
  induction h with
  | refl => exact .refl s
  | tail _ hw ih => exact ih.trans hw.taker

end Sys2Proof.Machine
end

section

/-! PROOFS. Arrivals, the return writer and the reset event as chains of changes. -/

namespace Sys2Proof.Machine

variable {c : Instr} {s t u : State}

/-! ### Arrivals -/

theorem setChannel_kept (s : State) (x : ChannelFront) : TablesKept s { s with channel := x } := {}

theorem takeOrder_works (r : Req) (hroom : s.queueHasRoom = true) (hwait : s.orders.resetWait = none) :
    Works c s (takeOrder r s) := by
  unfold takeOrder
  split
  · exact (Work.queue s _ (by simpa [State.queueHasRoom] using hroom) hwait).works.trans (towardPort_kept r _).works
  · exact (towardPort_kept r s).works

theorem foldl_towardPort_works (l : List Req) (s : State) : Works c s (l.foldl (fun s q => towardPort q s) s) :=
  foldl_works _ (fun _ q _ => (towardPort_kept q _).works) s

theorem takeHeld_works (hwait : s.orders.resetWait = none) : Works c s (takeHeld s) := by
  unfold takeHeld
  split
  · exact .refl
  · rename_i r rest _
    split
    · rename_i hroom
      dsimp only
      refine .trans ?_ (foldl_towardPort_works _ _)
      refine .trans ?_ (takeOrder_works r (by exact hroom) (by exact hwait))
      exact (setChannel_kept s _).works
    · exact .refl

theorem takeHeldUpTo_works (n : Nat) (hwait : s.orders.resetWait = none) : Works c s (takeHeldUpTo n s) := by
  induction n generalizing s with
  | zero => exact .refl
  | succ n ih =>
    have h : Works c s (takeHeld s) := takeHeld_works hwait
    exact h.trans (ih (h.taker.wait.trans hwait))

theorem countRefusal_works (p : Place) (s : State) : Works c s (countRefusal p s) := by
  unfold countRefusal
  split
  · split
    · exact (Work.refusals s _ _).works.trans (raiseIf_kept _ _ _).works
    · exact .refl
  · exact .refl

theorem countArrival_works (r : Req) (s : State) : Works c s (countArrival r s) := by
  unfold countArrival
  split
  · exact onJob_works _ (by intro; rfl) s
  · exact .refl

theorem admitRequest_works (r : Req) (hwait : s.orders.resetWait = none) : Works c s (admitRequest r s) := by
  unfold admitRequest
  split
  · split
    · rename_i hroom
      exact takeOrder_works r hroom hwait
    · exact TablesKept.works {}
  · split
    · exact TablesKept.works {}
    · exact (towardPort_kept r s).works
  · exact (Work.offer s _).works.trans (towardPort_kept r _).works
  · exact (countArrival_works r s).trans (claimMerge_works r _)
  · exact (countArrival_works r s).trans (towardPort_kept r _).works

theorem handleRequest_works (r : Req) (hwait : s.orders.resetWait = none) : Works c s (handleRequest r s) := by
  have hrefused : ∀ a, Works c s (((countRefusal r.place s).raise .access).answer r.id a) := fun a =>
    ((countRefusal_works _ s).trans (raise_kept _ _).works).trans (answer_kept _ _ _).works
  unfold handleRequest
  split
  · exact hrefused _
  · exact hrefused _
  · exact (countBlank_works _ s).trans (answer_kept _ _ _).works
  · split
    · exact (answer_kept _ _ _).works
    · exact admitRequest_works r hwait

theorem arrive_works (q : LineReq) (hwait : s.orders.resetWait = none) : Works c s (arrive q s) :=
  (setChannel_kept s _).works.trans (handleRequest_works _ (by exact hwait))

theorem foldl_arrive_works (l : List LineReq) (hwait : s.orders.resetWait = none) :
    Works c s (l.foldl (fun s q => arrive q s) s) := by
  induction l generalizing s with
  | nil => exact .refl
  | cons q l ih =>
    have h : Works c s (arrive q s) := arrive_works q hwait
    exact h.trans (ih (h.taker.wait.trans hwait))

theorem noWait_of_accepting (h : s.accepting = true) : s.orders.resetWait = none := by
  simp only [State.accepting, Bool.and_eq_true, Option.isNone_iff_eq_none] at h
  exact h.2

theorem present_works (q : LineReq) (s : State) : Works c s (present q s) := by
  unfold present
  split
  · rename_i h
    exact arrive_works q (noWait_of_accepting h)
  · exact TablesKept.works {}

theorem openChannel_works (s : State) : Works c s (openChannel s) := by
  unfold openChannel
  split
  · rename_i h
    exact (setChannel_kept s _).works.trans (foldl_arrive_works _ (by exact noWait_of_accepting h))
  · exact .refl

/-! ### The return writer -/

theorem issueHeader_kept (b s : State) : TablesKept s (issueHeader b s) := by
  unfold issueHeader
  split
  · exact .refl s
  · split
    · exact .refl s
    · exact issueOwn_kept _ s (by simp [OwnLine.isReturn])

theorem issueSummary_kept (b s : State) : TablesKept s (issueSummary b s) := by
  unfold issueSummary
  split
  · exact .refl s
  · split
    · exact .refl s
    · exact issueOwn_kept _ s (by simp [OwnLine.isReturn])

theorem writeHeader_works (s : State) : Works c s (writeHeader s) :=
  ((Work.store s _ fullMask (headerLine s)).works.trans (TablesKept.works {})).trans (openChannel_works _)

theorem writeSummary_works (s : State) : Works c s (writeSummary s) :=
  ((Work.store s _ fullMask (summaryLine s)).works.trans (TablesKept.works {})).trans (openChannel_works _)

theorem tellExport_changes (s : State) : Changes c s (tellExport s) := by
  unfold tellExport
  split
  · split
    · exact (completeParked_works _ _ _ s).changes
    · exact (Change.exported s).changes
  · exact .refl

theorem tellOwner_changes (o : Owner) (s : State) : Changes c s (tellOwner o s) := by
  cases o with
  | sideList => exact (Change.sideTold s).changes
  | orderTaker => exact (Change.toldResult s).changes
  | snapshots => exact tellExport_changes s

theorem ownHead_cons {l : OwnLine} (h : s.ownHead = some l) : ∃ rest, s.port.own = l :: rest := by
  unfold State.ownHead at h
  split at h
  · exact List.head?_eq_some_iff.mp h
  · simp at h

theorem acceptReturn_grantOwn (o : Owner) (l : Line) (s : State) :
    acceptReturn o l (grantOwn s) = tellOwner o
      (let stored := { s with mem := writeLine s.mem (s.ringLine s.writer.writeIndex) fullMask l }
      grantOwn { stored with writer :=
        { stored.writer with writeIndex := (stored.writer.writeIndex + 1) % ringSlots } }) := by
  simp only [acceptReturn, grantOwn, State.ringLine]

theorem returnAccept_changes {o : Owner} {l : Line} (h : s.ownHead = some (.ret o l)) :
    Changes c s (acceptReturn o l (grantOwn s)) := by
  obtain ⟨rest, hrest⟩ := ownHead_cons h
  have hstore : Changes c s { s with mem := writeLine s.mem (s.ringLine s.writer.writeIndex) fullMask l } :=
    (Work.store s (s.ringLine s.writer.writeIndex) fullMask l).works.changes
  have haccept := (Change.returnAccept (c := c)
    { s with mem := writeLine s.mem (s.ringLine s.writer.writeIndex) fullMask l } ⟨o, l, rest, hrest⟩).changes
  rw [acceptReturn_grantOwn]
  exact (hstore.trans haccept).trans (tellOwner_changes o _)

/-! ### The reset event -/

/-- Sides are in the hands of the reset event only when it lists them (R119): the unattributed records, the draw totals
and the owed draw move, the side list does not. -/
theorem releaseContext_kept (r : Side) (s : State) (p : Plane) : TablesKept s (releaseContext r s p) := by
  unfold releaseContext
  split
  · exact addUnattributedWeight_kept _ _ _
  · exact .refl s

end Sys2Proof.Machine
end

section

/-! PROOFS. The reset event as a chain of changes: the sides leave their holds, the records are converted, and the tables
are emptied (R175). -/

namespace Sys2Proof.Machine

variable {c : Instr} {s t u : State}

/-! ### The holds that the sides of a list leave -/

/-- A user record that one reserve has left, with the warning test (R122, R124). -/
def User.released (n : Nat) (u : User) : User := User.tested { u with hold := u.hold - n }

theorem User.released_endsHold (n : Nat) : EndsHold n (User.released n) := fun _ => ⟨rfl, rfl⟩

theorem releasedUser_nil (i : Fin 64) (u : User) : releasedUser [] i u = u := rfl

theorem releasedUser_none {l : List Side} {i : Fin 64} (h : ∀ r ∈ l, r.userSlot ≠ i) (u : User) :
    releasedUser l i u = u := by
  have hany : (l.any fun r => decide (r.userSlot = i)) = false := by simpa using h
  simp [releasedUser, hany]

/-- The sides of a list leave a hold one after the other. -/
theorem releasedUser_cons (r : Side) (l : List Side) (i : Fin 64) (u : User) :
    releasedUser (r :: l) i u =
      releasedUser l i (if r.userSlot = i then u.released r.reserve else u) := by
  by_cases hr : r.userSlot = i
  · have hsum : reservesOf (r :: l) i = r.reserve + reservesOf l i := by simp [reservesOf, hr]
    by_cases hl : l.any fun x => decide (x.userSlot = i)
    · simp only [releasedUser, List.any_cons, hr, decide_true, Bool.true_or, hl, if_true, hsum, User.released,
        User.tested, Nat.sub_sub]
    · have hzero : reservesOf l i = 0 := by
        have : ∀ x ∈ l, ¬ x.userSlot = i := by simpa using hl
        simp only [reservesOf]
        rw [List.filter_eq_nil_iff.mpr (by simpa using this)]
        rfl
      simp only [releasedUser, List.any_cons, hr, decide_true, Bool.true_or, hl, if_true, hsum, hzero, User.released,
        User.tested, User.available, User.balance]
      simp only [Nat.add_zero]
      rfl
  · have hsum : reservesOf (r :: l) i = reservesOf l i := by simp [reservesOf, hr]
    simp only [releasedUser, List.any_cons, hr, decide_false, Bool.false_or, hsum, if_false]

/-- The user records after reserves have left their holds one after the other. -/
theorem put_released (v : Vector (Option User) 64) (r : Side) (i : Fin 64) :
    (put v r.userSlot (v[r.userSlot].map (User.released r.reserve)))[i] =
      v[i].map fun u => if r.userSlot = i then u.released r.reserve else u := by
  by_cases h : r.userSlot = i
  · subst h
    rw [put_same]
    simp
  · rw [put_other _ _ _ _ h]
    simp [h]

/-- The user map keeps its bits, and gains none while every user below the warn level is WARNED. -/
def MapGrows (s : State) (map : BitVec 64) : Prop :=
  s.writer.userMap &&& map = s.writer.userMap ∧ (WarningsSet s → map = s.writer.userMap)

theorem warnedMap_grows (map : BitVec 64) (i : Fin 64) (a b : Bool) : map &&& warnedMap map i a b = map := by
  unfold warnedMap
  split
  · ext k
    simp
    tauto
  · exact BitVec.and_self

/-- The state in which the sides of a list have left their owners' holds and their jobs' side counts (R119, R122). -/
def Voided (l : List Side) (s t : State) : Prop :=
  ∃ (jobs : Vector (Option Job) 16) (users : Vector (Option User) 64) (map : BitVec 64),
    t = { s with jobs, accounts := { s.accounts with users }, writer := { s.writer with userMap := map } } ∧
    (∀ i : Fin 16, (jobs[i]).map Job.regions = (s.jobs[i]).map Job.regions) ∧
    (∀ i : Fin 64, users[i] = (s.accounts.users[i]).map (releasedUser l i)) ∧
    MapGrows s map ∧ (WarningsSet s → WarningsSet t)

theorem onJob_regions {f : Job → Job} (h : ∀ j : Job, (f j).regions = j.regions) (s : State) (i k : Fin 16) :
    ((s.onJob i f).jobs[k]).map Job.regions = (s.jobs[k]).map Job.regions := by
  by_cases hk : i = k
  · subst hk
    simp only [State.onJob, put_same, Option.map_map]
    exact congrFun (congrArg Option.map (funext h)) _
  · simp only [State.onJob, put_other _ _ _ _ hk]

/-- A release leaves every user below the warn level WARNED. -/
theorem User.released_warned (n : Nat) (u : User) :
    ((u.released n).credit - (u.released n).spent - (u.released n).hold < (u.released n).warn) →
      (u.released n).warned = true := by
  intro h
  exact decide_eq_true h

/-- A release raises no warning for a user who is WARNED when below the warn level. -/
theorem User.released_keepsWarned {n : Nat} {u : User} (h : u.credit - u.spent - u.hold < u.warn → u.warned = true)
    (hw : (u.released n).warned = true) : u.warned = true := by
  have hlow : u.credit - u.spent - ((u.hold - n : Nat) : Int) < u.warn := of_decide_eq_true hw
  exact h (by omega)

/-- The user map once a reserve has left the hold of a user slot (R124). -/
def releasedMap (i : Fin 64) (n : Nat) (s : State) : BitVec 64 :=
  match s.accounts.users[i] with
  | some u => warnedMap s.writer.userMap i u.warned (u.released n).warned
  | none => s.writer.userMap

/-- A reserve leaves a hold, and the warning test is made. -/
theorem warningTest_releaseHold (i : Fin 64) (n : Nat) (s : State) :
    warningTest i (releaseHold i n s) = { s with
      accounts := { s.accounts with users := put s.accounts.users i (s.accounts.users[i].map (User.released n)) }
      writer := { s.writer with userMap := releasedMap i n s } } := by
  cases hu : s.accounts.users[i] with
  | none =>
    rw [warningTest_of_none (by simp only [releaseHold, State.onUser, put_same, hu, Option.map_none])]
    simp only [releaseHold, State.onUser, releasedMap, hu, Option.map_none]
  | some u =>
    rw [warningTest_of_some (r := { u with hold := u.hold - n })
      (by simp only [releaseHold, State.onUser, put_same, hu, Option.map_some])]
    simp only [releaseHold, State.onUser, releasedMap, hu, Option.map_some, put_put]
    rfl

theorem releasedMap_grows (i : Fin 64) (n : Nat) (s : State) : MapGrows s (releasedMap i n s) := by
  unfold releasedMap
  split
  · rename_i u hu
    refine ⟨warnedMap_grows _ _ _ _, fun hw => ?_⟩
    cases hr : (u.released n).warned with
    | false => rfl
    | true => simp [warnedMap, User.released_keepsWarned (hw i u hu) hr]
  · exact ⟨BitVec.and_self, fun _ => rfl⟩

theorem resetSide_voided {r : Side} (h : r.state ≠ .settled) (s : State) : Voided [r] s (resetSide s r) := by
  unfold resetSide
  rw [if_neg h, warningTest_releaseHold]
  refine ⟨_, _, _, rfl, onJob_regions (by intro; rfl) s r.jobSlot, fun i => ?_, releasedMap_grows _ _ s, ?_⟩
  · rw [put_released]
    congr 1
    funext u
    rw [releasedUser_cons, releasedUser_nil]
  · intro hw i u hu hlow
    replace hu : (put s.accounts.users r.userSlot
      (s.accounts.users[r.userSlot].map (User.released r.reserve)))[i] = some u := hu
    rw [put_released] at hu
    obtain ⟨x, hx, rfl⟩ := Option.map_eq_some_iff.mp hu
    by_cases hi : r.userSlot = i
    · rw [if_pos hi] at hlow ⊢
      exact User.released_warned _ _ hlow
    · rw [if_neg hi] at hlow ⊢
      exact hw i x hx hlow

theorem Voided.refl (s : State) : Voided [] s s :=
  ⟨_, _, _, rfl, fun _ => rfl, fun _ => (Option.map_id_apply).symm, ⟨BitVec.and_self, fun _ => rfl⟩, id⟩

theorem Voided.cons {r : Side} {l : List Side} (hst : Voided [r] s t) (htu : Voided l t u) : Voided (r :: l) s u := by
  obtain ⟨jobs, users, map, rfl, hj, hu, ⟨hm, hms⟩, hw⟩ := hst
  obtain ⟨jobs', users', map', rfl, hj', hu', ⟨hm', hms'⟩, hw'⟩ := htu
  refine ⟨jobs', users', map', rfl, fun i => (hj' i).trans (hj i), fun i => ?_, ⟨?_, fun h => ?_⟩, fun h => hw' (hw h)⟩
  · rw [hu' i, show (_ : Option User) = users[i] from rfl, hu i, Option.map_map]
    congr 1
    funext x
    simp [releasedUser_cons, releasedUser_nil]
  · rw [← hm, BitVec.and_assoc, show map &&& map' = map from hm']
  · exact (hms' (hw h)).trans (hms h)

/-- The sides that are not SETTLED leave holds and jobs one after the other (R119). -/
theorem foldl_resetSide (l : List Side) (s : State) :
    Voided (l.filter fun r => decide (r.state ≠ .settled)) s (l.foldl resetSide s) := by
  induction l generalizing s with
  | nil => exact .refl s
  | cons r l ih =>
    by_cases h : r.state = .settled
    · simpa [h, resetSide] using ih s
    · have hcons := (resetSide_voided h s).cons (ih (resetSide s r))
      simpa [h] using hcons

end Sys2Proof.Machine
end

section

/-! PROOFS. The steps of the reset event as changes, and with them the end of every event. -/

namespace Sys2Proof.Machine

variable {c : Instr} {s t u : State}

/-! ### The conversion does not look at the side list -/

theorem thresholdTest_withSides (p : Plane) (x : SideList) (s : State) :
    thresholdTest p { s with sides := x } = { thresholdTest p s with sides := x } := by
  unfold thresholdTest
  dsimp only
  split <;> rfl

theorem loseExcess_withSides (p : Plane) (a b : Nat) (x : SideList) (s : State) :
    loseExcess p a b { s with sides := x } = { loseExcess p a b s with sides := x } := by
  unfold loseExcess
  split <;> rfl

theorem oweSlot_withSides (p : Plane) (d : Nat) (x : SideList) (s : State) :
    oweSlot p d { s with sides := x } = { oweSlot p d s with sides := x } := by
  unfold oweSlot
  rw [← thresholdTest_withSides, ← loseExcess_withSides]
  rfl

theorem convertPlane_withSides (p : Plane) (x : SideList) (s : State) :
    convertPlane { s with sides := x } p = { convertPlane s p with sides := x } := by
  have hroute : ∀ d, routeUnattributed p d { s with sides := x } = { routeUnattributed p d s with sides := x } := by
    intro d
    have hdrawn : addDrawn p d { s with sides := x } = { addDrawn p d s with sides := x } := rfl
    unfold routeUnattributed
    dsimp only
    rw [hdrawn, oweSlot_withSides]
    split <;> rfl
  unfold convertPlane
  rw [show unattributedDraw { s with sides := x } p = unattributedDraw s p from rfl, hroute]

theorem releaseContext_withSides (r : Side) (p : Plane) (x : SideList) (s : State) :
    releaseContext r { s with sides := x } p = { releaseContext r s p with sides := x } := by
  unfold releaseContext
  split
  · unfold addUnattributedWeight State.raiseIf
    dsimp only
    split <;> rfl
  · rfl

theorem foldl_withSides {α : Type} {f : State → α → State} (x : SideList)
    (h : ∀ s a, f { s with sides := x } a = { f s a with sides := x }) (l : List α) (s : State) :
    l.foldl f { s with sides := x } = { l.foldl f s with sides := x } := by
  induction l generalizing s with
  | nil => rfl
  | cons a l ih => rw [List.foldl_cons, List.foldl_cons, h, ih]

/-! ### The steps of the reset event -/

/-- The weight of the side that is METERING joins the unattributed records, which are then converted (R75, R80). -/
def gatherAndConvert (m : Option Side) (s : State) : State :=
  convertUnattributed (match m with
    | some r => allPlanes.foldl (releaseContext r) s
    | none => s)

theorem gatherAndConvert_works (m : Option Side) (s : State) : Works c s (gatherAndConvert m s) := by
  unfold gatherAndConvert
  refine .trans ?_ (convertUnattributed_works _)
  split
  · exact foldl_works _ (fun s p _ => (releaseContext_kept _ s p).works) s
  · exact .refl

/-- The state once the sides have left their holds and the side list (R119). -/
def withoutSides (s : State) : State :=
  { s.sides.records.foldl resetSide s with sides := { s.sides with records := [], settledOrder := [] } }

theorem ProverOnly.sides (h : ProverOnly s t) : t.sides = s.sides := by
  obtain ⟨_, _, _, rfl⟩ := h
  rfl

theorem Voided.sides {l : List Side} (h : Voided l s t) : t.sides = s.sides := by
  obtain ⟨_, _, _, rfl, _⟩ := h
  rfl

theorem foldl_sides {α : Type} {f : State → α → State} (h : ∀ s a, (f s a).sides = s.sides) (l : List α) (s : State) :
    (l.foldl f s).sides = s.sides := by
  induction l generalizing s with
  | nil => rfl
  | cons a l ih => rw [List.foldl_cons, ih, h]

theorem convertUnattributed_sides (s : State) : (convertUnattributed s).sides = s.sides :=
  foldl_sides (f := convertPlane) (fun s p => (routeUnattributed_proverOnly p (unattributedDraw s p) s).sides) _ s

theorem gatherAndConvert_sides (m : Option Side) (s : State) : (gatherAndConvert m s).sides = s.sides := by
  unfold gatherAndConvert
  rw [convertUnattributed_sides]
  split
  · exact foldl_sides (fun s p => (releaseContext_kept _ s p).sides) _ s
  · rfl

theorem gatherAndConvert_withSides (m : Option Side) (x : SideList) (s : State) :
    gatherAndConvert m { s with sides := x } = { gatherAndConvert m s with sides := x } := by
  have hconvert : ∀ t : State, convertUnattributed { t with sides := x } = { convertUnattributed t with sides := x } :=
    fun t => foldl_withSides x (fun s p => convertPlane_withSides p x s) _ t
  cases m with
  | none => exact hconvert s
  | some r =>
    have hrelease := foldl_withSides x (fun s p => releaseContext_withSides r p x s) allPlanes s
    unfold gatherAndConvert
    dsimp only
    rw [hrelease, hconvert]

theorem resetSides_eq (s : State) : resetSides s = gatherAndConvert s.meteringSide (withoutSides s) := by
  have hsides := gatherAndConvert_sides s.meteringSide (s.sides.records.foldl resetSide s)
  rw [(foldl_resetSide _ s).sides] at hsides
  have hreset : resetSides s =
      (let converted := gatherAndConvert s.meteringSide (s.sides.records.foldl resetSide s)
      { converted with sides := { converted.sides with records := [], settledOrder := [] } }) := rfl
  unfold withoutSides
  rw [gatherAndConvert_withSides, hreset]
  dsimp only
  rw [hsides]

theorem sidesEmptied_withoutSides (s : State) : SidesEmptied s (withoutSides s) := by
  unfold withoutSides
  obtain ⟨jobs, users, map, h, hj, hu, -, -⟩ := foldl_resetSide s.sides.records s
  rw [h]
  exact ⟨rfl, hu, rfl, hj, {}⟩

/-- No line of the part's own stream is a return. -/
def NoReturn (s : State) : Prop := ∀ l ∈ s.port.own, l.isReturn = false

theorem TakerKept.noReturn (h : TakerKept s t) (hs : NoReturn s) : NoReturn t := by
  obtain ⟨-, -, ls, hls, how⟩ := h
  intro l hl
  rw [how, List.mem_append] at hl
  exact hl.elim (hs l) (hls l)

theorem noReturn_of_notBusy (h : s.writerBusy = false) : NoReturn s := by
  intro l hl
  have hline := List.any_eq_false.mp h l hl
  cases l with
  | ret o l => simp at hline
  | mergeRead | mergeWrite | header | summary => rfl

theorem SidesEmptied.taker (h : SidesEmptied s t) : TakerKept s t :=
  ⟨congrArg OrderTaker.holding h.rest.orders, congrArg OrderTaker.resetWait h.rest.orders, h.rest.own⟩

/-- The reset event but for its last two steps, in which waiting writes are taken and waiting requests arrive (R175). -/
def resetPart (w : ResetWait) (s : State) : State :=
  resetRing (resetTables (resetSequenceOf w s)
    (resetSides (abandonExchange { s with accounts := { s.accounts with restore := none } })))

theorem resetPart_changes (w : ResetWait) (h : NoReturn s) : Changes c s (resetPart w s) := by
  have hclose : Works c s { s with accounts := { s.accounts with restore := none } } := (Work.restoreClose s).works
  have habandon : Works c s _ := hclose.trans (ProverStep.abandon (c := c) _).works
  have hempty := sidesEmptied_withoutSides (abandonExchange { s with accounts := { s.accounts with restore := none } })
  have hconvert : Works c _ _ := gatherAndConvert_works
    (abandonExchange { s with accounts := { s.accounts with restore := none } }).meteringSide (withoutSides
      (abandonExchange { s with accounts := { s.accounts with restore := none } }))
  rw [← resetSides_eq] at hconvert
  have hnone : NoReturn _ := hconvert.taker.noReturn (hempty.taker.noReturn (habandon.taker.noReturn h))
  have hsides := (habandon.changes.trans (Change.sidesEmpty hempty).changes).trans hconvert.changes
  exact (hsides.trans (Change.tablesReset _ _).changes).trans (Change.ringReset _ (by exact hnone)).changes

theorem warmReset_eq (w : ResetWait) (s : State) : warmReset w s = openChannel (takeHeldUpTo 8 (resetPart w s)) := rfl

theorem warmReset_changes (w : ResetWait) (h : s.writerBusy = false) : Changes c s (warmReset w s) := by
  rw [warmReset_eq]
  exact ((resetPart_changes w (noReturn_of_notBusy h)).trans (takeHeldUpTo_works 8 (by rfl)).changes).trans
    (openChannel_works _).changes

theorem tryReset_changes (s : State) : Changes c s (tryReset s) := by
  unfold tryReset
  split
  · exact .refl
  · split
    · rename_i w _ h
      exact warmReset_changes w (by simpa using h.2)
    · exact .refl

/-! ### The end of every event -/

theorem testEstimates_works (b s : State) : Works c s (testEstimates b s) := by
  refine foldl_works _ (fun s p _ => ?_) s
  unfold testEstimate
  dsimp only
  split
  · exact .refl
  · exact ((raiseIf_kept _ _ _).trans (raiseIf_kept _ _ _)).works

theorem evaluateAttention_kept (s : State) : TablesKept s (evaluateAttention s) := {}

/-- The end of an event up to the choice of the cartridge line: a reset wait goes on, and the estimates are tested. -/
theorem beforeArbitrate_changes (b s : State) : Changes c s (testEstimates b (tryReset (noteDrain s))) :=
  ((Change.drain s).changes.trans (tryReset_changes _)).trans (testEstimates_works b _).changes

theorem concludeEvent_changes (b s : State) : Changes c s (concludeEvent b s) := by
  have hline := (beforeArbitrate_changes b s).trans (ProverStep.arbitrate (c := c) _).works.changes
  have hreturn := (hline.trans (Change.move _).changes).trans (Change.returnIssue _).changes
  exact hreturn.trans
    (((issueHeader_kept b _).trans (issueSummary_kept b _)).trans (evaluateAttention_kept _)).works.changes

end Sys2Proof.Machine
end

section

/-! PROOFS. The orders as chains of changes: what each body does to the tables (R168). -/

namespace Sys2Proof.Machine

variable {c : Instr} {s t u : State}

/-! ### Resolving and checking -/

theorem checked_works {checks : List (Reason × Bool)} {go : OrderAnswer × State}
    (h : firstFailure checks = none → Works c s go.2) : Works c s (checked checks s go).2 := by
  unfold checked
  split
  · exact .refl
  · rename_i hnone
    exact h hnone

theorem withUser_works {id : Nat} {go : Fin 64 → User → OrderAnswer × State}
    (h : ∀ i u, s.accounts.users[i] = some u → Works c s (go i u).2) : Works c s (withUser id s go).2 := by
  unfold withUser
  split
  · exact .refl
  · split
    · exact .refl
    · split
      · exact .refl
      · rename_i u hu
        exact h _ u hu

theorem withJob_works {tag : Nat} {go : Fin 16 → Job → OrderAnswer × State}
    (h : ∀ i j, s.jobs[i] = some j → Works c s (go i j).2) : Works c s (withJob tag s go).2 := by
  unfold withJob
  split
  · exact .refl
  · split
    · exact .refl
    · split
      · exact .refl
      · rename_i j hj
        exact h _ j hj

theorem firstFailure_cons {r : Reason} {b : Bool} {l : List (Reason × Bool)}
    (h : firstFailure ((r, b) :: l) = none) : b = false ∧ firstFailure l = none := by
  cases b
  · exact ⟨rfl, h⟩
  · simp [firstFailure] at h

/-! ### The classifier -/

theorem sourceSet_works (e : OrderEntry) (s : State) : Works c s (sourceSet e s).2 := by
  unfold sourceSet
  split
  · exact (Work.sources s _).works
  · exact .refl

theorem regionDefine_works (e : OrderEntry) (s : State) : Works c s (regionDefine e s).2 := by
  unfold regionDefine
  dsimp only
  split
  · exact .refl
  · rename_i i hi
    exact checked_works fun h => (Work.regionDefine s _ i hi h).works

theorem regionRemove_works (e : OrderEntry) (s : State) : Works c s (regionRemove e s).2 := by
  unfold regionRemove
  split
  · exact .refl
  · split
    · exact .refl
    · refine checked_works fun h => ?_
      obtain ⟨-, h⟩ := firstFailure_cons h
      obtain ⟨-, h⟩ := firstFailure_cons h
      obtain ⟨hfull, -⟩ := firstFailure_cons h
      exact (Work.park s e _ hfull).works.trans (attemptRemove_works _ _)

theorem regionQuery_works (e : OrderEntry) (s : State) : Works c s (regionQuery e s).2 := by
  unfold regionQuery
  split
  · exact .refl
  · dsimp only
    split
    · exact (Work.refusals s _ 0).works
    · exact .refl

/-! ### The job table -/

theorem firstIndex_some {n : Nat} {f : Fin n → Bool} {i : Fin n} (h : firstIndex f = some i) : f i = true :=
  List.find?_some h

theorem openJob_works (e : OrderEntry) (k : JobKind) (s : State) : Works c s (openJob e k s).2 := by
  unfold openJob
  dsimp only
  split
  · exact .refl
  · split
    · exact .refl
    · split
      · exact .refl
      · rename_i i hi
        have hfree : s.jobs[i] = none := by simpa using firstIndex_some hi
        split
        · exact .refl
        · split
          · exact .refl
          · split
            · exact .refl
            · have hdraw : TablesKept s (afterOpenDraw e s) := by
                unfold afterOpenDraw
                split
                · exact .refl s
                · exact {}
              exact hdraw.works.trans (Work.jobOpen _ i _ (by rw [hdraw.jobs, hfree]) rfl).works

theorem jobOpen_works (e : OrderEntry) (s : State) : Works c s (jobOpen e s).2 := by
  unfold jobOpen
  split
  · exact .refl
  · split
    · exact .refl
    · exact openJob_works e _ s

theorem setRelease_works (r : Release) (e : OrderEntry) (s : State) : Works c s (setRelease r e s).2 :=
  withJob_works fun i _ _ => onJob_works i (by intro; rfl) s

theorem jobKeyExport_works (e : OrderEntry) (s : State) : Works c s (jobKeyExport e s).2 := by
  refine withJob_works fun i j _ => ?_
  dsimp only
  split
  · exact .refl
  · exact TablesKept.works {}

theorem jobQuery_works (e : OrderEntry) (s : State) : Works c s (jobQuery e s).2 := by
  unfold jobQuery
  split
  · exact withJob_works fun _ _ _ => .refl
  · split
    · unfold queryJobSlot
      split
      · exact .refl
      · exact .refl
    · exact .refl
  · exact .refl

/-- The numbers of the records of the side list. -/
def sideUids (s : State) : List Nat := s.sides.records.map Side.uid

theorem onSide_uids {f : Side → Side} (h : ∀ x, (f x).uid = x.uid) (uid : Nat) (s : State) :
    sideUids (s.onSide uid f) = sideUids s := by
  simp only [sideUids, State.onSide, List.map_map]
  refine List.map_congr_left fun x _ => ?_
  simp only [Function.comp_apply]
  split
  · exact h x
  · rfl

theorem voidSide_sides (r : Side) (s : State) :
    (voidSide r s).sides = (markSettled r.uid (fun x => { x with outcome := some .voided }) s).sides := by
  rw [voidSide_eq, sideLeaves_sides]
  simp only [markSettled, State.onSide, (releaseHold_tested_edited r.userSlot r.reserve s).sides]

/-- The void of a side leaves the other sides in the list as they are. -/
theorem voidSide_listed {r x : Side} (h : SideListed x s) (hne : x.uid ≠ r.uid) : SideListed x (voidSide r s) := by
  obtain ⟨y, hy, huid, hstate, huser, hres⟩ := h
  refine ⟨y, ?_, huid, hstate, huser, hres⟩
  rw [voidSide_sides]
  exact List.mem_map.mpr ⟨y, hy, if_neg (by rw [huid]; exact hne)⟩

theorem voidSide_uids (r : Side) (s : State) : sideUids (voidSide r s) = sideUids s := by
  unfold sideUids
  rw [voidSide_sides]
  refine onSide_uids ?_ r.uid s
  exact fun _ => rfl

theorem foldl_voidSide_works {l : List Side}
    (h : SidesDistinct s → (l.map Side.uid).Nodup ∧ ∀ r ∈ l, SideListed r s) :
    Works c s (l.foldl (fun s r => voidSide r s) s) := by
  induction l generalizing s with
  | nil => exact .refl
  | cons r l ih =>
    refine (voidSide_works fun hd => (h hd).2 r (by simp)).trans (ih fun hd => ?_)
    have hd' : SidesDistinct s := by
      have huids := voidSide_uids r s
      unfold sideUids at huids
      unfold SidesDistinct at hd ⊢
      rwa [huids] at hd
    obtain ⟨hnodup, hlisted⟩ := h hd'
    rw [List.map_cons, List.nodup_cons] at hnodup
    refine ⟨hnodup.2, fun x hx => voidSide_listed (hlisted x (by simp [hx])) fun he => ?_⟩
    exact hnodup.1 (he ▸ List.mem_map_of_mem hx)

theorem sidesToVoid_listed (i : Fin 16) (b : Bool) (h : SidesDistinct s) :
    ((sidesToVoid i b s).map Side.uid).Nodup ∧ ∀ r ∈ sidesToVoid i b s, SideListed r s := by
  unfold sidesToVoid
  split
  · unfold State.admittedOf
    refine ⟨(List.filter_sublist.map Side.uid).nodup h, fun r hr => ?_⟩
    obtain ⟨hmem, hstate⟩ := List.mem_filter.mp hr
    simp only [Bool.and_eq_true, decide_eq_true_eq] at hstate
    exact ⟨r, hmem, rfl, by simp [hstate.1], rfl, rfl⟩
  · exact ⟨List.nodup_nil, by simp⟩

theorem jobClose_works (e : OrderEntry) (s : State) : Works c s (jobClose e s).2 := by
  refine withJob_works fun i j _ => ?_
  split
  · exact .refl
  · split
    · exact .refl
    · rename_i hfull
      unfold closeJob
      dsimp only
      refine .trans ?_ (attemptClose_works _ _)
      refine .trans ?_ (foldl_voidSide_works fun h => sidesToVoid_listed i (e.flag 5) h)
      exact (Work.park s e _ (by simpa using hfull)).works.trans (onJob_works i (by intro; rfl) _)

/-! ### Meter and parameter orders -/

theorem stage_works (set : ParamSet) (v : List Val) (s : State) : Works c s (stage set v s).2 := TablesKept.works {}

theorem curveLoad_works (e : OrderEntry) (s : State) : Works c s (curveLoad e s).2 := by
  unfold curveLoad
  split
  · exact .refl
  · split
    · exact stage_works _ _ s
    · exact .refl

theorem factorsLoad_works (e : OrderEntry) (s : State) : Works c s (factorsLoad e s).2 := by
  unfold factorsLoad
  split
  · exact .refl
  · exact stage_works _ _ s

theorem classesLoad_works (e : OrderEntry) (s : State) : Works c s (classesLoad e s).2 := by
  unfold classesLoad
  dsimp only
  split
  · exact .refl
  · exact stage_works _ _ s

theorem pricesLoad_works (e : OrderEntry) (s : State) : Works c s (pricesLoad e s).2 := by
  unfold pricesLoad
  split
  · exact .refl
  · exact stage_works _ _ s

theorem metersApply_works (hc : c = .metersApply) (e : OrderEntry) (s : State) : Works c s (metersApply e s).2 := by
  have hpending : ∀ t, TablesKept t (setPending e t) := fun _ => {}
  unfold metersApply
  split
  · exact (Work.supersede s e hc).works.trans (hpending _).works
  · split
    · exact .refl
    · rename_i hfull
      exact (Work.park s e _ (by simpa using hfull)).works.trans (hpending _).works

theorem metersApplyNow_works (e : OrderEntry) (s : State) : Works c s (metersApplyNow e s).2 := by
  unfold metersApplyNow
  split
  · exact .refl
  · dsimp only
    split
    · exact .trans (TablesKept.works {}) (completeParked_works _ _ _ _)
    · exact TablesKept.works {}

theorem metersQuery_unchanged (e : OrderEntry) (s : State) : (metersQuery e s).2 = s := by
  unfold metersQuery
  dsimp only
  split
  · rfl
  · split
    · rfl
    · split
      · rfl
      · rfl

/-! ### The side list -/

theorem sideJob_user {tag : Nat} {i : Fin 16} {j : Job} {u : User} (h : sideJob tag s = some (i, j, u)) :
    s.accounts.users[j.owner] = some u := by
  unfold sideJob at h
  split at h
  · simp at h
  · split at h
    · simp at h
    · obtain ⟨x, hx, he⟩ := Option.map_eq_some_iff.mp h
      simp only [Prod.mk.injEq] at he
      obtain ⟨-, rfl, rfl⟩ := he
      exact hx

theorem beginSide_works {f : SideForm} {i : Fin 16} {j : Job} {u : User} (hroom : s.sides.records.length < 8)
    (hbusy : s.accounts.restore = none) (hu : s.accounts.users[j.owner] = some u) :
    Works c s (beginSide f i j u s).2 := by
  unfold beginSide
  dsimp only
  iterate 2
    split
    · exact .refl
  split
  · exact .refl
  · iterate 3
      split
      · exact .refl
    split
    · exact .refl
    · split
      · exact .refl
      · exact (Work.sideAdmit s f i j u hroom hbusy hu).works

theorem sideBegin_works (e : OrderEntry) (s : State) : Works c s (sideBegin e s).2 := by
  unfold sideBegin
  split
  · exact .refl
  · split
    · exact .refl
    · rename_i hroom
      split
      · exact .refl
      · rename_i hbusy
        split
        · exact .refl
        · rename_i hjob
          simp only [State.accountsBusy, Bool.or_eq_true, not_or] at hbusy
          exact beginSide_works (by omega) (by simpa using hbusy.1) (sideJob_user hjob)

theorem sideCancel_works (e : OrderEntry) (s : State) : Works c s (sideCancel e s).2 := by
  unfold sideCancel
  split
  · exact .refl
  · split
    · exact .refl
    · rename_i r hr
      split
      · exact .refl
      · exact .refl
      · rename_i hstate
        exact voidSide_works fun _ => ⟨r, List.mem_of_find?_eq_some hr, rfl, by simp [hstate], rfl, rfl⟩

theorem sideJam_works (e : OrderEntry) (s : State) : Works c s (sideJam e s).2 := by
  unfold sideJam
  split
  · exact .refl
  · split
    · exact .refl
    · rename_i hr
      split
      · exact closeSide_works _ fun _ => meteringSide_listed hr
      · exact .refl

theorem readoutPolicy_works (e : OrderEntry) (s : State) : Works c s (readoutPolicy e s).2 := by
  unfold readoutPolicy
  split
  · exact .refl
  · exact (Work.strict s _).works

/-! ### The account table -/

theorem accountOpen_works (e : OrderEntry) (s : State) : Works c s (accountOpen e s).2 := by
  refine checked_works fun _ => ?_
  split
  · exact .refl
  · rename_i i hi
    exact (Work.userOpen s i (newUser e) (by simpa using firstIndex_some hi) rfl).works

theorem accountCredit_works (e : OrderEntry) (s : State) : Works c s (accountCredit e s).2 := by
  unfold accountCredit
  dsimp only
  split
  · exact .refl
  · exact withUser_works fun i u hu => (Work.userSet s i u _ hu (by rfl)).works

theorem accountSet_works (e : OrderEntry) (s : State) : Works c s (accountSet e s).2 := by
  unfold accountSet
  iterate 2
    split
    · exact .refl
  exact withUser_works fun i u hu => (Work.userSet s i u _ hu (by rfl)).works

theorem setUserState_works (x : UserState) (e : OrderEntry) (s : State) : Works c s (setUserState x e s).2 := by
  unfold setUserState
  split
  · exact .refl
  · exact withUser_works fun i u hu => (Work.userState s i u x hu).works

theorem accountRemove_works (e : OrderEntry) (s : State) : Works c s (accountRemove e s).2 := by
  unfold accountRemove
  split
  · exact .refl
  · refine withUser_works fun i u hu => ?_
    split
    · exact .refl
    · rename_i h
      have hretire : ∀ t x, TablesKept t ({ t with accounts := { t.accounts with retired := x } } : State) :=
        fun _ _ => {}
      exact (Work.userRemove s i u hu (by omega)).works.trans ((hretire _ _).trans (raiseIf_kept _ _ _)).works

theorem accountQuery_unchanged (e : OrderEntry) (s : State) : (accountQuery e s).2 = s := by
  unfold accountQuery
  dsimp only
  split
  · rfl
  · split
    · unfold withUser
      split
      · rfl
      · split
        · rfl
        · split
          · rfl
          · rfl
    · split
      · unfold queryUserSlot
        split
        · rfl
        · rfl
      · rfl
    · rfl

theorem countersQuery_unchanged (e : OrderEntry) (s : State) : (countersQuery e s).2 = s := by
  unfold countersQuery
  split
  · rfl
  · rfl

/-! ### Export and restore -/

theorem accountsExport_works (e : OrderEntry) (s : State) : Works c s (accountsExport e s).2 := by
  unfold accountsExport
  split
  · exact .refl
  · rename_i h
    simp only [Bool.or_eq_true, not_or] at h
    have htag : ∀ x, TablesKept s (tagContent x s) := fun _ => {}
    have hfull : s.parkedFull = false := by simpa using h.2
    exact (htag _).works.trans (Work.park (tagContent _ s) e _ hfull).works

theorem restoreBegin_works (e : OrderEntry) (s : State) : Works c s (restoreBegin e s).2 := by
  unfold restoreBegin
  split
  · exact .refl
  · split
    · exact .refl
    · rename_i h
      simp only [Bool.or_eq_true, not_or] at h
      exact (Work.restoreOpen s _ (.inr (by simpa using h.2))).works

theorem restoreUser_works (e : OrderEntry) (s : State) : Works c s (restoreUser e s).2 := by
  unfold restoreUser
  split
  · exact .refl
  · rename_i hb
    exact checked_works fun _ => (Work.restoreOpen s _ (.inl (by rw [hb]; rfl))).works

theorem restoreRetired_works (e : OrderEntry) (s : State) : Works c s (restoreRetired e s).2 := by
  unfold restoreRetired
  split
  · exact .refl
  · rename_i hb
    exact checked_works fun _ => (Work.restoreOpen s _ (.inl (by rw [hb]; rfl))).works

theorem restoreMeters_works (e : OrderEntry) (s : State) : Works c s (restoreMeters e s).2 := by
  unfold restoreMeters
  split
  · exact .refl
  · rename_i hb
    exact checked_works fun _ => (Work.restoreOpen s _ (.inl (by rw [hb]; rfl))).works

theorem restoreAbandon_works (e : OrderEntry) (s : State) : Works c s (restoreAbandon e s).2 := by
  unfold restoreAbandon
  split
  · exact .refl
  · exact (Work.restoreClose s).works

theorem installSnapshot_works (x : Snapshot) (h : s.accounts.restore.isSome) : Works c s (installSnapshot x s) := by
  unfold installSnapshot
  exact (ProverStep.totals s x.totals).works.trans (Work.usersRestore _ x.users x.retired x.meters (by exact h)).works

theorem restoreEnd_works (e : OrderEntry) (s : State) : Works c s (restoreEnd e s).2 := by
  unfold restoreEnd
  split
  · exact .refl
  · rename_i b hb
    split
    · exact .refl
    · rename_i content _
      split
      · have htag : TablesKept s (tagContent content s) := {}
        have hopen : (tagContent content s).accounts.restore.isSome := by
          rw [htag.restore, hb]
          rfl
        dsimp only
        exact htag.works.trans (installSnapshot_works content hopen)
      · exact (Work.restoreClose s).works

/-! ### The cartridge prover and the notices -/

theorem cartridgeProbe_works (e : OrderEntry) (s : State) : Works c s (cartridgeProbe e s).2 := by
  unfold cartridgeProbe
  split
  · exact .refl
  · refine checked_works fun h => ?_
    obtain ⟨-, h⟩ := firstFailure_cons h
    obtain ⟨-, h⟩ := firstFailure_cons h
    obtain ⟨-, h⟩ := firstFailure_cons h
    obtain ⟨hfull, -⟩ := firstFailure_cons h
    exact (Work.park s e _ hfull).works.trans (ProverStep.probe _ _).works

theorem cartridgeQuery_unchanged (e : OrderEntry) (s : State) : (cartridgeQuery e s).2 = s := by
  unfold cartridgeQuery
  split
  · rfl
  · split
    · rfl
    · rfl

theorem tonerPolicy_works (e : OrderEntry) (s : State) : Works c s (tonerPolicy e s).2 := by
  unfold tonerPolicy
  split
  · exact .refl
  · exact (ProverStep.policy s e.policy).works.trans
      (foldl_works _ (fun s p _ => (ProverStep.threshold s p).works) _)

theorem noticesAck_works (e : OrderEntry) (s : State) : Works c s (noticesAck e s).2 := by
  unfold noticesAck
  split
  · exact .refl
  · exact TablesKept.works {}

theorem noticesEnable_works (e : OrderEntry) (s : State) : Works c s (noticesEnable e s).2 := by
  unfold noticesEnable
  split
  · exact .refl
  · exact TablesKept.works {}

end Sys2Proof.Machine
end

section

/-! PROOFS. Every command as a chain of changes that the end of an event follows, or no event at all, or a cold reset. -/

namespace Sys2Proof.Machine

variable {c : Instr} {s t u : State}

/-! ### Events -/

/-- The command's event takes place, a chain of changes and then the end of every event, or it does not take place. -/
def TakesPlace (c : Instr) (s : State) (o : Host.Outcome State Fault Refusal) : Prop :=
  o = .next s ∨ ∃ x, Changes c s x ∧ o = .next (concludeEvent s x)

theorem takesPlace_event {body : State → State} (h : Changes c s (body s)) : TakesPlace c s (event body s) :=
  .inr ⟨body s, h, rfl⟩

theorem takesPlace_eventIf {b : Bool} {body : State → State} (h : b = true → Changes c s (body s)) :
    TakesPlace c s (eventIf b body s) := by
  cases b
  · exact .inl rfl
  · exact takesPlace_event (h rfl)

theorem takerReady_iff :
    s.takerReady = true ↔ s.orders.holding.length < 8 ∧ s.orders.resetWait = none ∧ s.orders.resetSequence = [] := by
  simp [State.takerReady, and_assoc]

theorem takesPlace_runOrder {accepts : OrderEntry → Bool} {body : OrderEntry → State → OrderAnswer × State}
    (h : ∀ e t, Works c t (body e t).2) : TakesPlace c s (runOrder accepts body s) := by
  unfold runOrder
  split
  · exact .inl rfl
  · rename_i e rest hq
    refine takesPlace_eventIf fun hready => ?_
    simp only [Bool.and_eq_true, takerReady_iff] at hready
    obtain ⟨⟨hroom, hwait, -⟩, -⟩ := hready
    have hpop : Changes c s (popOrder rest s) :=
      (Change.dequeue s e rest hq).changes.trans (Works.changes (takeHeld_works (by exact hwait)))
    have hbody : Works c (popOrder rest s) (body e (popOrder rest s)).2 := h e _
    have hlength : (body e (popOrder rest s)).2.orders.holding.length < 8 := by
      rw [hbody.taker.holding, popOrder_holding]
      exact hroom
    refine (hpop.trans hbody.changes).trans ?_
    unfold giveAnswer
    split
    · exact (Change.hold _ e none _ hlength).changes
    · exact (Change.hold _ e _ _ hlength).changes
    · exact .refl

/-- An order that changes nothing is a chain of no changes. -/
theorem works_of_unchanged (h : t = s) : Works c s t := h ▸ .refl

/-! ### The cartridges -/

theorem completeProbe_works (p : Plane) (o : ProofOutcome) (n : Nat) (s : State) :
    Works c s (completeProbe p o n s) := completeParked_works _ _ _ s

theorem endAttempt_works {p : Plane} (o : ProofOutcome) (h : ProofOnLine p s) : Works c s (endAttempt p o s) := by
  have hclose : Works c s (closeAttempt p o s) := (ProverStep.attempt s p o h).works
  rw [endAttempt_eq]
  split
  · exact hclose
  · exact hclose.trans (completeProbe_works _ _ _ _)

theorem endSilent_works {x : LineExchange} (h : s.cartridges.line = some x) : Works c s (endSilent x s) := by
  unfold endSilent
  split
  · rename_i nonce hm
    exact endAttempt_works _ ⟨x, nonce, h, rfl, hm⟩
  · rename_i amount nonce tag hm
    exact (ProverStep.badDebit s x.slot amount true ⟨x, nonce, tag, h, rfl, hm⟩).works

/-- A proof stays on the line while the line stays. -/
theorem ProofOnLine.of_line {p : Plane} (h : ProofOnLine p s) (ht : t.cartridges.line = s.cartridges.line) :
    ProofOnLine p t := by
  obtain ⟨x, nonce, hx, hp, hm⟩ := h
  exact ⟨x, nonce, ht.trans hx, hp, hm⟩

theorem joinAbsent_line (a : AbsentEntry) (s : State) : (joinAbsent a s).cartridges.line = s.cartridges.line := by
  unfold joinAbsent
  split
  · rfl
  · split
    · rfl
    · rfl

theorem stashSlot_line (p : Plane) (s : State) : (stashSlot p s).cartridges.line = s.cartridges.line := by
  unfold stashSlot
  dsimp only
  split
  · rw [joinAbsent_line]
    rfl
  · rfl

/-- The evaluation of a known serial on a state that the slot's serial led to, from the state before that: the answered
count is taken over, an uncertain debit is counted as applied, or the attempt ends REJECTED (R150). -/
theorem evaluateKnown_works {p : Plane} (a : Nat) (ht : ProofOnLine p t)
    (hcount : Works c s (t.onSlot p fun x => { x with remaining := some a, uncertain := none }))
    (happlied : ∀ u, t.cartridges.slots[p].uncertain = some u → Works c s (addConfirmed p u (t.onSlot p fun x =>
      { x with remaining := some a, uncertain := none, owed := x.owed - u })))
    (hrejected : Works c s (endAttempt p .rejected t)) : Works c s (evaluateKnown p a t) := by
  have hsettled : Works c s
      (endAttempt p .pass (t.onSlot p fun x => { x with remaining := some a, uncertain := none })) :=
    hcount.trans (endAttempt_works _ (ht.of_line rfl))
  unfold evaluateKnown
  dsimp only
  split
  · exact hsettled
  · split
    · exact hrejected
    · split
      · exact hsettled
      · rename_i u hu
        split
        · refine .trans ?_ (endAttempt_works _ (ht.of_line rfl))
          have hdebit := happlied u hu
          simp only [State.onSlot, put_same, put_put] at hdebit ⊢
          exact hdebit
        · exact hsettled

theorem evaluateKnown_own_works {p : Plane} (a : Nat) (h : ProofOnLine p s) : Works c s (evaluateKnown p a s) :=
  evaluateKnown_works a h (ProverStep.count s p a h).works (fun u hu => (ProverStep.applied s p a u h hu).works)
    (endAttempt_works _ h)

theorem claimEntry_line (p : Plane) (a : AbsentEntry) (s : State) :
    (claimEntry p a s).cartridges.line = s.cartridges.line := stashSlot_line p { s with cartridges := _ }

theorem claimEntry_uncertain (p : Plane) (a : AbsentEntry) (s : State) :
    (claimEntry p a s).cartridges.slots[p].uncertain = a.uncertain := by
  unfold claimEntry
  simp only [State.onSlot, put_same]

theorem evaluateKnown_claimed_works {p : Plane} {v : Serial} {x : AbsentEntry} (a : Nat) (h : ProofOnLine p s)
    (hx : s.absentEntry v p = some x) : Works c s (evaluateKnown p a (claimEntry p x s)) := by
  have hline := claimEntry_line p x s
  refine evaluateKnown_works a (h.of_line hline) (ProverStep.claimCount s p v x a h hx).works (fun u hu => ?_) ?_
  · rw [claimEntry_uncertain] at hu
    exact (ProverStep.claimApplied s p v x a u h hx hu).works
  · have hclose : Works c s (closeAttempt p .rejected (claimEntry p x s)) :=
      (ProverStep.claimRejected s p v x h hx).works
    rw [endAttempt_eq]
    split
    · exact hclose
    · exact hclose.trans (completeProbe_works _ _ _ _)

theorem evaluateAnswer_works {p : Plane} (nonce : Nonce) (a : ProofAnswer) (h : ProofOnLine p s) :
    Works c s (evaluateAnswer p nonce a s) := by
  unfold evaluateAnswer
  split
  · exact endAttempt_works _ h
  · split
    · exact endAttempt_works _ h
    · split
      · exact evaluateKnown_own_works _ h
      · split
        · rename_i hx
          exact evaluateKnown_claimed_works _ h hx
        · have hadopt : Works c s (adoptSerial p a s) :=
            (ProverStep.stash s p h).works.trans (ProverStep.slot _ p _ {}).works
          exact hadopt.trans (endAttempt_works _ (h.of_line (stashSlot_line p s)))

theorem takesPlace_onExchange {test : LineExchange → Bool} {body : LineExchange → State → State}
    (h : ∀ x, s.cartridges.line = some x → Works c s (body x s)) : TakesPlace c s (onExchange test body s) := by
  unfold onExchange
  split
  · rename_i x hx
    exact takesPlace_eventIf fun _ => (h x hx).changes
  · exact .inl rfl

theorem startWait_works (p : Plane) (s : State) : Works c s (startWait p s) :=
  (ProverStep.slot s p _ {}).works.trans (ProverStep.phase _ .wait).works

theorem completeParked_onSlot (q : Plane) (f : CartridgeSlot → CartridgeSlot) (g : ParkObject → Bool)
    (r : Option Reason) (v : List Val) (s : State) :
    (s.completeParked g r v).onSlot q f = (s.onSlot q f).completeParked g r v := by
  unfold State.completeParked
  dsimp only [State.onSlot]
  split <;> rfl

theorem removeCartridge_works {p : Plane} (hc : c = .presenceDeassert p) (s : State) : Works c s (removeCartridge p s) := by
  unfold removeCartridge
  dsimp only
  rw [completeParked_onSlot]
  exact ((ProverStep.remove s p hc).works.trans (completeParked_works _ _ _ _)).trans
    ((raise_kept _ _).trans (raiseIf_kept _ _ _)).works

/-! ### Every command -/

theorem takesPlace_cartridges :
    (∀ p, TakesPlace (.presenceAssert p) s (execPresenceAssert p s)) ∧
    (∀ p, TakesPlace (.presenceDeassert p) s (execPresenceDeassert p s)) ∧
    (∀ p, TakesPlace (.settlingTimerExpiry p) s (execSettlingTimerExpiry p s)) ∧
    (∀ p, TakesPlace (.retryTimerExpiry p) s (execRetryTimerExpiry p s)) ∧
    (∀ b, TakesPlace (.challengeWriteEnd b) s (execChallengeWriteEnd b s)) ∧
    (∀ b, TakesPlace (.amountWriteEnd b) s (execAmountWriteEnd b s)) ∧
    TakesPlace .answerAddressAck s (execAnswerAddressAck s) ∧
    TakesPlace .answerWaitExpiry s (execAnswerWaitExpiry s) ∧
    (∀ a, TakesPlace (.answerReadEnd a) s (execAnswerReadEnd a s)) ∧
    (∀ a, TakesPlace (.confirmationReadEnd a) s (execConfirmationReadEnd a s)) := by
  have hwrite : ∀ (c : Instr) (b : Bool) (x : LineExchange), s.cartridges.line = some x →
      Works c s (if b then startWait x.slot s else endSilent x s) := by
    intro c b x hx
    split
    · exact startWait_works _ _
    · exact endSilent_works hx
  refine ⟨fun p => takesPlace_event ?_, fun p => takesPlace_event ?_,
    fun p => takesPlace_eventIf fun h => (ProverStep.settle s p h).works.changes,
    fun p => takesPlace_eventIf fun h => (ProverStep.retry s p h).works.changes,
    fun b => takesPlace_onExchange (hwrite _ b), fun b => takesPlace_onExchange (hwrite _ b),
    takesPlace_onExchange fun x _ => (ProverStep.slot s x.slot _ {}).works.trans (ProverStep.phase _ .read).works,
    takesPlace_onExchange fun x hx => endSilent_works hx,
    fun a => takesPlace_onExchange fun x hx => ?_, fun a => takesPlace_onExchange fun x hx => ?_⟩
  · dsimp only
    split
    · exact (ProverStep.pin s p true).works.changes
    · rename_i h
      have hempty : s.cartridges.slots[p].seated = false := by simpa using h
      exact Works.changes ((ProverStep.pin s p true).works.trans (ProverStep.seat (setPin p true s) p hempty).works)
  · dsimp only
    split
    · exact Works.changes ((ProverStep.pin s p false).works.trans (removeCartridge_works rfl _))
    · exact (ProverStep.pin s p false).works.changes
  · split
    · rename_i hm
      exact evaluateAnswer_works _ _ ⟨x, _, hx, rfl, hm⟩
    · exact endSilent_works hx
  · split
    · rename_i hm
      split
      · exact (ProverStep.goodDebit s x.slot _ _ ⟨x, _, _, hx, rfl, hm⟩).works
      · exact (ProverStep.badDebit s x.slot _ _ ⟨x, _, _, hx, rfl, hm⟩).works
    · exact endSilent_works hx

theorem takesPlace_port :
    TakesPlace .upstreamGrant s (execUpstreamGrant s) ∧
    (∀ i, TakesPlace (.mergeReadIssue i) s (execMergeReadIssue i s)) ∧
    TakesPlace .mergeReadGrant s (execMergeReadGrant s) ∧
    TakesPlace .mergeWritebackAccept s (execMergeWritebackAccept s) ∧
    TakesPlace .returnAccept s (execReturnAccept s) ∧
    TakesPlace .headerRewriteGrant s (execHeaderRewriteGrant s) ∧
    TakesPlace .summaryRewriteGrant s (execSummaryRewriteGrant s) := by
  have hgrant : ∀ c, Changes c s (grantOwn s) := fun _ => (Change.grantOwn s).changes
  refine ⟨takesPlace_eventIf fun _ => (grantUpstream_works s).changes,
    fun i => takesPlace_event (issueRead_kept i s).works.changes, ?_, ?_, ?_, ?_, ?_⟩
  · unfold execMergeReadGrant
    split
    · exact takesPlace_event ((hgrant _).trans (grantMergeRead_works _ _).changes)
    · exact .inl rfl
  · unfold execMergeWritebackAccept
    split
    · exact takesPlace_event ((hgrant _).trans (acceptMergeWrite_works _ _).changes)
    · exact .inl rfl
  · unfold execReturnAccept
    split
    · rename_i h
      exact takesPlace_event (returnAccept_changes h)
    · exact .inl rfl
  · unfold execHeaderRewriteGrant
    split
    · exact takesPlace_event ((hgrant _).trans (writeHeader_works _).changes)
    · exact .inl rfl
  · unfold execSummaryRewriteGrant
    split
    · exact takesPlace_event ((hgrant _).trans (writeSummary_works _).changes)
    · exact .inl rfl

theorem takesPlace_resetEvent (s : State) : TakesPlace c s (execResetEvent s) := by
  unfold execResetEvent
  split
  · exact .inl rfl
  · rename_i w _
    refine takesPlace_eventIf fun h => warmReset_changes w ?_
    simp only [Bool.and_eq_true, Bool.not_eq_true'] at h
    exact h.2

theorem takesPlace_partReset (s : State) : TakesPlace c s (execPartReset s) := by
  unfold execPartReset
  split
  · exact .inl rfl
  · rename_i e rest hq
    exact takesPlace_eventIf fun _ => (Change.enterWait s e rest hq).changes

theorem takesPlace_metersSwitch (s : State) : TakesPlace c s (execMetersSwitch s) :=
  takesPlace_eventIf fun _ => (switchPending_works s).changes

/-- A command that is no cold reset is an event, which takes place or does not (R4). -/
theorem exec_takesPlace (c : Instr) (s : State) (h : ∀ m p, c ≠ .coldReset m p) : TakesPlace c s (exec c s) := by
  obtain ⟨hassert, hdeassert, hsettling, hretry, hchallenge, hamount, hack, hwait, hanswer, hconfirmation⟩ :=
    takesPlace_cartridges (s := s)
  obtain ⟨hupstream, hissue, hread, hwriteback, hreturn, hheader, hsummary⟩ := takesPlace_port (s := s)
  cases c with
  | coldReset m p => exact absurd rfl (h m p)
  | lineRequest tag line access => exact takesPlace_event (present_works _ s).changes
  | ringHeaderWrite tag mask data => exact takesPlace_event (present_works _ s).changes
  | orderTake tag window data => exact takesPlace_event (present_works _ s).changes
  | upstreamGrant => exact hupstream
  | mergeReadIssue i => exact hissue i
  | mergeReadGrant => exact hread
  | mergeWritebackAccept => exact hwriteback
  | regionRemoveAttempt i => exact takesPlace_event (attemptRemove_works i s).changes
  | jobCloseCompletion i => exact takesPlace_event (attemptClose_works i s).changes
  | sideMark => exact takesPlace_event (takeMark_changes rfl s)
  | metersSwitch => exact takesPlace_metersSwitch s
  | presenceAssert p => exact hassert p
  | presenceDeassert p => exact hdeassert p
  | settlingTimerExpiry p => exact hsettling p
  | challengeWriteEnd b => exact hchallenge b
  | answerAddressAck => exact hack
  | answerWaitExpiry => exact hwait
  | answerReadEnd a => exact hanswer a
  | retryTimerExpiry p => exact hretry p
  | amountWriteEnd b => exact hamount b
  | confirmationReadEnd a => exact hconfirmation a
  | returnAccept => exact hreturn
  | headerRewriteGrant => exact hheader
  | summaryRewriteGrant => exact hsummary
  | sourceSet => exact takesPlace_runOrder sourceSet_works
  | regionDefine => exact takesPlace_runOrder regionDefine_works
  | regionRemove => exact takesPlace_runOrder regionRemove_works
  | regionQuery => exact takesPlace_runOrder regionQuery_works
  | jobOpen => exact takesPlace_runOrder jobOpen_works
  | jobRelease => exact takesPlace_runOrder (setRelease_works _)
  | jobSeal => exact takesPlace_runOrder (setRelease_works _)
  | jobKeyExport => exact takesPlace_runOrder jobKeyExport_works
  | jobQuery => exact takesPlace_runOrder jobQuery_works
  | jobClose => exact takesPlace_runOrder jobClose_works
  | metersFlush => exact takesPlace_runOrder fun _ => convertUnattributed_works
  | curveLoad => exact takesPlace_runOrder curveLoad_works
  | factorsLoad => exact takesPlace_runOrder factorsLoad_works
  | classesLoad => exact takesPlace_runOrder classesLoad_works
  | pricesLoad => exact takesPlace_runOrder pricesLoad_works
  | metersApply => exact takesPlace_runOrder (metersApply_works rfl)
  | metersApplyNow => exact takesPlace_runOrder metersApplyNow_works
  | metersQuery => exact takesPlace_runOrder fun e t => works_of_unchanged (metersQuery_unchanged e t)
  | sideBegin => exact takesPlace_runOrder sideBegin_works
  | sideCancel => exact takesPlace_runOrder sideCancel_works
  | sideJam => exact takesPlace_runOrder sideJam_works
  | readoutPolicy => exact takesPlace_runOrder readoutPolicy_works
  | accountOpen => exact takesPlace_runOrder accountOpen_works
  | accountCredit => exact takesPlace_runOrder accountCredit_works
  | accountSet => exact takesPlace_runOrder accountSet_works
  | accountSuspend => exact takesPlace_runOrder (setUserState_works _)
  | accountResume => exact takesPlace_runOrder (setUserState_works _)
  | accountRemove => exact takesPlace_runOrder accountRemove_works
  | accountQuery => exact takesPlace_runOrder fun e t => works_of_unchanged (accountQuery_unchanged e t)
  | countersQuery => exact takesPlace_runOrder fun e t => works_of_unchanged (countersQuery_unchanged e t)
  | accountsExport => exact takesPlace_runOrder accountsExport_works
  | restoreBegin => exact takesPlace_runOrder restoreBegin_works
  | restoreAccountUser => exact takesPlace_runOrder restoreUser_works
  | restoreAccountRetired => exact takesPlace_runOrder restoreRetired_works
  | restoreMeters => exact takesPlace_runOrder restoreMeters_works
  | restoreEnd => exact takesPlace_runOrder restoreEnd_works
  | restoreAbandon => exact takesPlace_runOrder restoreAbandon_works
  | cartridgeProbe => exact takesPlace_runOrder cartridgeProbe_works
  | cartridgeQuery => exact takesPlace_runOrder fun e t => works_of_unchanged (cartridgeQuery_unchanged e t)
  | tonerPolicy => exact takesPlace_runOrder tonerPolicy_works
  | noticesAck => exact takesPlace_runOrder noticesAck_works
  | noticesEnable => exact takesPlace_runOrder noticesEnable_works
  | partReset => exact takesPlace_partReset s
  | badOrder => exact takesPlace_runOrder fun _ _ => .refl
  | resetEvent => exact takesPlace_resetEvent s

/-- The state that a cold reset leaves (R4). -/
def coldState (memsize : Fin 4) (ctlpos : Fin 2) (s : State) : State :=
  { State.afterColdReset memsize ctlpos with
    pending := s.pending
    fuses := s.fuses
    draws := s.draws
    mem := s.mem
    channel := { ChannelFront.reset with
      waiting := s.channel.waiting, nextId := s.channel.nextId, returned := s.channel.returned }
    accounts := { AccountTable.reset with tagged := s.accounts.tagged }
    cartridges := { Cartridges.reset with pins := s.cartridges.pins } }

theorem exec_coldReset (memsize : Fin 4) (ctlpos : Fin 2) (s : State) :
    exec (.coldReset memsize ctlpos) s = .next (coldState memsize ctlpos s) := rfl

/-- What a command leaves: the state as it was, a chain of changes with the end of the event, or a cold reset. -/
theorem exec_cases {P : State → Prop} {c : Instr} (he : exec c s = .next t) (hs : P s)
    (hcold : ∀ m p, c = .coldReset m p → P (coldState m p s))
    (hchange : ∀ x y, Change c x y → P x → P y) : P t := by
  by_cases hc : ∃ m p, c = .coldReset m p
  · obtain ⟨m, p, rfl⟩ := hc
    rw [exec_coldReset] at he
    cases he
    exact hcold m p rfl
  · have hchanges : ∀ {x y}, Changes c x y → P x → P y := fun h hx => by
      induction h with
      | refl => exact hx
      | tail _ hstep ih => exact hchange _ _ hstep ih
    obtain hsame | ⟨x, hx, hout⟩ := exec_takesPlace c s fun m p h => hc ⟨m, p, h⟩
    · rw [hsame] at he
      cases he
      exact hs
    · rw [hout] at he
      cases he
      exact hchanges (hx.trans (concludeEvent_changes s x)) hs

end Sys2Proof.Machine
end

section

/-! PROOFS. The obligations about every step: a law is kept when every change keeps it. -/

namespace Sys2Proof.Machine

variable {c : Instr} {s t u : State}

/-- A law that does not speak of the waiting commands is kept by every step when a cold reset and every change keep
it. -/
theorem step_keeps {P : State → Prop} (hpending : ∀ s rest, P s → P { s with pending := rest })
    (hcold : ∀ m p s, P s → P (coldState m p s)) (hchange : ∀ c x y, Change c x y → P x → P y) (s t : State)
    (hs : P s) (h : step s = .next t) : P t := by
  unfold step at h
  split at h
  · cases h
    exact hs
  · exact exec_cases h (hpending _ _ hs) (fun m p _ => hcold m p _ (hpending _ _ hs)) (hchange _)

/-- Settles O1. -/
theorem stepRunsTheFrontCommand : Obligations.StepRunsTheFrontCommand := by
  unfold Obligations.StepRunsTheFrontCommand
  refine ⟨fun c rest s => rfl, fun s h => ?_⟩
  unfold step
  rw [h]

/-! ### What the pieces of work leave alone -/

theorem installRegion_kept (i : Fin 32) (r : Region) (s : State) :
    TablesKept { s with classifier := (installRegion i r s).classifier, jobs := (installRegion i r s).jobs }
      (installRegion i r s) := by
  unfold installRegion
  dsimp only
  split
  · exact {}
  · exact {}

theorem freeRegion_kept (i : Fin 32) (r : Region) (s : State) :
    TablesKept { s with classifier := (freeRegion i r s).classifier, jobs := (freeRegion i r s).jobs }
      (freeRegion i r s) := by
  unfold freeRegion
  dsimp only
  split
  · exact {}
  · exact {}

theorem completeParked_kept (f : ParkObject → Bool) (r : Option Reason) (v : List Val) (s : State) :
    TablesKept { s with orders := (s.completeParked f r v).orders } (s.completeParked f r v) := by
  unfold State.completeParked
  split
  · exact {}
  · exact {}

theorem supersede_kept (e : OrderEntry) (s : State) :
    TablesKept { s with orders := (supersede e s).orders } (supersede e s) := by
  unfold supersede
  split
  · exact {}
  · exact {}

theorem offerIndex_kept (a : Access) (s : State) :
    TablesKept { s with writer := { s.writer with readIndex := (offerIndex a s).writer.readIndex } }
      (offerIndex a s) := by
  unfold offerIndex
  split
  · split
    · exact {}
    · exact {}
  · exact {}

theorem warningTest_kept (i : Fin 64) (s : State) :
    TablesKept { s with accounts := (warningTest i s).accounts } (warningTest i s) := (warningTest_edited i s).rest

/-- The warning tests of a list of user slots edit user records alone. -/
theorem foldl_warningTest_kept (l : List (Fin 64)) (s : State) :
    TablesKept { s with accounts := (l.foldl (fun s i => warningTest i s) s).accounts }
      (l.foldl (fun s i => warningTest i s) s) := by
  induction l generalizing s with
  | nil => exact {}
  | cons i l ih =>
    have hi := warningTest_kept i s
    obtain ⟨hp, hf, hm, hc, hj, hs, -, -, hca, ho, hw, hr, he, ls, hls, how⟩ := ih (warningTest i s)
    refine ⟨hp.trans hi.pending, hf.trans hi.fuses, hm.trans hi.mem, hc.trans hi.classifier, hj.trans hi.jobs,
      hs.trans hi.sides, rfl, rfl, hca.trans hi.cartridges, ho.trans hi.orders, hw.trans hi.writeIndex,
      hr.trans hi.readIndex, he.trans hi.epoch, ?_⟩
    obtain ⟨ls', hls', how'⟩ := hi.own
    refine ⟨ls' ++ ls, by simpa [or_imp, forall_and] using ⟨hls', hls⟩, ?_⟩
    rw [List.foldl_cons, how, show (warningTest i s).port.own = _ from how', List.append_assoc]

theorem foldl_warningTest_accounts_kept (l : List (Fin 64)) (x : AccountTable) (s : State) :
    TablesKept { s with accounts := (l.foldl (fun s i => warningTest i s) { s with accounts := x }).accounts }
      (l.foldl (fun s i => warningTest i s) { s with accounts := x }) :=
  foldl_warningTest_kept l { s with accounts := x }

theorem restoreUsers_kept (us : List UserCopy) (retired : Counters) (meters : DeviceMeters) (s : State) :
    TablesKept { s with accounts := (restoreUsers us retired meters s).accounts } (restoreUsers us retired meters s) :=
  foldl_warningTest_accounts_kept _ _ s

theorem admitSide_kept (r : Side) (s : State) :
    TablesKept { s with
      sides := (admitSide r s).sides, accounts := (admitSide r s).accounts, jobs := (admitSide r s).jobs }
      (admitSide r s) := by
  obtain ⟨hp, hf, hm, hc, -, -, -, -, hca, ho, hw, hr, he, how⟩ := warningTest_kept r.userSlot
    (takeHold r.userSlot r.reserve { s with sides :=
      { s.sides with
        records := s.sides.records ++ [r]
        nextId := idAfter r.id
        nextUid := s.sides.nextUid + 1 } })
  exact ⟨hp, hf, hm, hc, rfl, rfl, rfl, rfl, hca, ho, hw, hr, he, how⟩

/-! ### Page memory -/

theorem Work.mem_wf (h : Work c s t) (hs : MemoryWf s.mem) : MemoryWf t.mem := by
  have hkept : ∀ {x : State}, x.mem = s.mem → MemoryWf x.mem := fun he => he ▸ hs
  cases h with
  | store n mask data => exact writeLine_wf _ _ _ _ hs
  | aside h => exact hkept h.mem
  | prover h =>
    obtain ⟨_, _, _, rfl⟩ := h.only
    exact hs
  | sideEnd r h => exact hkept h.rest.mem
  | regionFree i r _ => exact hkept (freeRegion_kept i r s).mem
  | regionDefine f i _ _ => exact hkept (installRegion_kept i _ s).mem
  | usersRestore us retired meters _ => exact hkept (restoreUsers_kept us retired meters s).mem
  | sideAdmit f i j u _ _ _ => exact hkept (admitSide_kept _ s).mem
  | userOpen i u _ _ => exact hkept (warningTest_kept i _).mem
  | userSet i u u' _ _ => exact hkept (warningTest_kept i _).mem
  | complete f r v => exact hkept (completeParked_kept f r v s).mem
  | supersede e _ => exact hkept (supersede_kept e s).mem
  | offer a => exact hkept (offerIndex_kept a s).mem
  | job | jobOpen | jobFree | refusals | sources | side | strict | userState | userRemove | restoreOpen
  | restoreClose | park | queue => exact hs

theorem Change.mem_wf (h : Change c s t) (hs : MemoryWf s.mem) : MemoryWf t.mem := by
  cases h with
  | work h => exact h.mem_wf hs
  | sidesEmpty h => rw [h.rest.mem]; exact hs
  | sideTold => rw [tellSideList_mem]; exact hs
  | toldResult => rw [tellOrderTaker_mem]; exact hs
  | drain => rw [noteDrain_mem]; exact hs
  | returnIssue => rw [issueReturn_mem]; exact hs
  | sideStart | dequeue | hold | move | exported | enterWait | tablesReset | grantOwn | returnAccept | ringReset =>
    exact hs

/-- Settles O4: a store keeps the form, and no other change touches page memory. -/
theorem stepKeepsMemoryCanonical : Obligations.StepKeepsMemoryCanonical :=
  step_keeps (P := fun s => MemoryWf s.mem) (fun _ _ hs => hs) (fun _ _ _ hs => hs) (fun _ _ _ h => h.mem_wf)

end Sys2Proof.Machine
end

section

/-! PROOFS. Every command answers a next state and keeps the fuses; every step keeps the ring sound. -/

namespace Sys2Proof.Machine

variable {c : Instr} {s t u : State}

/-! ### The waiting commands and the fuses -/

/-- The waiting commands and the fuse values stay. -/
def OutsideKept (s t : State) : Prop := t.pending = s.pending ∧ t.fuses = s.fuses

theorem TablesKept.outside {x : State} (h : TablesKept x t) (hx : OutsideKept s x) : OutsideKept s t :=
  ⟨h.pending.trans hx.1, h.fuses.trans hx.2⟩

theorem Work.outside (h : Work c s t) : OutsideKept s t := by
  cases h with
  | aside h => exact h.outside ⟨rfl, rfl⟩
  | prover h =>
    obtain ⟨_, _, _, rfl⟩ := h.only
    exact ⟨rfl, rfl⟩
  | sideEnd r h => exact h.rest.outside ⟨rfl, rfl⟩
  | regionFree i r _ => exact (freeRegion_kept i r s).outside ⟨rfl, rfl⟩
  | regionDefine f i _ _ => exact (installRegion_kept i _ s).outside ⟨rfl, rfl⟩
  | usersRestore us retired meters _ => exact (restoreUsers_kept us retired meters s).outside ⟨rfl, rfl⟩
  | sideAdmit f i j u _ _ _ => exact (admitSide_kept _ s).outside ⟨rfl, rfl⟩
  | userOpen i u _ _ => exact (warningTest_kept i _).outside ⟨rfl, rfl⟩
  | userSet i u u' _ _ => exact (warningTest_kept i _).outside ⟨rfl, rfl⟩
  | complete f r v => exact (completeParked_kept f r v s).outside ⟨rfl, rfl⟩
  | supersede e _ => exact (supersede_kept e s).outside ⟨rfl, rfl⟩
  | offer a => exact (offerIndex_kept a s).outside ⟨rfl, rfl⟩
  | store | job | jobOpen | jobFree | refusals | sources | side | strict | userState | userRemove | restoreOpen
  | restoreClose | park | queue => exact ⟨rfl, rfl⟩

theorem Change.outside (h : Change c s t) : OutsideKept s t := by
  cases h with
  | work h => exact h.outside
  | sidesEmpty h => exact h.rest.outside ⟨rfl, rfl⟩
  | sideTold => exact ⟨tellSideList_pending s, tellSideList_fuses s⟩
  | toldResult => exact ⟨tellOrderTaker_pending s, tellOrderTaker_fuses s⟩
  | drain => exact ⟨noteDrain_pending s, noteDrain_fuses s⟩
  | returnIssue => exact ⟨issueReturn_pending s, issueReturn_fuses s⟩
  | sideStart | dequeue | hold | move | exported | enterWait | tablesReset | grantOwn | returnAccept | ringReset =>
    exact ⟨rfl, rfl⟩

/-- A command answers a next state: no meaning stops (log entry 12). -/
theorem exec_next (c : Instr) (s : State) : ∃ t, exec c s = .next t := by
  by_cases hc : ∃ m p, c = .coldReset m p
  · obtain ⟨m, p, rfl⟩ := hc
    exact ⟨_, exec_coldReset m p s⟩
  · obtain hsame | ⟨x, -, hout⟩ := exec_takesPlace c s fun m p h => hc ⟨m, p, h⟩
    · exact ⟨s, hsame⟩
    · exact ⟨_, hout⟩

/-- Settles O2: no change touches the waiting commands or the fuse values. -/
theorem everyCommandAnswersAndKeepsTheFuses : Obligations.EveryCommandAnswersAndKeepsTheFuses := by
  intro c s
  obtain ⟨t, ht⟩ := exec_next c s
  have hkept : OutsideKept s t := exec_cases (P := OutsideKept s) ht ⟨rfl, rfl⟩ (fun _ _ _ => ⟨rfl, rfl⟩)
    fun x y hstep hx => ⟨hstep.outside.1.trans hx.1, hstep.outside.2.trans hx.2⟩
  exact ⟨t, ht, hkept⟩

/-! ### The ring -/

/-- The ring indices and the epoch stay, and no return joins the part's own stream. -/
structure RingKept (s t : State) : Prop where
  write : t.writer.writeIndex = s.writer.writeIndex := by rfl
  read : t.writer.readIndex = s.writer.readIndex := by rfl
  epoch : t.writer.epoch = s.writer.epoch := by rfl
  own : ∃ ls, (∀ l ∈ ls, l.isReturn = false) ∧ t.port.own = s.port.own ++ ls := by
    exact ⟨[], List.forall_mem_nil _, (List.append_nil _).symm⟩

theorem TablesKept.ring {x : State} (h : TablesKept x t) (hport : x.port = s.port) (hwriter : x.writer = s.writer) :
    RingKept s t :=
  ⟨hwriter ▸ h.writeIndex, hwriter ▸ h.readIndex, hwriter ▸ h.epoch, hport ▸ h.own⟩

theorem RingKept.inv (h : RingKept s t) (hs : RingInv s) : RingInv t := by
  obtain ⟨hwrite, hread, hepoch, ls, hls, hown⟩ := h
  have hnone : ls.countP OwnLine.isReturn = 0 := List.countP_eq_zero.mpr fun l hl => by simp [hls l hl]
  refine ⟨hwrite ▸ hs.write, hread ▸ hs.read, hepoch ▸ hs.epoch, ?_, fun l hl hr => ?_⟩
  · rw [hown, List.countP_append, hnone]
    exact hs.single
  · rw [hwrite, hread]
    rw [hown, List.mem_append] at hl
    exact hs.free l (hl.resolve_right fun hm => by simp [hls l hm] at hr) hr

/-- The writer never makes an offered index the one behind the write index while that slot is free (R181). -/
theorem acceptedIndex_sound {w : ReturnWriter} (v : Nat) (hw : w.writeIndex < 448) (hr : w.readIndex < 448) :
    acceptedIndex w v < 448 ∧
      ((w.writeIndex + 1) % 448 ≠ w.readIndex → (w.writeIndex + 1) % 448 ≠ acceptedIndex w v) := by
  unfold acceptedIndex ReturnWriter.unread ringSlots
  split
  · exact ⟨hr, id⟩
  · split
    · omega
    · omega

theorem offerIndex_ringInv (a : Access) (hs : RingInv s) : RingInv (offerIndex a s) := by
  unfold offerIndex
  split
  · split
    · rename_i v _
      obtain ⟨hlt, hfree⟩ := acceptedIndex_sound v hs.write hs.read
      exact ⟨hs.write, hlt, hs.epoch, hs.single, fun l hl hr => hfree (hs.free l hl hr)⟩
    · exact hs
  · exact hs

theorem Work.ringInv (h : Work c s t) (hs : RingInv s) : RingInv t := by
  have hkept : RingKept s t → RingInv t := fun h => h.inv hs
  cases h with
  | offer a => exact offerIndex_ringInv a hs
  | aside h => exact hkept (h.ring rfl rfl)
  | prover h =>
    obtain ⟨_, _, _, rfl⟩ := h.only
    exact hkept {}
  | sideEnd r h => exact hkept (h.rest.ring rfl rfl)
  | regionFree i r _ => exact hkept ((freeRegion_kept i r s).ring rfl rfl)
  | regionDefine f i _ _ => exact hkept ((installRegion_kept i _ s).ring rfl rfl)
  | usersRestore us retired meters _ => exact hkept ((restoreUsers_kept us retired meters s).ring rfl rfl)
  | sideAdmit f i j u _ _ _ => exact hkept ((admitSide_kept _ s).ring rfl rfl)
  | userOpen i u _ _ => exact hkept ((warningTest_kept i _).ring rfl rfl)
  | userSet i u u' _ _ => exact hkept ((warningTest_kept i _).ring rfl rfl)
  | complete f r v => exact hkept ((completeParked_kept f r v s).ring rfl rfl)
  | supersede e _ => exact hkept ((supersede_kept e s).ring rfl rfl)
  | store | job | jobOpen | jobFree | refusals | sources | side | strict | userState | userRemove | restoreOpen
  | restoreClose | park | queue => exact hkept {}

theorem returnInFlight_eq (s : State) : s.returnInFlight = s.port.own.any OwnLine.isReturn := rfl

theorem issueReturn_ringInv (hs : RingInv s) : RingInv (issueReturn s) := by
  unfold issueReturn
  split
  · exact hs
  · rename_i h
    simp only [Bool.or_eq_true, not_or, Bool.not_eq_true] at h
    obtain ⟨⟨-, hflight⟩, hfull⟩ := h
    have hnone : ∀ l ∈ s.port.own, l.isReturn = false := by
      rw [returnInFlight_eq] at hflight
      simpa using List.any_eq_false.mp hflight
    have hfree : (s.writer.writeIndex + 1) % 448 ≠ s.writer.readIndex := of_decide_eq_false hfull
    split
    · exact hs
    · refine ⟨hs.write, hs.read, hs.epoch, ?_, fun _ _ _ => hfree⟩
      have hzero : s.port.own.countP OwnLine.isReturn = 0 := List.countP_eq_zero.mpr fun l hl => by simp [hnone l hl]
      simp [issueOwn, List.countP_append, hzero, OwnLine.isReturn]

theorem grantOwn_ringInv (hs : RingInv s) : RingInv (grantOwn s) :=
  ⟨hs.write, hs.read, hs.epoch, (List.Sublist.countP_le (List.tail_sublist _)).trans hs.single,
    fun l hl => hs.free l (List.mem_of_mem_tail hl)⟩

/-- The accepted return was the only one on its way. -/
theorem returnAccept_ringInv {o : Owner} {l : Line} {rest : List OwnLine} (h : s.port.own = .ret o l :: rest)
    (hs : RingInv s) : RingInv (grantOwn
      { s with writer := { s.writer with writeIndex := (s.writer.writeIndex + 1) % ringSlots } }) := by
  have hzero : rest.countP OwnLine.isReturn = 0 := by
    have hsingle := hs.single
    rw [h, List.countP_cons_of_pos (by rfl)] at hsingle
    omega
  have hnone : ∀ x ∈ rest, ¬ x.isReturn = true := List.countP_eq_zero.mp hzero
  refine ⟨Nat.mod_lt _ (by decide), hs.read, hs.epoch, ?_, fun x hx hr => ?_⟩
  · simp [grantOwn, h, hzero]
  · replace hx : x ∈ s.port.own.tail := hx
    rw [h] at hx
    exact absurd hr (hnone x hx)

theorem resetRing_ringInv (h : ∀ l ∈ s.port.own, l.isReturn = false) : RingInv (resetRing s) := by
  have hnone : ∀ l ∈ (resetRing s).port.own, l.isReturn = false := by
    intro l hl
    replace hl : l ∈ s.port.own ++ [.header, .summary] := hl
    simp only [List.mem_append, List.mem_cons, List.not_mem_nil, or_false] at hl
    obtain hl | rfl | rfl := hl
    · exact h l hl
    · rfl
    · rfl
  have hzero : (resetRing s).port.own.countP OwnLine.isReturn = 0 :=
    List.countP_eq_zero.mpr fun l hl => by simp [hnone l hl]
  refine ⟨Nat.zero_lt_succ _, Nat.zero_lt_succ _, Nat.mod_lt _ (by decide), by omega, fun l hl hr => ?_⟩
  simp [hnone l hl] at hr

theorem Change.ringInv (h : Change c s t) (hs : RingInv s) : RingInv t := by
  have hkept : RingKept s t → RingInv t := fun h => h.inv hs
  cases h with
  | work h => exact h.ringInv hs
  | sidesEmpty h => exact hkept (h.rest.ring rfl rfl)
  | sideTold =>
    refine hkept ?_
    unfold tellSideList
    split
    · exact {}
    · split
      · exact {}
      · split
        · exact {}
        · exact {}
  | toldResult =>
    refine hkept ?_
    unfold tellOrderTaker
    split
    · exact {}
    · exact {}
  | drain =>
    refine hkept ?_
    unfold noteDrain
    split
    · exact {}
    · split
      · exact {}
      · exact {}
  | grantOwn => exact grantOwn_ringInv hs
  | returnAccept h =>
    obtain ⟨o, l, rest, h⟩ := h
    exact returnAccept_ringInv h hs
  | returnIssue => exact issueReturn_ringInv hs
  | ringReset h => exact resetRing_ringInv h
  | sideStart | dequeue | hold | move | exported | enterWait | tablesReset => exact hkept {}

theorem ringInv_of_reset (hport : s.port = .reset) (hwriter : s.writer = .reset) : RingInv s := by
  constructor <;> simp [hport, hwriter, Port.reset, ReturnWriter.reset, OwnLine.isReturn]

/-- Settles O9: the writer issues a return only into a free slot while none is on its way, and the read-index copy
never passes the write index. -/
theorem stepKeepsTheRingSound : Obligations.StepKeepsTheRingSound :=
  step_keeps (fun _ _ hs => ⟨hs.write, hs.read, hs.epoch, hs.single, hs.free⟩)
    (fun _ _ _ _ => ringInv_of_reset rfl rfl) (fun _ _ _ h => h.ringInv)

end Sys2Proof.Machine
end

section

/-! PROOFS. Every step keeps the region map disjoint and the bound-region counts exact (R10, R32). -/

namespace Sys2Proof.Machine

variable {c : Instr} {s t u : State}

/-! ### The region map -/

/-- Every region of `t` stands in `s` with the same lines and kind. -/
structure MapShrinks (s t : State) : Prop where
  memLines : t.classifier.memLines = s.classifier.memLines := by rfl
  controlBase : t.classifier.controlBase = s.classifier.controlBase := by rfl
  regions : ∀ i : Fin 32, ∀ r ∈ t.classifier.regions[i], ∃ x ∈ s.classifier.regions[i],
    r.base = x.base ∧ r.size = x.size ∧ r.kind = x.kind

theorem mapShrinks_of_eq (h : t.classifier = s.classifier) : MapShrinks s t :=
  ⟨by rw [h], by rw [h], fun i r hr => ⟨r, h ▸ hr, rfl, rfl, rfl⟩⟩

theorem mapShrinks_of_empty (hm : t.classifier.memLines = s.classifier.memLines)
    (hc : t.classifier.controlBase = s.classifier.controlBase)
    (h : t.classifier.regions = Vector.replicate 32 none) : MapShrinks s t :=
  ⟨hm, hc, fun i r hr => by simp [h] at hr⟩

theorem MapShrinks.regionInv (h : MapShrinks s t) (hs : RegionInv s) : RegionInv t := by
  constructor
  · intro i r hr
    obtain ⟨x, hx, hb, hsize, -⟩ := h.regions i r hr
    rw [hb, hsize, h.memLines]
    exact hs.inside i x hx
  · intro i r hr
    obtain ⟨x, hx, hb, hsize, -⟩ := h.regions i r hr
    rw [hb, hsize, h.controlBase]
    exact hs.control i x hx
  · intro i j hij a ha b hb
    obtain ⟨x, hx, hxb, hxs, -⟩ := h.regions i a ha
    obtain ⟨y, hy, hyb, hys, -⟩ := h.regions j b hb
    unfold Region.apart
    rw [hxb, hxs, hyb, hys]
    exact hs.apart i j hij x hx y hy
  · intro i r hr
    obtain ⟨x, hx, -, hsize, hk⟩ := h.regions i r hr
    unfold Region.bandGood
    rw [hk, hsize]
    exact hs.good i x hx
  · intro i j a ha b hb
    obtain ⟨x, hx, -, -, hxk⟩ := h.regions i a ha
    obtain ⟨y, hy, -, -, hyk⟩ := h.regions j b hb
    unfold sameGeometry
    rw [hxk, hyk]
    exact hs.same i j x hx y hy

theorem orphanRegion_lines (i : Fin 16) (r : Region) :
    (orphanRegion i r).base = r.base ∧ (orphanRegion i r).size = r.size ∧ (orphanRegion i r).kind = r.kind := by
  unfold orphanRegion
  split
  · exact ⟨rfl, rfl, rfl⟩
  · exact ⟨rfl, rfl, rfl⟩

/-- What stands in a slot of a table after one slot is replaced. -/
theorem mem_put {α : Type} {n : Nat} {v : Vector (Option α) n} {i j : Fin n} {x : Option α} {a : α}
    (h : a ∈ (put v i x)[j]) : i = j ∧ x = some a ∨ i ≠ j ∧ a ∈ v[j] := by
  by_cases hij : i = j
  · subst hij
    rw [put_same] at h
    exact .inl ⟨rfl, h⟩
  · rw [put_other _ _ _ _ hij] at h
    exact .inr ⟨hij, h⟩

theorem freeRegion_classifier (i : Fin 32) (r : Region) (s : State) : (freeRegion i r s).classifier =
    { s.classifier with regions := put s.classifier.regions i none } := by
  unfold freeRegion
  dsimp only
  split
  · rfl
  · rfl

theorem installRegion_classifier (i : Fin 32) (r : Region) (s : State) : (installRegion i r s).classifier =
    { s.classifier with
      regions := put s.classifier.regions i (some r), nextUid := s.classifier.nextUid + 1 } := by
  unfold installRegion
  dsimp only
  split
  · rfl
  · rfl

/-- The checks of REGION DEFINE that did not fail (R10). -/
structure FormGood (f : RegionForm) (i : Fin 32) (s : State) : Prop where
  badArg : f.badArg = false
  free : s.classifier.regions[i] = none
  range : f.base + f.size ≤ s.classifier.memLines
  overlap : f.overlaps s.classifier = false
  job : f.tag.isSome → (f.jobSlot s).isSome
  active : f.jobNotActive s = false
  geometry : f.kind = 1 → goodGeometry f.depth f.rowLength f.size = true
  mismatch : f.kind = 1 → f.mismatches s.classifier = false

theorem formGood_of_checks {f : RegionForm} {i : Fin 32} (hi : indexOf 32 f.slot = some i)
    (h : firstFailure (f.checks s) = none) : FormGood f i s := by
  unfold RegionForm.checks at h
  obtain ⟨hbad, h⟩ := firstFailure_cons h
  obtain ⟨hfree, h⟩ := firstFailure_cons h
  obtain ⟨hrange, h⟩ := firstFailure_cons h
  obtain ⟨hoverlap, h⟩ := firstFailure_cons h
  obtain ⟨hjob, h⟩ := firstFailure_cons h
  obtain ⟨hactive, h⟩ := firstFailure_cons h
  obtain ⟨hgeometry, h⟩ := firstFailure_cons h
  obtain ⟨hmismatch, -⟩ := firstFailure_cons h
  rw [hi] at hfree
  refine ⟨hbad, by simpa using hfree, by simpa using hrange, hoverlap, fun ht => ?_, hactive, fun hk => ?_, fun hk => ?_⟩
  · simpa [ht] using hjob
  · simpa [hk] using hgeometry
  · simpa [hk] using hmismatch

theorem rangesMeet_false {a b x y : Nat} (h : rangesMeet a b x y = false) : a + b ≤ x ∨ x + y ≤ a := by
  simp only [rangesMeet, Bool.and_eq_false_iff, decide_eq_false_iff_not] at h
  omega

theorem mem_toList_of_slot {α : Type} {n : Nat} {v : Vector (Option α) n} {j : Fin n} {a : α} (h : a ∈ v[j]) :
    some a ∈ v.toList := by
  rw [← show v[j] = some a from h, Vector.mem_toList_iff]
  exact Vector.getElem_mem j.isLt

/-- The region that is defined shares no line with one in use (check 4 of R10). -/
theorem FormGood.apart {f : RegionForm} {i : Fin 32} (h : FormGood f i s) {j : Fin 32} {r : Region}
    (hr : r ∈ s.classifier.regions[j]) : f.base + f.size ≤ r.base ∨ r.base + r.size ≤ f.base := by
  have hoverlap := h.overlap
  simp only [RegionForm.overlaps, Bool.or_eq_false_iff, List.any_eq_false] at hoverlap
  have hmeet := hoverlap.2 (some r) (mem_toList_of_slot hr)
  exact rangesMeet_false (by simpa using hmeet)

/-- A band that is defined has the geometry of every band of its plane in use (check 8 of R10). -/
theorem FormGood.same {f : RegionForm} {i : Fin 32} (h : FormGood f i s) {j : Fin 32} {r : Region}
    (hr : r ∈ s.classifier.regions[j]) : sameGeometry (f.record s) r ∧ sameGeometry r (f.record s) := by
  unfold sameGeometry RegionForm.record
  by_cases hk : f.kind = 1
  · have hmismatch := h.mismatch hk
    have hbad := h.badArg
    simp only [RegionForm.mismatches, List.any_eq_false] at hmismatch
    simp only [RegionForm.badArg, hk, decide_true, Bool.true_and, Bool.or_eq_false_iff, decide_eq_false_iff_not]
      at hbad
    have hone := hmismatch (some r) (mem_toList_of_slot hr)
    obtain ⟨uid, state, base, size, kind, job, refusals⟩ := r
    cases kind with
    | priv => simp [hk]
    | band p d n =>
      have hplane : f.plane < 4 := by omega
      have hval : (Fin.ofNat 4 f.plane).val = f.plane := Nat.mod_eq_of_lt hplane
      simp only [Bool.not_eq_true, Bool.and_eq_false_iff, Bool.or_eq_false_iff, decide_eq_false_iff_not,
        Decidable.not_not] at hone
      simp only [hk, if_true]
      constructor
      · rintro rfl
        exact (hone.resolve_left fun hn => hn hval).imp Eq.symm Eq.symm
      · rintro rfl
        exact hone.resolve_left fun hn => hn hval
  · simp only [hk, if_false]
    cases r.kind <;> exact ⟨trivial, trivial⟩

/-- The record that REGION DEFINE makes fits the map (R10). -/
theorem installRegion_regionInv {f : RegionForm} {i : Fin 32} (h : FormGood f i s) (hs : RegionInv s) :
    RegionInv (installRegion i (f.record s) s) := by
  have hbad := h.badArg
  have hcontrol := h.overlap
  simp only [RegionForm.badArg, Bool.or_eq_false_iff, decide_eq_false_iff_not] at hbad
  simp only [RegionForm.overlaps, Bool.or_eq_false_iff] at hcontrol
  have hsize : 0 < (f.record s).size := Nat.pos_of_ne_zero hbad.1.1.2
  constructor <;> rw [installRegion_classifier] <;> dsimp only
  case inside =>
    intro j r hr
    obtain ⟨-, hr⟩ | ⟨-, hr⟩ := mem_put hr
    · obtain rfl := Option.some.inj hr
      exact ⟨hsize, h.range⟩
    · exact hs.inside j r hr
  case control =>
    intro j r hr
    obtain ⟨-, hr⟩ | ⟨-, hr⟩ := mem_put hr
    · obtain rfl := Option.some.inj hr
      exact rangesMeet_false hcontrol.1
    · exact hs.control j r hr
  case apart =>
    intro j k hjk a ha b hb
    obtain ⟨hj, ha'⟩ | ⟨-, ha'⟩ := mem_put ha
    · obtain ⟨hk, -⟩ | ⟨-, hb'⟩ := mem_put hb
      · exact absurd (hj.symm.trans hk) hjk
      · obtain rfl := Option.some.inj ha'
        exact h.apart hb'
    · obtain ⟨-, hb'⟩ | ⟨-, hb'⟩ := mem_put hb
      · obtain rfl := Option.some.inj hb'
        exact (h.apart ha').symm
      · exact hs.apart j k hjk a ha' b hb'
  case good =>
    intro j r hr
    obtain ⟨-, hr⟩ | ⟨-, hr⟩ := mem_put hr
    · obtain rfl := Option.some.inj hr
      unfold Region.bandGood RegionForm.record
      by_cases hk : f.kind = 1
      · simp only [hk, if_true]
        exact h.geometry hk
      · simp [hk]
    · exact hs.good j r hr
  case same =>
    intro j k a ha b hb
    obtain ⟨-, ha'⟩ | ⟨-, ha'⟩ := mem_put ha
    · obtain rfl := Option.some.inj ha'
      obtain ⟨-, hb'⟩ | ⟨-, hb'⟩ := mem_put hb
      · obtain rfl := Option.some.inj hb'
        unfold sameGeometry
        cases (f.record s).kind with
        | priv => trivial
        | band p d n => exact fun _ => ⟨rfl, rfl⟩
      · exact (h.same hb').1
    · obtain ⟨-, hb'⟩ | ⟨-, hb'⟩ := mem_put hb
      · obtain rfl := Option.some.inj hb'
        exact (h.same ha').2
      · exact hs.same j k a ha' b hb'

theorem Work.regionInv (h : Work c s t) (hs : RegionInv s) : RegionInv t := by
  have hshrinks : MapShrinks s t → RegionInv t := fun h => h.regionInv hs
  have hkept : t.classifier = s.classifier → RegionInv t := fun h => hshrinks (mapShrinks_of_eq h)
  cases h with
  | regionDefine f i hi h => exact installRegion_regionInv (formGood_of_checks hi h) hs
  | regionFree i r _ =>
    have hfree := freeRegion_classifier i r s
    refine hshrinks ⟨by rw [hfree], by rw [hfree], fun j x hx => ?_⟩
    rw [hfree] at hx
    obtain ⟨-, hx⟩ | ⟨-, hx⟩ := mem_put hx
    · simp at hx
    · exact ⟨x, hx, rfl, rfl, rfl⟩
  | jobFree i =>
    refine hshrinks ⟨rfl, rfl, fun j r hr => ?_⟩
    obtain ⟨x, hx, rfl⟩ : ∃ x, s.classifier.regions[j] = some x ∧ orphanRegion i x = r := by simpa using hr
    exact ⟨x, hx, orphanRegion_lines i x⟩
  | refusals i n =>
    refine hshrinks ⟨rfl, rfl, fun j r hr => ?_⟩
    obtain ⟨hj, hr'⟩ | ⟨-, hr'⟩ := mem_put hr
    · obtain ⟨x, hx, rfl⟩ := Option.map_eq_some_iff.mp hr'
      exact ⟨x, hj ▸ hx, rfl, rfl, rfl⟩
    · exact ⟨r, hr', rfl, rfl, rfl⟩
  | sources v => exact hshrinks ⟨rfl, rfl, fun j r hr => ⟨r, hr, rfl, rfl, rfl⟩⟩
  | aside h => exact hkept h.classifier
  | prover h =>
    obtain ⟨_, _, _, rfl⟩ := h.only
    exact hkept rfl
  | sideEnd r h => exact hkept h.rest.classifier
  | usersRestore us retired meters _ => exact hkept (restoreUsers_kept us retired meters s).classifier
  | sideAdmit f i j u _ _ _ => exact hkept (admitSide_kept _ s).classifier
  | userOpen i u _ _ => exact hkept (warningTest_kept i _).classifier
  | userSet i u u' _ _ => exact hkept (warningTest_kept i _).classifier
  | complete f r v => exact hkept (completeParked_kept f r v s).classifier
  | supersede e _ => exact hkept (supersede_kept e s).classifier
  | offer a => exact hkept (offerIndex_kept a s).classifier
  | store | job | jobOpen | side | strict | userState | userRemove | restoreOpen | restoreClose | park | queue =>
    exact hkept rfl

theorem tellSideList_classifier (s : State) : (tellSideList s).classifier = s.classifier := by
  unfold tellSideList
  split
  · rfl
  · split
    · rfl
    · split
      · rfl
      · rfl

theorem tellOrderTaker_classifier (s : State) : (tellOrderTaker s).classifier = s.classifier := by
  unfold tellOrderTaker
  split
  · rfl
  · rfl

theorem noteDrain_classifier (s : State) : (noteDrain s).classifier = s.classifier := by
  unfold noteDrain
  split
  · rfl
  · split
    · rfl
    · rfl

theorem issueReturn_classifier (s : State) : (issueReturn s).classifier = s.classifier :=
  congrArg Ledger.classifier (issueReturn_ledger s)

theorem Change.regionInv (h : Change c s t) (hs : RegionInv s) : RegionInv t := by
  have hkept : t.classifier = s.classifier → RegionInv t := fun h => (mapShrinks_of_eq h).regionInv hs
  cases h with
  | work h => exact h.regionInv hs
  | tablesReset sequence => exact (mapShrinks_of_empty (s := s) (t := resetTables sequence s) rfl rfl rfl).regionInv hs
  | sidesEmpty h => exact hkept h.rest.classifier
  | sideTold => exact hkept (tellSideList_classifier s)
  | toldResult => exact hkept (tellOrderTaker_classifier s)
  | drain => exact hkept (noteDrain_classifier s)
  | returnIssue => exact hkept (issueReturn_classifier s)
  | sideStart | dequeue | hold | move | exported | enterWait | grantOwn | returnAccept | ringReset => exact hkept rfl

theorem regionInv_of_empty (h : s.classifier.regions = Vector.replicate 32 none) : RegionInv s := by
  constructor <;> intro i <;> simp [h]

/-- Settles O10: REGION DEFINE checks a new region against the map, and every other change leaves the regions their
lines and kinds or takes them away. -/
theorem stepKeepsTheRegionMapDisjoint : Obligations.StepKeepsTheRegionMapDisjoint :=
  step_keeps (fun s rest hs => (mapShrinks_of_eq (s := s) (t := { s with pending := rest }) rfl).regionInv hs)
    (fun _ _ _ _ => regionInv_of_empty rfl) (fun _ _ _ h => h.regionInv)

end Sys2Proof.Machine
end

section

/-! PROOFS. Every step keeps each job's bound-region count equal to its LIVE regions (R32). -/

namespace Sys2Proof.Machine

variable {c : Instr} {s t u : State}

/-- The slot holds a LIVE region that is bound to job slot `k`. -/
def boundTo (k : Fin 16) (x : Option Region) : Bool :=
  match x with
  | some r => decide (r.state = .live) && decide (r.job = some k)
  | none => false

theorem boundRegions_eq (k : Fin 16) (v : Vector (Option Region) 32) :
    boundRegions k v = v.toList.countP (boundTo k) := rfl

/-- One slot of the map is replaced: what it held leaves the count, and what it holds joins it. -/
theorem boundRegions_put (k : Fin 16) (v : Vector (Option Region) 32) (i : Fin 32) (x : Option Region) :
    boundRegions k (put v i x) + (boundTo k v[i]).toNat = boundRegions k v + (boundTo k x).toNat := by
  have hlt : i.val < v.toList.length := by simp
  have hold : (boundTo k v[i]).toNat ≤ v.toList.countP (boundTo k) := by
    cases h : boundTo k v[i] with
    | false => exact Nat.zero_le _
    | true => exact List.countP_pos_iff.mpr ⟨v[i], by simp, h⟩
  have hset : boundRegions k (put v i x) = (v.toList.set i.val x).countP (boundTo k) := by
    simp [boundRegions_eq, put, Vector.toList_set]
  have hget : v.toList[i.val] = v[i] := by simp
  have htoNat : ∀ b : Bool, (if b = true then 1 else 0) = b.toNat := by decide
  rw [hset, List.countP_set hlt, hget, boundRegions_eq, htoNat, htoNat]
  omega

theorem boundRegions_empty (k : Fin 16) : boundRegions k (Vector.replicate 32 none) = 0 := by
  simp [boundRegions_eq, boundTo]

/-- The job's bound-region count, 0 for a FREE slot. -/
def countOf (s : State) (k : Fin 16) : Nat := ((s.jobs[k]).map Job.regions).getD 0

/-- The law of the bound-region counts, slot by slot. -/
structure CountsBound (s : State) : Prop where
  count : ∀ k, countOf s k = boundRegions k s.classifier.regions

theorem bindingInv_iff : BindingInv s ↔ CountsBound s := by
  rw [show CountsBound s ↔ ∀ k, countOf s k = boundRegions k s.classifier.regions from ⟨CountsBound.count, .mk⟩]
  refine forall_congr' fun k => ?_
  unfold countOf
  cases s.jobs[k] with
  | none => exact eq_comm
  | some j => exact Iff.rfl

/-- Counts and bindings stay. -/
structure BindingKept (s t : State) : Prop where
  count : ∀ k, countOf t k = countOf s k
  bound : ∀ k, boundRegions k t.classifier.regions = boundRegions k s.classifier.regions

theorem BindingKept.inv (h : BindingKept s t) (hs : CountsBound s) : CountsBound t :=
  CountsBound.mk fun k => by rw [h.count, h.bound, hs.count k]

theorem TablesKept.binding {x : State} (h : TablesKept x t) (hj : x.jobs = s.jobs)
    (hc : x.classifier = s.classifier) : BindingKept s t :=
  ⟨fun k => by unfold countOf; rw [h.jobs, hj], fun k => by rw [h.classifier, hc]⟩

theorem bindingKept_of_eq (hj : t.jobs = s.jobs) (hc : t.classifier = s.classifier) : BindingKept s t :=
  ⟨fun k => by unfold countOf; rw [hj], fun k => by rw [hc]⟩

theorem countOf_onJob (s : State) (i k : Fin 16) (f : Job → Job) :
    countOf (s.onJob i f) k = if i = k then ((s.jobs[k]).map fun j => (f j).regions).getD 0 else countOf s k := by
  unfold countOf State.onJob
  split
  · rename_i hik
    subst hik
    simp only [put_same, Option.map_map]
    rfl
  · rename_i hik
    simp only [put_other _ _ _ _ hik]

theorem countOf_onJob_kept {f : Job → Job} (h : ∀ j : Job, (f j).regions = j.regions) (s : State) (i k : Fin 16) :
    countOf (s.onJob i f) k = countOf s k := by
  unfold countOf
  rw [onJob_regions h]

theorem jobOpen_countsBound {i : Fin 16} {j : Job} (hfree : s.jobs[i] = none) (hj : j.regions = 0) (hs : CountsBound s) :
    CountsBound { s with jobs := put s.jobs i (some j) } := by
  refine BindingKept.inv (s := s) ⟨fun k => ?_, fun _ => rfl⟩ hs
  unfold countOf
  by_cases hik : i = k
  · subst hik
    simp only [put_same, hfree, Option.map_some, Option.map_none, hj, Option.getD_some, Option.getD_none]
  · simp only [put_other _ _ _ _ hik]

theorem boundTo_orphanRegion (i k : Fin 16) (x : Option Region) :
    boundTo k (x.map (orphanRegion i)) = (decide (i ≠ k) && boundTo k x) := by
  cases x with
  | none => simp [boundTo]
  | some r =>
    by_cases h : r.state = .live ∧ r.job = some i
    · by_cases hik : i = k
      · simp [boundTo, orphanRegion, h, hik]
      · simp [boundTo, orphanRegion, h, hik]
    · by_cases hik : i = k
      · subst hik
        have hnot := not_and.mp h
        simp [boundTo, orphanRegion, h]
        exact hnot
      · simp [boundTo, orphanRegion, h, hik]

theorem boundRegions_orphan (i k : Fin 16) (v : Vector (Option Region) 32) :
    boundRegions k (v.map fun x => x.map (orphanRegion i)) = if i = k then 0 else boundRegions k v := by
  have hmap : boundRegions k (v.map fun x => x.map (orphanRegion i)) =
      v.toList.countP fun x => decide (i ≠ k) && boundTo k x := by
    simp only [boundRegions_eq, Vector.toList_map, List.countP_map]
    exact congrArg (fun p => v.toList.countP p) (funext fun x => boundTo_orphanRegion i k x)
  rw [hmap]
  split
  · rename_i hik
    simp [hik]
  · rename_i hik
    simp [hik, boundRegions_eq]

theorem jobFree_countsBound (i : Fin 16) (hs : CountsBound s) : CountsBound
    { s with
      classifier := { s.classifier with
        regions := s.classifier.regions.map fun (x : Option Region) => x.map (orphanRegion i) }
      jobs := put s.jobs i none } := by
  refine CountsBound.mk fun k => ?_
  dsimp only
  rw [boundRegions_orphan]
  unfold countOf
  by_cases hik : i = k
  · subst hik
    simp only [put_same, if_true]
    rfl
  · simp only [put_other _ _ _ _ hik, hik, if_false]
    exact hs.count k

theorem jobWithTag_some {tag : Nat} {i : Fin 16} (h : s.jobWithTag tag = some i) :
    ∃ j, s.jobs[i] = some j ∧ j.tag = tag := by
  have htest := firstIndex_some h
  cases hj : s.jobs[i] with
  | none => simp [hj] at htest
  | some j => exact ⟨j, rfl, by simpa [hj] using htest⟩

theorem boundTo_some (k : Fin 16) (r : Region) :
    boundTo k (some r) = (decide (r.state = .live) && decide (r.job = some k)) := rfl

/-- A region that takes a free slot joins the count of the job it is bound to (R10, R32). -/
theorem installRegion_countsBound {i : Fin 32} {r : Region} (hfree : s.classifier.regions[i] = none)
    (hlive : r.state = .live) (hjob : ∀ k, r.job = some k → (s.jobs[k]).isSome) (hs : CountsBound s) :
    CountsBound (installRegion i r s) := by
  refine CountsBound.mk fun k => ?_
  have hput := boundRegions_put k s.classifier.regions i (some r)
  have hinv := hs.count k
  rw [installRegion_classifier]
  dsimp only
  simp only [hfree, boundTo_some, hlive, decide_true, Bool.true_and] at hput
  unfold installRegion
  dsimp only
  cases hr : r.job with
  | none =>
    simp only [hr, boundTo, reduceCtorEq, decide_false, Bool.toNat_false] at hput
    change countOf s k = _
    omega
  | some j =>
    rw [countOf_onJob]
    by_cases hjk : j = k
    · subst hjk
      obtain ⟨x, hx⟩ := Option.isSome_iff_exists.mp (hjob j hr)
      have hcount : countOf s j = x.regions := by
        unfold countOf
        rw [hx]
        rfl
      simp only [hr, boundTo, decide_true, Bool.toNat_false, Bool.toNat_true] at hput
      simp only [if_true, hx, Option.map_some, Option.getD_some]
      omega
    · have hne : ¬ (some j = some k) := fun h => hjk (Option.some.inj h)
      simp only [hr, boundTo, hne, decide_false, Bool.toNat_false] at hput
      simp only [hjk, if_false]
      change countOf s k = _
      omega

/-- A region that leaves the map leaves the count of the job it is bound to (R11, R32). -/
theorem freeRegion_countsBound {i : Fin 32} {r : Region} (hr : s.classifier.regions[i] = some r)
    (hs : CountsBound s) : CountsBound (freeRegion i r s) := by
  refine CountsBound.mk fun k => ?_
  have hput := boundRegions_put k s.classifier.regions i none
  have hinv := hs.count k
  rw [freeRegion_classifier]
  dsimp only
  rw [hr, boundTo_some, show boundTo k none = false from rfl, Bool.toNat_false] at hput
  unfold freeRegion
  dsimp only
  split
  · rename_i j hlive hjob
    rw [countOf_onJob]
    by_cases hjk : j = k
    · subst hjk
      simp only [hlive, hjob, decide_true, Bool.and_self, Bool.toNat_true] at hput
      unfold countOf at hinv
      simp only [if_true]
      cases hx : s.jobs[j] with
      | none =>
        simp only [hx, Option.map_none, Option.getD_none] at hinv
        omega
      | some x =>
        simp only [hx, Option.map_some, Option.getD_some] at hinv ⊢
        omega
    · have hne : ¬ (some j = some k) := fun h => hjk (Option.some.inj h)
      simp only [hjob, hne, decide_false, Bool.and_false, Bool.toNat_false] at hput
      simp only [hjk, if_false]
      change countOf s k = _
      omega
  · rename_i hnot
    have hnone : (decide (r.state = .live) && decide (r.job = some k)) = false := by
      by_contra h
      simp only [Bool.not_eq_false, Bool.and_eq_true, decide_eq_true_eq] at h
      exact hnot k h.1 h.2
    rw [hnone, Bool.toNat_false] at hput
    change countOf s k = _
    omega

theorem boundRegions_refusals (k : Fin 16) (i : Fin 32) (n : Nat) (v : Vector (Option Region) 32) :
    boundRegions k (put v i (v[i].map fun r => { r with refusals := n })) = boundRegions k v := by
  have hput := boundRegions_put k v i (v[i].map fun r => { r with refusals := n })
  have hsame : boundTo k (v[i].map fun r => { r with refusals := n }) = boundTo k v[i] := by
    cases v[i] with
    | none => rfl
    | some r => rfl
  rw [hsame] at hput
  omega

theorem Work.countsBound (h : Work c s t) (hs : CountsBound s) : CountsBound t := by
  have hkept : BindingKept s t → CountsBound t := fun h => h.inv hs
  cases h with
  | regionDefine f i hi h =>
    have hgood := formGood_of_checks hi h
    refine installRegion_countsBound hgood.free rfl (fun k hk => ?_) hs
    obtain ⟨n, -, hn⟩ := Option.bind_eq_some_iff.mp hk
    obtain ⟨j, hj, -⟩ := jobWithTag_some hn
    rw [hj]
    rfl
  | regionFree i r hr => exact freeRegion_countsBound hr hs
  | jobFree i => exact jobFree_countsBound i hs
  | jobOpen i j hfree hj => exact jobOpen_countsBound hfree hj hs
  | job i f hf => exact hkept ⟨countOf_onJob_kept hf s i, fun _ => rfl⟩
  | refusals i n => exact hkept ⟨fun _ => rfl, fun k => boundRegions_refusals k i n _⟩
  | aside h => exact hkept (h.binding rfl rfl)
  | prover h =>
    obtain ⟨_, _, _, rfl⟩ := h.only
    exact hkept ⟨fun _ => rfl, fun _ => rfl⟩
  | sideEnd r h => exact hkept (h.rest.binding rfl rfl)
  | usersRestore us retired meters _ =>
    exact hkept ((restoreUsers_kept us retired meters s).binding rfl rfl)
  | sideAdmit f i j u _ _ _ =>
    have hadmit := admitSide_kept (newSide f i j u s) s
    refine hkept ⟨fun k => ?_, fun k => by rw [hadmit.classifier]⟩
    unfold admitSide
    dsimp only
    rw [countOf_onJob_kept (by exact fun _ => rfl)]
    unfold countOf
    rw [(warningTest_kept _ _).jobs]
    rfl
  | userOpen i u _ _ => exact hkept ((warningTest_kept i _).binding rfl rfl)
  | userSet i u u' _ _ => exact hkept ((warningTest_kept i _).binding rfl rfl)
  | complete f r v => exact hkept ((completeParked_kept f r v s).binding rfl rfl)
  | supersede e _ => exact hkept ((supersede_kept e s).binding rfl rfl)
  | offer a => exact hkept ((offerIndex_kept a s).binding rfl rfl)
  | store | sources | side | strict | userState | userRemove | restoreOpen | restoreClose | park | queue =>
    exact hkept ⟨fun _ => rfl, fun _ => rfl⟩

theorem countsBound_of_empty (hj : s.jobs = Vector.replicate 16 none)
    (hr : s.classifier.regions = Vector.replicate 32 none) : CountsBound s := by
  refine CountsBound.mk fun k => ?_
  rw [hr, boundRegions_empty]
  unfold countOf
  simp [hj]

theorem tellSideList_jobs (s : State) : (tellSideList s).jobs = s.jobs := by
  unfold tellSideList
  split
  · rfl
  · split
    · rfl
    · split
      · rfl
      · rfl

theorem tellOrderTaker_jobs (s : State) : (tellOrderTaker s).jobs = s.jobs := by
  unfold tellOrderTaker
  split
  · rfl
  · rfl

theorem noteDrain_jobs (s : State) : (noteDrain s).jobs = s.jobs := by
  unfold noteDrain
  split
  · rfl
  · split
    · rfl
    · rfl

theorem issueReturn_jobs (s : State) : (issueReturn s).jobs = s.jobs := congrArg Ledger.jobs (issueReturn_ledger s)

theorem Change.countsBound (h : Change c s t) (hs : CountsBound s) : CountsBound t := by
  have hkept : BindingKept s t → CountsBound t := fun h => h.inv hs
  cases h with
  | work h => exact h.countsBound hs
  | tablesReset => exact countsBound_of_empty rfl rfl
  | sidesEmpty h =>
    refine hkept ⟨fun k => ?_, fun k => by rw [h.rest.classifier]⟩
    unfold countOf
    rw [h.regions]
  | sideTold => exact hkept (bindingKept_of_eq (tellSideList_jobs s) (tellSideList_classifier s))
  | toldResult => exact hkept (bindingKept_of_eq (tellOrderTaker_jobs s) (tellOrderTaker_classifier s))
  | drain => exact hkept (bindingKept_of_eq (noteDrain_jobs s) (noteDrain_classifier s))
  | returnIssue => exact hkept (bindingKept_of_eq (issueReturn_jobs s) (issueReturn_classifier s))
  | sideStart | dequeue | hold | move | exported | enterWait | grantOwn | returnAccept | ringReset =>
    exact hkept (bindingKept_of_eq rfl rfl)

/-- Settles O11: the count of a job moves with each LIVE region that is bound to its slot or leaves it. -/
theorem stepKeepsBoundRegionCounts : Obligations.StepKeepsBoundRegionCounts :=
  fun s t hs h => bindingInv_iff.mpr (step_keeps
    (fun s rest hs => (bindingKept_of_eq (s := s) (t := { s with pending := rest }) rfl rfl).inv hs)
    (fun _ _ _ _ => countsBound_of_empty rfl rfl) (fun _ _ _ h => h.countsBound) s t (bindingInv_iff.mp hs) h)

end Sys2Proof.Machine
end

section

/-! PROOFS. Every step keeps the bounds of the order taker's lists (R166, R169, R171). -/

namespace Sys2Proof.Machine

variable {c : Instr} {s t u : State}

/-- The bounds of the order taker's lists as they hold within an event too, in which completed entries may wait while
the holding list has room. -/
structure ListsBounded (o : OrderTaker) : Prop where
  queue : o.queue.length ≤ 8
  waitQueue : o.resetWait.isSome → o.queue.length ≤ 7
  holding : o.holding.length ≤ 8
  parked : o.parked.length + o.completed.length ≤ 8

theorem OrdersInv.bounded (h : OrdersInv s) : ListsBounded s.orders := ⟨h.queue, h.waitQueue, h.holding, h.parked⟩

theorem completeParked_bounded (f : ParkObject → Bool) (r : Option Reason) (v : List Val)
    (h : ListsBounded s.orders) : ListsBounded (s.completeParked f r v).orders := by
  unfold State.completeParked
  split
  · exact h
  · rename_i p hp
    refine ⟨h.queue, h.waitQueue, h.holding, ?_⟩
    have hmem := List.mem_of_find?_eq_some hp
    have hlength := List.length_eraseP_of_mem hmem (List.find?_some hp)
    have hpos := List.length_pos_of_mem hmem
    have hparked := h.parked
    simp only [List.length_append, List.length_singleton]
    rw [hlength]
    omega

theorem Work.bounded (h : Work c s t) (hc : c ≠ .metersApply) (hs : ListsBounded s.orders) :
    ListsBounded t.orders := by
  have hkept : t.orders = s.orders → ListsBounded t.orders := fun h => h ▸ hs
  cases h with
  | complete f r v => exact completeParked_bounded f r v hs
  | park e o hfull =>
    refine ⟨hs.queue, hs.waitQueue, hs.holding, ?_⟩
    have hroom : ¬ 8 ≤ s.orders.parked.length + s.orders.completed.length := of_decide_eq_false hfull
    simp only [State.park, List.length_append, List.length_singleton]
    omega
  | queue e hroom hwait =>
    refine ⟨?_, fun h => by simp [hwait] at h, hs.holding, hs.parked⟩
    simp only [List.length_append, List.length_singleton]
    omega
  | supersede e hc' => exact absurd hc' hc
  | aside h => exact hkept h.orders
  | prover h =>
    obtain ⟨_, _, _, rfl⟩ := h.only
    exact hs
  | sideEnd r h => exact hkept h.rest.orders
  | regionFree i r _ => exact hkept (freeRegion_kept i r s).orders
  | regionDefine f i _ _ => exact hkept (installRegion_kept i _ s).orders
  | usersRestore us retired meters _ => exact hkept (restoreUsers_kept us retired meters s).orders
  | sideAdmit f i j u _ _ _ => exact hkept (admitSide_kept _ s).orders
  | userOpen i u _ _ => exact hkept (warningTest_kept i _).orders
  | userSet i u u' _ _ => exact hkept (warningTest_kept i _).orders
  | offer a => exact hkept (offerIndex_kept a s).orders
  | store | job | jobOpen | jobFree | refusals | sources | side | strict | userState | userRemove | restoreOpen
  | restoreClose => exact hs

theorem moveCompleted_bounded (h : ListsBounded s.orders) : ListsBounded (moveCompleted s).orders := by
  have hholding := h.holding
  have hparked := h.parked
  refine ⟨h.queue, h.waitQueue, ?_, ?_⟩
  · simp only [moveCompleted, List.length_append, List.length_take]
    omega
  · simp only [moveCompleted, List.length_drop]
    omega

/-- A completed entry that is left waits because the holding list is full (R171). -/
theorem moveCompleted_completed (h : s.orders.holding.length ≤ 8) :
    (moveCompleted s).orders.completed = [] ∨ (moveCompleted s).orders.holding.length = 8 := by
  simp only [moveCompleted, List.drop_eq_nil_iff, List.length_append, List.length_take]
  omega

theorem noteDrain_bounded (h : ListsBounded s.orders) : ListsBounded (noteDrain s).orders := by
  unfold noteDrain
  split
  · exact h
  · rename_i w hw
    split
    · exact ⟨h.queue, fun _ => h.waitQueue (by simp [hw]), h.holding, h.parked⟩
    · exact h

theorem tellSideList_orders (s : State) : (tellSideList s).orders = s.orders := by
  unfold tellSideList
  split
  · rfl
  · split
    · rfl
    · split
      · rfl
      · rfl

theorem Change.bounded (h : Change c s t) (hc : c ≠ .metersApply) (hs : ListsBounded s.orders) :
    ListsBounded t.orders := by
  cases h with
  | work h => exact h.bounded hc hs
  | dequeue e rest hq =>
    have hqueue := hs.queue
    rw [hq, List.length_cons] at hqueue
    refine ⟨by dsimp only; omega, fun _ => by dsimp only; omega, hs.holding, hs.parked⟩
  | enterWait e rest hq =>
    have hqueue := hs.queue
    rw [hq, List.length_cons] at hqueue
    exact ⟨by unfold enterResetWait; dsimp only; omega, fun _ => by unfold enterResetWait; dsimp only; omega,
      hs.holding, hs.parked⟩
  | hold e r v hroom =>
    refine ⟨hs.queue, hs.waitQueue, ?_, hs.parked⟩
    simp only [State.hold, List.length_append, List.length_singleton]
    omega
  | move => exact moveCompleted_bounded hs
  | toldResult =>
    unfold tellOrderTaker
    split
    · exact ⟨hs.queue, hs.waitQueue, hs.holding, hs.parked⟩
    · refine ⟨hs.queue, hs.waitQueue, ?_, hs.parked⟩
      have hholding := hs.holding
      simp only [List.length_tail]
      omega
  | exported => exact ⟨hs.queue, hs.waitQueue, hs.holding, by simpa using hs.parked⟩
  | drain => exact noteDrain_bounded hs
  | tablesReset sequence => exact ⟨by simp [resetTables], by simp [resetTables], by simp [resetTables], by simp [resetTables]⟩
  | sidesEmpty h => rw [h.rest.orders]; exact hs
  | sideTold => rw [tellSideList_orders]; exact hs
  | returnIssue => rw [issueReturn_orders]; exact hs
  | sideStart | grantOwn | returnAccept | ringReset => exact hs

theorem Changes.bounded (h : Changes c s t) (hc : c ≠ .metersApply) (hs : ListsBounded s.orders) :
    ListsBounded t.orders := by
  induction h with
  | refl => exact hs
  | tail _ hstep ih => exact hstep.bounded hc ih

/-- The lists as the end of an event leaves them, from the state in which completed entries move (R169, R171). -/
theorem ordersInv_of_moved (h : t.orders = (moveCompleted s).orders) (hs : ListsBounded s.orders) : OrdersInv t := by
  have hmoved := moveCompleted_bounded hs
  exact ⟨h ▸ hmoved.queue, h ▸ hmoved.waitQueue, h ▸ hmoved.holding, h ▸ hmoved.parked,
    h ▸ moveCompleted_completed hs.holding⟩

theorem concludeEvent_ordersInv (hc : c ≠ .metersApply) (b : State) (hs : ListsBounded s.orders) :
    OrdersInv (concludeEvent b s) := by
  have hbefore : ListsBounded (arbitrate (testEstimates b (tryReset (noteDrain s)))).orders := by
    rw [arbitrate_orders]
    exact (beforeArbitrate_changes (c := c) b s).bounded hc hs
  refine ordersInv_of_moved ?_ hbefore
  unfold concludeEvent
  dsimp only [evaluateAttention]
  rw [issueSummary_orders, issueHeader_orders, issueReturn_orders]

/-! ### METERS APPLY, which may complete an order while the list is full (R87) -/

theorem replaceSwitch_length (e : OrderEntry) (l : List ParkedOrder) : (replaceSwitch e l).length = l.length := by
  induction l with
  | nil => rfl
  | cons p l ih =>
    unfold replaceSwitch
    split
    · rfl
    · simp [ih]

/-- METERS APPLY without the now option leaves the lists bounded once completed entries have moved: the taker was not
paused, so the holding list has room for the one order that it may supersede. -/
theorem metersApply_ordersInv {e : OrderEntry} (hs : ListsBounded s.orders) (hwait : s.orders.resetWait = none)
    (hroom : s.orders.holding.length < 8) (hcompleted : s.orders.completed = []) (b : State) :
    OrdersInv (concludeEvent b (giveAnswer e (metersApply e s))) := by
  have hparked := hs.parked
  rw [hcompleted, List.length_nil] at hparked
  have hsuperseded : ∀ p : ParkedOrder, s.orders.parked.find? (fun p => p.object.isSwitch) = some p →
      OrdersInv (concludeEvent b (setPending e (supersede e s))) := by
    intro p hp
    have horders : (setPending e (supersede e s)).orders = { s.orders with
        parked := replaceSwitch e s.orders.parked
        completed := s.orders.completed ++ [p.result (some .superseded) []] } := by
      simp only [setPending, supersede, hp]
    have hmoved : (concludeEvent b (setPending e (supersede e s))).orders =
        (moveCompleted (setPending e (supersede e s))).orders := concludeEvent_orders b _ (by rw [horders]; exact hwait)
    have hend : (concludeEvent b (setPending e (supersede e s))).orders = { s.orders with
        parked := replaceSwitch e s.orders.parked
        completed := []
        holding := s.orders.holding ++ [p.result (some .superseded) []] } := by
      rw [hmoved]
      have htake : ∃ n, 8 - s.orders.holding.length = n + 1 := ⟨7 - s.orders.holding.length, by omega⟩
      obtain ⟨n, hn⟩ := htake
      simp only [moveCompleted, horders, hcompleted, hn, List.nil_append, List.take_succ_cons, List.take_nil,
        List.drop_succ_cons, List.drop_nil]
    constructor <;> rw [hend] <;> dsimp only
    · exact hs.queue
    · exact hs.waitQueue
    · simp only [List.length_append, List.length_singleton]
      omega
    · rw [replaceSwitch_length, List.length_nil]
      exact hparked
    · exact .inl rfl
  have hbounded : ∀ t : State, ListsBounded t.orders → t.orders.resetWait = none → OrdersInv (concludeEvent b t) :=
    fun t ht hw => ordersInv_of_moved (concludeEvent_orders b t hw) ht
  unfold metersApply
  split
  · cases hp : s.orders.parked.find? (fun p => p.object.isSwitch) with
    | none =>
      have hsame : supersede e s = s := by
        unfold supersede
        rw [hp]
      simp only [giveAnswer, hsame]
      exact hbounded _ hs hwait
    | some p => exact hsuperseded p hp
  · split
    · refine hbounded _ ⟨hs.queue, hs.waitQueue, ?_, hs.parked⟩ hwait
      simp only [giveAnswer, State.hold, List.length_append, List.length_singleton]
      omega
    · rename_i hfull
      have hnotFull : s.parkedFull = false := by simpa using hfull
      have hplace : ¬ 8 ≤ s.orders.parked.length + s.orders.completed.length := of_decide_eq_false hnotFull
      refine hbounded _ ⟨hs.queue, hs.waitQueue, hs.holding, ?_⟩ hwait
      simp only [giveAnswer, setPending, State.park, List.length_append, List.length_singleton]
      omega

theorem exec_metersApply_ordersInv (hs : OrdersInv s) (h : exec .metersApply s = .next t) : OrdersInv t := by
  replace h : runOrder (fun e => isKind 0x25#8 e && !e.flag 3) metersApply s = .next t := h
  unfold runOrder at h
  split at h
  · cases h
    exact hs
  · rename_i e rest hq
    unfold eventIf at h
    split at h
    · rename_i hready
      simp only [Bool.and_eq_true, takerReady_iff] at hready
      obtain ⟨⟨hroom, hwait, -⟩, -⟩ := hready
      cases h
      have hpop : Changes .badOrder s (popOrder rest s) :=
        (Change.dequeue s e rest hq).changes.trans (Works.changes (takeHeld_works (by exact hwait)))
      refine metersApply_ordersInv (hpop.bounded (by decide) hs.bounded) ?_ ?_ ?_ s
      · rw [popOrder_resetWait]
        exact hwait
      · rw [popOrder_holding]
        exact hroom
      · rw [popOrder_completed]
        exact hs.completed.resolve_right (by omega)
    · cases h
      exact hs

theorem ordersInv_of_reset (h : s.orders = .reset) : OrdersInv s := by
  constructor <;> simp [h, OrderTaker.reset]

theorem exec_ordersInv (hs : OrdersInv s) (h : exec c s = .next t) : OrdersInv t := by
  by_cases hc : c = .metersApply
  · subst hc
    exact exec_metersApply_ordersInv hs h
  · by_cases hcold : ∃ m p, c = .coldReset m p
    · obtain ⟨m, p, rfl⟩ := hcold
      rw [exec_coldReset] at h
      cases h
      exact ordersInv_of_reset rfl
    · obtain hsame | ⟨x, hx, hout⟩ := exec_takesPlace c s fun m p h => hcold ⟨m, p, h⟩
      · rw [hsame] at h
        cases h
        exact hs
      · rw [hout] at h
        cases h
        exact concludeEvent_ordersInv hc s (hx.bounded hc hs.bounded)

/-- Settles O8: within an event the lists stay in their bounds, and at its end completed entries move while the holding
list has room. -/
theorem stepKeepsTheOrderListsBounded : Obligations.StepKeepsTheOrderListsBounded := by
  intro s t hs h
  unfold step at h
  split at h
  · cases h
    exact hs
  · refine exec_ordersInv ?_ h
    exact ⟨hs.queue, hs.waitQueue, hs.holding, hs.parked, hs.completed⟩

end Sys2Proof.Machine
end

section

/-! PROOFS. Every step keeps the side list in order (R94, R96). -/

namespace Sys2Proof.Machine

variable {c : Instr} {s t u : State}

/-! ### The id of the next side (R96) -/

theorem idAfter_iterate {n : Nat} (h : 1 ≤ n ∧ n ≤ 65535) (k : Nat) : idAfter^[k] n = (n - 1 + k) % 65535 + 1 := by
  induction k with
  | zero =>
    simp only [Function.iterate_zero, id, Nat.add_zero]
    omega
  | succ k ih =>
    rw [Function.iterate_succ_apply', ih]
    unfold idAfter
    split <;> omega

theorem idAfter_range {n : Nat} (h : 1 ≤ n ∧ n ≤ 65535) : 1 ≤ idAfter n ∧ idAfter n ≤ 65535 := by
  unfold idAfter
  split <;> omega

theorem freeId_range {n : Nat} (used : List Nat) (fuel : Nat) (h : 1 ≤ n ∧ n ≤ 65535) :
    1 ≤ freeId used fuel n ∧ freeId used fuel n ≤ 65535 := by
  induction fuel generalizing n with
  | zero => exact h
  | succ fuel ih =>
    unfold freeId
    split
    · exact ih (idAfter_range h)
    · exact h

/-- An id in use is found only after every id looked at was in use. -/
theorem iterate_mem_of_freeId {used : List Nat} {fuel n : Nat} (h : freeId used fuel n ∈ used) :
    ∀ k ≤ fuel, idAfter^[k] n ∈ used := by
  induction fuel generalizing n with
  | zero =>
    intro k hk
    rw [Nat.le_zero.mp hk]
    exact h
  | succ fuel ih =>
    unfold freeId at h
    split at h
    · rename_i hn
      intro k hk
      cases k with
      | zero => exact hn
      | succ k =>
        rw [Function.iterate_succ_apply]
        exact ih h k (by omega)
    · rename_i hn
      exact absurd h hn

/-- The search for an id ends at one that is not in use: it looks at more ids than there are in use. -/
theorem freeId_notMem {used : List Nat} {n : Nat} (h : 1 ≤ n ∧ n ≤ 65535) (hlength : used.length < 65535) :
    freeId used used.length n ∉ used := by
  intro hmem
  have hall := iterate_mem_of_freeId hmem
  have hsub : (List.range (used.length + 1)).map (fun k => idAfter^[k] n) ⊆ used := by
    intro x hx
    obtain ⟨k, hk, rfl⟩ := List.mem_map.mp hx
    exact hall k (by simpa [Nat.lt_succ_iff] using hk)
  have hnodup : ((List.range (used.length + 1)).map fun k => idAfter^[k] n).Nodup := by
    refine List.Nodup.map_on ?_ List.nodup_range
    intro a ha b hb hab
    rw [List.mem_range] at ha hb
    rw [idAfter_iterate h, idAfter_iterate h] at hab
    omega
  have hle := (List.subperm_of_subset hnodup hsub).length_le
  simp at hle

/-! ### The side list -/

/-- A record's state stays, or the record becomes SETTLED. -/
structure SettlesOnly (f : Side → Side) : Prop where
  uid : ∀ x, (f x).uid = x.uid
  id : ∀ x, (f x).id = x.id
  state : ∀ x, (f x).state = x.state ∨ (f x).state = .settled

theorem map_field {α : Type} {f : Side → Side} {g : Side → α} (h : ∀ x, g (f x) = g x) (l : List Side) :
    (l.map f).map g = l.map g := by
  rw [List.map_map]
  exact List.map_congr_left fun x _ => h x

theorem SidesNumbered.map {l : SideList} (h : SidesNumbered l) {f : Side → Side} (hf : ∀ x, (f x).uid = x.uid)
    {order : List Nat} {strict : Bool} (hused : ∀ n ∈ order, n < l.nextUid)
    (hsettled : ∀ r ∈ l.records, r.uid ∈ order → (f r).state = .settled) :
    SidesNumbered { l with records := l.records.map f, settledOrder := order, strict } := by
  refine ⟨?_, ?_, hused, ?_⟩ <;> dsimp only
  · rw [map_field hf]
    exact h.distinct
  · intro r hr
    obtain ⟨x, hx, rfl⟩ := List.mem_map.mp hr
    rw [hf]
    exact h.fresh x hx
  · intro r hr hmem
    obtain ⟨x, hx, rfl⟩ := List.mem_map.mp hr
    rw [hf] at hmem
    exact hsettled x hx hmem

theorem SidesNumbered.filter {l : SideList} (h : SidesNumbered l) (p : Side → Bool) {order : List Nat}
    (horder : order ⊆ l.settledOrder) :
    SidesNumbered { l with records := l.records.filter p, settledOrder := order } := by
  have hsub : (l.records.filter p).Sublist l.records := List.filter_sublist
  exact ⟨h.distinct.sublist (hsub.map _), fun r hr => h.fresh r (hsub.subset hr),
    fun n hn => h.used n (horder hn), fun r hr hn => h.settled r (hsub.subset hr) (horder hn)⟩

/-- A record with the next number joins the list. -/
theorem SidesNumbered.append {l : SideList} (h : SidesNumbered l) {r : Side} (hr : r.uid = l.nextUid) (n : Nat) :
    SidesNumbered { l with records := l.records ++ [r], nextId := n, nextUid := l.nextUid + 1 } := by
  refine ⟨?_, ?_, fun n hn => (h.used n hn).trans (Nat.lt_succ_self _), ?_⟩ <;> dsimp only
  · rw [List.map_append, List.map_singleton, List.nodup_append]
    refine ⟨h.distinct, by simp, fun a ha b hb hab => ?_⟩
    obtain ⟨x, hx, rfl⟩ := List.mem_map.mp ha
    rw [List.mem_singleton.mp hb, hr] at hab
    have hlt := h.fresh x hx
    omega
  · intro x hx
    obtain hx | hx := List.mem_append.mp hx
    · exact (h.fresh x hx).trans (Nat.lt_succ_self _)
    · rw [List.mem_singleton.mp hx, hr]
      exact Nat.lt_succ_self _
  · intro x hx hmem
    obtain hx | hx := List.mem_append.mp hx
    · exact h.settled x hx hmem
    · rw [List.mem_singleton.mp hx, hr] at hmem
      exact absurd (h.used _ hmem) (Nat.lt_irrefl _)

theorem SidesNumbered.uid_inj {l : SideList} (h : SidesNumbered l) {a b : Side} (ha : a ∈ l.records)
    (hb : b ∈ l.records) (hab : a.uid = b.uid) : a = b := List.inj_on_of_nodup_map h.distinct ha hb hab

/-- Records that keep their states or become SETTLED stay in order. -/
theorem SideListInv.map (hs : SideListInv s) {f : Side → Side} (hf : SettlesOnly f) {order : List Nat} {strict : Bool}
    (ht : t.sides = { s.sides with records := s.sides.records.map f, settledOrder := order, strict })
    (hused : ∀ n ∈ order, n < s.sides.nextUid)
    (hsettled : ∀ r ∈ s.sides.records, r.uid ∈ order → (f r).state = .settled) : SideListInv t := by
  constructor <;> rw [ht] <;> dsimp only
  case numbered => exact hs.numbered.map hf.uid hused hsettled
  case room =>
    rw [List.length_map]
    exact hs.room
  case ids =>
    rw [map_field hf.id]
    exact hs.ids
  case idRange =>
    intro r hr
    obtain ⟨x, hx, rfl⟩ := List.mem_map.mp hr
    rw [hf.id]
    exact hs.idRange x hx
  case nextRange => exact hs.nextRange
  case oldest =>
    rw [List.pairwise_map]
    refine hs.oldest.imp ?_
    intro a b hab hb
    have hb' : b.state = .metering := by
      obtain h | h := hf.state b
      · rw [← h, hb]
      · rw [h] at hb
        cases hb
    obtain h | h := hf.state a
    · rw [h, hab hb']
    · exact h

/-- A part of the records, with a part of the settled order, stays in order. -/
theorem SideListInv.filter (hs : SideListInv s) (p : Side → Bool) {order : List Nat}
    (horder : order ⊆ s.sides.settledOrder)
    (ht : t.sides = { s.sides with records := s.sides.records.filter p, settledOrder := order }) : SideListInv t := by
  have hsub : (s.sides.records.filter p).Sublist s.sides.records := List.filter_sublist
  constructor <;> rw [ht] <;> dsimp only
  case numbered => exact hs.numbered.filter p horder
  case room => exact hsub.length_le.trans hs.room
  case ids => exact hs.ids.sublist (hsub.map _)
  case idRange => exact fun r hr => hs.idRange r (hsub.subset hr)
  case nextRange => exact hs.nextRange
  case oldest => exact hs.oldest.sublist hsub

theorem SideListInv.of_eq (hs : SideListInv s) (h : t.sides = s.sides) : SideListInv t := by
  obtain ⟨a, b, c, d, e, f⟩ := hs
  exact ⟨h ▸ a, h ▸ b, h ▸ c, h ▸ d, h ▸ e, h ▸ f⟩

theorem SideKept.settlesOnly {f : Side → Side} (h : SideKept f) (uid : Nat) :
    SettlesOnly fun x => if x.uid = uid then f x else x where
  uid x := by
    split
    · exact h.uid x
    · rfl
  id x := by
    split
    · exact h.id x
    · rfl
  state x := by
    split
    · exact .inl (h.state x)
    · exact .inl rfl

theorem onSide_sideListInv {f : Side → Side} (h : SideKept f) (uid : Nat) (hs : SideListInv s) :
    SideListInv (s.onSide uid f) :=
  hs.map (h.settlesOnly uid) (order := s.sides.settledOrder) (strict := s.sides.strict) rfl hs.numbered.used
    fun r hr hmem => by
      have hset := hs.numbered.settled r hr hmem
      split
      · rw [h.state, hset]
      · exact hset

/-- A side that ends becomes SETTLED and joins the settled order (R111, R114). -/
theorem SideEnds.sideListInv {r : Side} (h : SideEnds r s t) (hs : SideListInv s) : SideListInv t := by
  obtain ⟨g, hg, hsides⟩ := h.sides
  obtain ⟨x, hx, huid, -⟩ := h.listed hs.numbered.distinct
  refine hs.map (f := fun x => if x.uid = r.uid then g { x with state := .settled } else x)
    (order := s.sides.settledOrder ++ [r.uid]) (strict := s.sides.strict) ⟨?_, ?_, ?_⟩ hsides ?_ ?_
  · intro y
    split
    · exact hg.uid _
    · rfl
  · intro y
    split
    · exact hg.id _
    · rfl
  · intro y
    split
    · exact .inr (hg.state _)
    · exact .inl rfl
  · intro n hn
    obtain hn | hn := List.mem_append.mp hn
    · exact hs.numbered.used n hn
    · rw [List.mem_singleton.mp hn, ← huid]
      exact hs.numbered.fresh x hx
  · intro y hy hmem
    split
    · exact hg.state _
    · rename_i hne
      obtain hn | hn := List.mem_append.mp hmem
      · exact hs.numbered.settled y hy hn
      · exact absurd (List.mem_singleton.mp hn) hne

theorem admitSide_sides (r : Side) (s : State) : (admitSide r s).sides = { s.sides with
    records := s.sides.records ++ [r], nextId := idAfter r.id, nextUid := s.sides.nextUid + 1 } := by
  unfold admitSide
  dsimp only
  rw [State.onJob_sides, (warningTest_edited _ _).sides]
  rfl

theorem nextSideId_fresh (hs : SideListInv s) :
    s.nextSideId ∉ s.sides.records.map Side.id ∧ 1 ≤ s.nextSideId ∧ s.nextSideId ≤ 65535 := by
  have hroom := hs.room
  have hlength : (s.sides.records.map fun r => r.id).length < 65535 := by
    rw [List.length_map]
    omega
  exact ⟨freeId_notMem hs.nextRange hlength, freeId_range _ _ hs.nextRange⟩

/-- A new side with the next number and the next free id joins the list ADMITTED (R96, R99). -/
theorem admitSide_sideListInv {r : Side} (huid : r.uid = s.sides.nextUid) (hid : r.id = s.nextSideId)
    (hstate : r.state = .admitted) (hroom : s.sides.records.length < 8) (hs : SideListInv s) :
    SideListInv (admitSide r s) := by
  obtain ⟨hfresh, hlow, hhigh⟩ := nextSideId_fresh hs
  constructor <;> rw [admitSide_sides] <;> dsimp only
  case numbered => exact hs.numbered.append huid _
  case room =>
    rw [List.length_append, List.length_singleton]
    exact hroom
  case ids =>
    rw [List.map_append, List.map_singleton, List.nodup_append]
    refine ⟨hs.ids, by simp, fun a ha b hb hab => ?_⟩
    rw [List.mem_singleton.mp hb, hid] at hab
    exact hfresh (hab ▸ ha)
  case idRange =>
    intro x hx
    obtain hx | hx := List.mem_append.mp hx
    · exact hs.idRange x hx
    · rw [List.mem_singleton.mp hx, hid]
      exact ⟨hlow, hhigh⟩
  case nextRange =>
    rw [hid]
    exact idAfter_range ⟨hlow, hhigh⟩
  case oldest =>
    rw [List.pairwise_append]
    refine ⟨hs.oldest, List.pairwise_singleton _ _, fun a _ b hb hm => ?_⟩
    rw [List.mem_singleton.mp hb, hstate] at hm
    cases hm

theorem tellSideList_sideListInv (hs : SideListInv s) : SideListInv (tellSideList s) := by
  unfold tellSideList
  split
  · exact hs
  · rename_i uid rest hq
    have hsub : rest ⊆ s.sides.settledOrder := by
      rw [hq]
      exact List.subset_cons_self uid rest
    split
    · refine hs.filter (fun _ => true) hsub ?_
      simp
    · split
      · exact hs.filter _ hsub rfl
      · exact onSide_sideListInv {} uid hs

theorem Work.sideListInv (h : Work c s t) (hs : SideListInv s) : SideListInv t := by
  have hkept : t.sides = s.sides → SideListInv t := fun h => hs.of_eq h
  cases h with
  | side uid f h => exact onSide_sideListInv h uid hs
  | strict b =>
    refine hs.map (f := id) ⟨fun _ => rfl, fun _ => rfl, fun _ => .inl rfl⟩ (order := s.sides.settledOrder)
      (strict := b) ?_ hs.numbered.used hs.numbered.settled
    rw [List.map_id]
  | sideAdmit f i j u hroom _ _ => exact admitSide_sideListInv rfl rfl rfl hroom hs
  | sideEnd r h => exact h.sideListInv hs
  | aside h => exact hkept h.sides
  | prover h => exact hkept h.only.sides
  | regionFree i r _ => exact hkept (freeRegion_kept i r s).sides
  | regionDefine f i _ _ => exact hkept (installRegion_kept i _ s).sides
  | usersRestore us retired meters _ => exact hkept (restoreUsers_kept us retired meters s).sides
  | userOpen i u _ _ => exact hkept (warningTest_kept i _).sides
  | userSet i u u' _ _ => exact hkept (warningTest_kept i _).sides
  | complete f r v => exact hkept (completeParked_kept f r v s).sides
  | supersede e _ => exact hkept (supersede_kept e s).sides
  | offer a => exact hkept (offerIndex_kept a s).sides
  | store | job | jobOpen | jobFree | refusals | sources | userState | userRemove | restoreOpen | restoreClose | park
  | queue => exact hkept rfl

theorem sideListInv_of_empty (hr : s.sides.records = []) (ho : s.sides.settledOrder = [])
    (hn : 1 ≤ s.sides.nextId ∧ s.sides.nextId ≤ 65535) : SideListInv s := by
  refine ⟨⟨?_, ?_, ?_, ?_⟩, ?_, ?_, ?_, hn, ?_⟩ <;> simp [hr, ho]

theorem tellOrderTaker_sides (s : State) : (tellOrderTaker s).sides = s.sides := by
  unfold tellOrderTaker
  split
  · rfl
  · rfl

theorem noteDrain_sides (s : State) : (noteDrain s).sides = s.sides := by
  unfold noteDrain
  split
  · rfl
  · split
    · rfl
    · rfl

theorem issueReturn_sides (s : State) : (issueReturn s).sides = s.sides :=
  congrArg Ledger.sides (issueReturn_ledger s)

theorem Change.sideListInv (h : Change c s t) (hc : c ≠ .sideMark) (hs : SideListInv s) : SideListInv t := by
  have hkept : t.sides = s.sides → SideListInv t := fun h => hs.of_eq h
  cases h with
  | work h => exact h.sideListInv hs
  | sideStart r hc' _ => exact absurd hc' hc
  | sideTold => exact tellSideList_sideListInv hs
  | sidesEmpty h =>
    refine sideListInv_of_empty ?_ ?_ ?_
    · rw [h.sides]
    · rw [h.sides]
    · rw [h.sides]
      exact hs.nextRange
  | toldResult => exact hkept (tellOrderTaker_sides s)
  | drain => exact hkept (noteDrain_sides s)
  | returnIssue => exact hkept (issueReturn_sides s)
  | dequeue | hold | move | exported | enterWait | tablesReset | grantOwn | returnAccept | ringReset =>
    exact hkept rfl

theorem Changes.sideListInv (h : Changes c s t) (hc : c ≠ .sideMark) (hs : SideListInv s) : SideListInv t := by
  induction h with
  | refl => exact hs
  | tail _ hstep ih => exact hstep.sideListInv hc ih

theorem Works.sideListInv (h : Works c s t) (hs : SideListInv s) : SideListInv t := by
  induction h with
  | refl => exact hs
  | tail _ hstep ih => exact hstep.sideListInv ih

/-! ### The side mark -/

/-- No side is METERING. -/
def NoMetering (s : State) : Prop := ∀ x ∈ s.sides.records, x.state ≠ .metering

theorem NoMetering.map (h : NoMetering s) {f : Side → Side} (hf : ∀ x, (f x).state = x.state ∨ (f x).state = .settled)
    (ht : t.sides.records = s.sides.records.map f) : NoMetering t := by
  intro x hx
  rw [ht] at hx
  obtain ⟨y, hy, rfl⟩ := List.mem_map.mp hx
  obtain he | he := hf y
  · rw [he]
    exact h y hy
  · rw [he]
    exact SideState.noConfusion

/-- A piece of work makes no side METERING. -/
theorem Work.noMetering (h : Work c s t) (hs : NoMetering s) : NoMetering t := by
  have hkept : t.sides = s.sides → NoMetering t := fun h x hx => hs x (h ▸ hx)
  cases h with
  | side uid f h => exact hs.map (h.settlesOnly uid).state rfl
  | strict b => exact hs
  | sideAdmit f i j u _ _ _ =>
    intro x hx
    rw [admitSide_sides] at hx
    obtain hx | hx := List.mem_append.mp hx
    · exact hs x hx
    · rw [List.mem_singleton.mp hx]
      exact SideState.noConfusion
  | sideEnd r h =>
    obtain ⟨g, hg, hsides⟩ := h.sides
    refine hs.map (f := fun x => if x.uid = r.uid then g { x with state := .settled } else x) (fun x => ?_)
      (congrArg SideList.records hsides)
    split
    · exact .inr (hg.state _)
    · exact .inl rfl
  | aside h => exact hkept h.sides
  | prover h => exact hkept h.only.sides
  | regionFree i r _ => exact hkept (freeRegion_kept i r s).sides
  | regionDefine f i _ _ => exact hkept (installRegion_kept i _ s).sides
  | usersRestore us retired meters _ => exact hkept (restoreUsers_kept us retired meters s).sides
  | userOpen i u _ _ => exact hkept (warningTest_kept i _).sides
  | userSet i u u' _ _ => exact hkept (warningTest_kept i _).sides
  | complete f r v => exact hkept (completeParked_kept f r v s).sides
  | supersede e _ => exact hkept (supersede_kept e s).sides
  | offer a => exact hkept (offerIndex_kept a s).sides
  | store | job | jobOpen | jobFree | refusals | sources | userState | userRemove | restoreOpen | restoreClose | park
  | queue => exact hs

theorem Works.noMetering (h : Works c s t) (hs : NoMetering s) : NoMetering t := by
  induction h with
  | refl => exact hs
  | tail _ hstep ih => exact hstep.noMetering ih

/-- At most one side of a list in order is METERING. -/
theorem SideListInv.metering_unique (hs : SideListInv s) {a b : Side} (ha : a ∈ s.sides.records)
    (hb : b ∈ s.sides.records) (hma : a.state = .metering) (hmb : b.state = .metering) : a = b := by
  by_contra hne
  have hpair : s.sides.records.Pairwise fun x y => ¬(x.state = .metering ∧ y.state = .metering) :=
    hs.oldest.imp fun hxy hboth => by
      rw [hxy hboth.2] at hboth
      cases hboth.1
  have : Std.Symm fun x y : Side => ¬(x.state = .metering ∧ y.state = .metering) := ⟨fun x y hxy h => hxy h.symm⟩
  exact hpair.forall ha hb hne ⟨hma, hmb⟩

/-- When the oldest side starts, no side is METERING (R100). -/
theorem beforeStart_noMetering (hs : SideListInv s) : NoMetering (beforeStart s) := by
  unfold beforeStart
  have hend : NoMetering (match s.meteringSide with
      | some r => closeSide r .short s
      | none => s) := by
    split
    · rename_i r hr
      have hsettled : NoMetering (settleSide r .short s) := by
        obtain ⟨g, hg, hsides⟩ := (settleSide_ends .short fun _ => meteringSide_listed hr).sides
        intro x hx
        rw [hsides] at hx
        obtain ⟨y, hy, rfl⟩ := List.mem_map.mp hx
        split
        · rw [hg.state]
          exact SideState.noConfusion
        · rename_i hne
          intro hm
          exact hne (by rw [hs.metering_unique hy (meteringSide_mem hr) hm (meteringSide_state hr)])
      rw [closeSide_eq]
      exact Works.noMetering (c := .sideMark) (afterSettlement_works _ _ _) hsettled
    · rename_i hnone
      intro x hx hm
      have hfind := List.find?_eq_none.mp hnone x hx
      simp [hm] at hfind
  exact Works.noMetering (c := .sideMark) ((convertUnattributed_works _).trans (switchPending_works _)) hend

/-- The record of a side that begins metering (R64, R101). -/
def startedSide (s : State) (r x : Side) : Side :=
  { x with
    state := .metering
    generation := some s.store.liveGen
    serials := recordSerials r.planes s
    context := some (newContext r.planes) }

theorem startSide_sides (r : Side) (s : State) : (startSide r s).sides = { s.sides with
    records := s.sides.records.map fun x => if x.uid = r.uid then startedSide s r x else x } := rfl

theorem startedSide_uid (s : State) (r x : Side) :
    (if x.uid = r.uid then startedSide s r x else x).uid = x.uid := by
  split <;> rfl

/-- The start of an ADMITTED side leaves the records numbered. -/
theorem startSide_numbered {r : Side} (hmem : r ∈ s.sides.records) (hr : r.state = .admitted)
    (hs : SidesNumbered s.sides) : SidesNumbered (startSide r s).sides := by
  refine hs.map (startedSide_uid s r) hs.used fun y hy hn => ?_
  have hset := hs.settled y hy hn
  split
  · rename_i he
    rw [hs.uid_inj hy hmem he, hr] at hset
    cases hset
  · exact hset

/-- The oldest ADMITTED side becomes METERING while no other is (R100, R101). -/
theorem startSide_sideListInv {r : Side} (hr : s.oldestAdmitted = some r) (hm : NoMetering s) (hs : SideListInv s) :
    SideListInv (startSide r s) := by
  obtain ⟨hadmitted, l₁, l₂, hrecords, hbefore⟩ := List.find?_eq_some_iff_append.mp hr
  have hmem : r ∈ s.sides.records := by simp [hrecords]
  have hid : ∀ x, (if x.uid = r.uid then startedSide s r x else x).id = x.id := by
    intro x
    split <;> rfl
  refine ⟨startSide_numbered hmem (by simpa using hadmitted) hs.numbered, ?room, ?ids, ?idRange, ?nextRange, ?oldest⟩ <;>
    rw [startSide_sides] <;> dsimp only
  case room =>
    rw [List.length_map]
    exact hs.room
  case ids =>
    rw [map_field hid]
    exact hs.ids
  case idRange =>
    intro x hx
    obtain ⟨y, hy, rfl⟩ := List.mem_map.mp hx
    rw [hid]
    exact hs.idRange y hy
  case nextRange => exact hs.nextRange
  case oldest =>
    have hother : ∀ y ∈ s.sides.records, y ≠ r → (if y.uid = r.uid then startedSide s r y else y) = y :=
      fun y hy hne => if_neg fun he => hne (hs.numbered.uid_inj hy hmem he)
    have hnodup : s.sides.records.Nodup := List.Nodup.of_map _ hs.numbered.distinct
    rw [hrecords, List.nodup_append, List.nodup_cons] at hnodup
    obtain ⟨-, ⟨hr₂, -⟩, hr₁⟩ := hnodup
    have h₁ : ∀ y ∈ l₁, y ∈ s.sides.records ∧ y ≠ r := fun y hy =>
      ⟨by simp [hrecords, hy], fun he => hr₁ y hy r (by simp) he⟩
    have h₂ : ∀ y ∈ l₂, y ∈ s.sides.records ∧ y ≠ r := fun y hy =>
      ⟨by simp [hrecords, hy], fun he => hr₂ (he ▸ hy)⟩
    have hl₁ : ∀ y ∈ l₁, y.state = .settled := by
      intro y hy
      have hna := hbefore y hy
      cases hst : y.state with
      | admitted => simp [hst] at hna
      | metering => exact absurd hst (hm y (h₁ y hy).1)
      | settled => rfl
    rw [List.pairwise_map, hrecords, List.pairwise_append, List.pairwise_cons]
    have hnone : ∀ y ∈ l₂, (if y.uid = r.uid then startedSide s r y else y).state ≠ .metering := by
      intro y hy
      rw [hother y (h₂ y hy).1 (h₂ y hy).2]
      exact hm y (h₂ y hy).1
    refine ⟨?_, ⟨fun y hy h => absurd h (hnone y hy), ?_⟩, ?_⟩
    · refine List.pairwise_of_forall_mem_list fun a ha b hb _ => ?_
      rw [hother a (h₁ a ha).1 (h₁ a ha).2]
      exact hl₁ a ha
    · exact List.pairwise_of_forall_mem_list fun a ha b hb h => absurd h (hnone b hb)
    · intro a ha b hb _
      rw [hother a (h₁ a ha).1 (h₁ a ha).2]
      exact hl₁ a ha

theorem takeMark_sideListInv (hs : SideListInv s) : SideListInv (takeMark s) := by
  have hbefore : SideListInv (beforeStart s) := Works.sideListInv (c := .sideMark) (beforeStart_works s) hs
  rw [takeMark_eq]
  split
  · rename_i r hr
    exact startSide_sideListInv hr (beforeStart_noMetering hs) hbefore
  · exact hbefore.of_eq ((countUnaccounted_kept _).trans (raise_kept _ _)).sides

theorem exec_sideListInv (hs : SideListInv s) (h : exec c s = .next t) : SideListInv t := by
  by_cases hc : c = .sideMark
  · subst hc
    obtain rfl : concludeEvent s (takeMark s) = t := Host.Outcome.next.inj h
    exact Changes.sideListInv (c := .badOrder) (concludeEvent_changes s _) (by decide) (takeMark_sideListInv hs)
  · exact exec_cases h hs (fun _ _ _ => sideListInv_of_empty rfl rfl (by change 1 ≤ 1 ∧ 1 ≤ 65535; decide))
      fun _ _ h => h.sideListInv hc

/-- Settles O7: a side starts METERING at a mark alone, the oldest ADMITTED one and after the METERING one has ended,
and the id of a new side is looked for among more ids than the list holds. -/
theorem stepKeepsTheSideListInOrder : Obligations.StepKeepsTheSideListInOrder := by
  intro s t hs h
  unfold step at h
  split at h
  · cases h
    exact hs
  · refine exec_sideListInv ?_ h
    exact hs.of_eq rfl

end Sys2Proof.Machine
end

section

/-! PROOFS. Every step keeps the holds equal to the reserves, and the warnings (R122, R124). -/

namespace Sys2Proof.Machine

variable {c : Instr} {s t u : State}

/-! ### The reserves of a user's sides -/

/-- The side is ADMITTED or METERING, and the user slot owns it. -/
def ownedLive (i : Fin 64) (r : Side) : Bool := decide (r.state ≠ .settled) && decide (r.userSlot = i)

/-- The reserves of the sides of a list that may still be charged to a user slot (R122). -/
def reserveSum (l : List Side) (i : Fin 64) : Nat := ((l.filter (ownedLive i)).map Side.reserve).sum

theorem liveReserves_eq (s : State) (i : Fin 64) : liveReserves s i = reserveSum s.sides.records i := rfl

theorem reserveSum_cons (r : Side) (l : List Side) (i : Fin 64) :
    reserveSum (r :: l) i = (if ownedLive i r then r.reserve else 0) + reserveSum l i := by
  unfold reserveSum
  rw [List.filter_cons]
  split
  · rw [List.map_cons, List.sum_cons]
  · rw [Nat.zero_add]

theorem reserveSum_append (l l' : List Side) (i : Fin 64) :
    reserveSum (l ++ l') i = reserveSum l i + reserveSum l' i := by
  simp [reserveSum]

/-- A change of a record after which it may be charged as before. -/
structure ChargeKept (f : Side → Side) : Prop where
  state : ∀ x, (f x).state = .settled ↔ x.state = .settled
  userSlot : ∀ x, (f x).userSlot = x.userSlot
  reserve : ∀ x, (f x).reserve = x.reserve

theorem ChargeKept.ownedLive {f : Side → Side} (h : ChargeKept f) (i : Fin 64) (x : Side) :
    ownedLive i (f x) = ownedLive i x := by
  unfold Machine.ownedLive
  rw [h.userSlot, decide_eq_decide.mpr (not_congr (h.state x))]

theorem reserveSum_congr {f : Side → Side} {l : List Side} {i : Fin 64}
    (h : ∀ x ∈ l, ownedLive i (f x) = ownedLive i x ∧ (f x).reserve = x.reserve) :
    reserveSum (l.map f) i = reserveSum l i := by
  induction l with
  | nil => rfl
  | cons x l ih =>
    obtain ⟨hx, hr⟩ := h x (by simp)
    rw [List.map_cons, reserveSum_cons, reserveSum_cons, hx, hr, ih fun y hy => h y (by simp [hy])]

theorem ChargeKept.reserveSum {f : Side → Side} (h : ChargeKept f) (l : List Side) (i : Fin 64) :
    reserveSum (l.map f) i = reserveSum l i :=
  reserveSum_congr fun x _ => ⟨h.ownedLive i x, h.reserve x⟩

/-- Records that are SETTLED have no reserve that may be charged. -/
theorem reserveSum_filter {p : Side → Bool} {l : List Side} (h : ∀ x ∈ l, p x = false → x.state = .settled)
    (i : Fin 64) : reserveSum (l.filter p) i = reserveSum l i := by
  induction l with
  | nil => rfl
  | cons x l ih =>
    have hl := ih fun y hy => h y (by simp [hy])
    rw [List.filter_cons]
    split
    · rw [reserveSum_cons, reserveSum_cons, hl]
    · rename_i hp
      have hset := h x (by simp) (by simpa using hp)
      rw [reserveSum_cons, hl]
      simp [ownedLive, hset]

/-- When one record of a list becomes SETTLED, its reserve leaves the sum of its owner. -/
theorem reserveSum_settle {f : Side → Side} {l : List Side} {uid : Nat} {x : Side} (hx : x ∈ l) (huid : x.uid = uid)
    (hlive : x.state ≠ .settled) (hdistinct : (l.map Side.uid).Nodup) (hf : ∀ y, (f y).state = .settled) (i : Fin 64) :
    reserveSum (l.map fun y => if y.uid = uid then f y else y) i + (if x.userSlot = i then x.reserve else 0) =
      reserveSum l i := by
  induction l with
  | nil => cases hx
  | cons y l ih =>
    rw [List.map_cons, List.nodup_cons] at hdistinct
    obtain ⟨hy, hdistinct⟩ := hdistinct
    rw [List.map_cons, reserveSum_cons, reserveSum_cons]
    by_cases hyu : y.uid = uid
    · have hxy : x = y := by
        obtain h | h := List.mem_cons.mp hx
        · exact h
        · refine absurd (List.mem_map_of_mem (f := Side.uid) h) ?_
          rw [huid, ← hyu]
          exact hy
      have hrest : reserveSum (l.map fun y => if y.uid = uid then f y else y) i = reserveSum l i := by
        refine reserveSum_congr fun z hz => ?_
        have hne : ¬ z.uid = uid := fun he => hy (by rw [hyu, ← he]; exact List.mem_map_of_mem hz)
        rw [if_neg hne]
        exact ⟨rfl, rfl⟩
      subst hxy
      have hdead : ownedLive i (f x) = false := by simp [ownedLive, hf]
      have hown : ownedLive i x = decide (x.userSlot = i) := by simp [ownedLive, hlive]
      rw [if_pos hyu, hdead, hown, hrest]
      simp [Nat.add_comm]
    · have hxl : x ∈ l := (List.mem_cons.mp hx).resolve_left fun he => hyu (he ▸ huid)
      rw [if_neg hyu, Nat.add_assoc, ih hxl hdistinct]

/-! ### Holds -/

/-- The hold of a user record, 0 for a free slot. -/
def holdIn (x : Option User) : Nat := (x.map User.hold).getD 0

theorem holdOf_eq (s : State) (i : Fin 64) : holdOf s i = holdIn s.accounts.users[i] := by
  unfold holdOf holdIn
  cases s.accounts.users[i] with
  | none => rfl
  | some u => rfl

theorem holdIn_map {h : User → User} (hh : ∀ u, (h u).hold = u.hold) (x : Option User) : holdIn (x.map h) = holdIn x := by
  cases x with
  | none => rfl
  | some u => exact hh u

/-- What stands in a slot of the user table after one slot is replaced. -/
theorem holdIn_put (v : Vector (Option User) 64) (i k : Fin 64) (x : Option User) :
    holdIn (put v i x)[k] = if i = k then holdIn x else holdIn v[k] := by
  split
  · rename_i h
    subst h
    rw [put_same]
  · rename_i h
    rw [put_other _ _ _ _ h]

theorem UserEdited.holdOf {i : Fin 64} {h : User → User} (he : UserEdited i h s t) (hh : ∀ u, (h u).hold = u.hold)
    (k : Fin 64) : holdOf t k = holdOf s k := by
  rw [holdOf_eq, holdOf_eq, he.users, holdIn_put]
  split
  · rename_i hik
    subst hik
    rw [holdIn_map hh]
  · rfl

theorem User.tested_hold (u : User) : u.tested.hold = u.hold := rfl

theorem User.tested_tested (u : User) : u.tested.tested = u.tested := rfl

/-- The warning tests of a list of slots test each of the records there. -/
theorem foldl_warningTest_users (l : List (Fin 64)) (s : State) (i : Fin 64) :
    (l.foldl (fun s i => warningTest i s) s).accounts.users[i] =
      if i ∈ l then (s.accounts.users[i]).map User.tested else s.accounts.users[i] := by
  induction l generalizing s with
  | nil => rfl
  | cons k l ih =>
    rw [List.foldl_cons, ih, (warningTest_edited k s).users]
    by_cases hk : k = i
    · subst hk
      simp only [put_same, Option.map_map, List.mem_cons_self, if_true]
      split
      · rfl
      · rfl
    · have hne : ¬ i = k := fun h => hk h.symm
      simp only [put_other _ _ _ _ hk, List.mem_cons, hne, false_or]

theorem restoreUsers_users (us : List UserCopy) (retired : Counters) (meters : DeviceMeters) (s : State)
    (i : Fin 64) : (restoreUsers us retired meters s).accounts.users[i] = ((restoredUsers us)[i]).map User.tested := by
  have hall : ∀ (l : List (Fin 64)) (x : AccountTable), i ∈ l →
      (l.foldl (fun s i => warningTest i s) { s with accounts := x }).accounts.users[i] =
        (x.users[i]).map User.tested :=
    fun l x hi => (foldl_warningTest_users l _ i).trans (if_pos hi)
  unfold restoreUsers
  exact hall _ _ (List.mem_finRange i)

/-- Every record of a restored user table comes from a buffered one. -/
theorem restoredUsers_some {us : List UserCopy} {i : Fin 64} {u : User} (h : (restoredUsers us)[i] = some u) :
    ∃ x ∈ us, u = restoredUser x := by
  have hfold : ∀ (l : List UserCopy) (v : Vector (Option User) 64),
      (l.foldl (fun v x => put v x.slot (some (restoredUser x))) v)[i] = some u →
        v[i] = some u ∨ ∃ x ∈ l, u = restoredUser x := by
    intro l
    induction l with
    | nil => exact fun v hv => .inl hv
    | cons x l ih =>
      intro v hv
      obtain hput | ⟨y, hy, rfl⟩ := ih _ hv
      · by_cases hx : x.slot = i
        · subst hx
          rw [put_same] at hput
          exact .inr ⟨x, by simp, (Option.some.inj hput).symm⟩
        · rw [put_other _ _ _ _ hx] at hput
          exact .inl hput
      · exact .inr ⟨y, by simp [hy], rfl⟩
  obtain hnone | hx := hfold us _ h
  · simp at hnone
  · exact hx

theorem restoreUsers_restore (us : List UserCopy) (retired : Counters) (meters : DeviceMeters) (s : State) :
    (restoreUsers us retired meters s).accounts.restore = none := by
  have hfold : ∀ (l : List (Fin 64)) (x : State),
      (l.foldl (fun s i => warningTest i s) x).accounts.restore = x.accounts.restore := by
    intro l
    induction l with
    | nil => exact fun _ => rfl
    | cons k l ih => exact fun x => (ih _).trans (warningTest_edited k x).restore
  unfold restoreUsers
  rw [hfold]

/-! ### The law of the holds -/

/-- The tables that the law of the holds speaks of. -/
structure HoldKept (s t : State) : Prop where
  hold : ∀ i, holdOf t i = holdOf s i
  restore : t.accounts.restore.isSome → s.accounts.restore.isSome ∨ s.sides.records = []
  sides : t.sides = s.sides

theorem HoldKept.inv (h : HoldKept s t) (hs : HoldInv s) : HoldInv t where
  hold i := by rw [h.hold, liveReserves_eq, h.sides, hs.hold, liveReserves_eq]
  restore ht := by
    rw [h.sides]
    exact (h.restore ht).elim hs.restore id
  numbered := h.sides ▸ hs.numbered

theorem holdKept_of_eq (hu : t.accounts.users = s.accounts.users) (hr : t.accounts.restore = s.accounts.restore)
    (hs : t.sides = s.sides) : HoldKept s t :=
  ⟨fun i => by rw [holdOf_eq, holdOf_eq, hu], fun h => .inl (hr ▸ h), hs⟩

theorem TablesKept.hold {x : State} (h : TablesKept x t) (ha : x.accounts = s.accounts) (hs : x.sides = s.sides) :
    HoldKept s t :=
  holdKept_of_eq (by rw [h.users, ha]) (by rw [h.restore, ha]) (by rw [h.sides, hs])

theorem SideKept.chargeKept {f : Side → Side} (h : SideKept f) (uid : Nat) :
    ChargeKept fun x => if x.uid = uid then f x else x where
  state x := by
    split
    · rw [h.state]
    · rfl
  userSlot x := by
    split
    · exact h.userSlot x
    · rfl
  reserve x := by
    split
    · exact h.reserve x
    · rfl

theorem onSide_holdInv {f : Side → Side} (h : SideKept f) (uid : Nat) (hs : HoldInv s) : HoldInv (s.onSide uid f) where
  hold i := (hs.hold i).trans ((h.chargeKept uid).reserveSum _ i).symm
  restore hr := by
    have hempty := hs.restore hr
    unfold State.onSide
    dsimp only
    rw [hempty]
    rfl
  numbered := by
    refine hs.numbered.map (h.settlesOnly uid).uid hs.numbered.used fun r hr hn => ?_
    have hset := hs.numbered.settled r hr hn
    split
    · rw [h.state, hset]
    · exact hset

/-- The hold takes in the reserve of a side that is admitted (R99, R122). -/
theorem admitSide_holdInv {r : Side} (huid : r.uid = s.sides.nextUid) (hstate : r.state = .admitted)
    (hu : (s.accounts.users[r.userSlot]).isSome) (hbusy : s.accounts.restore = none) (hs : HoldInv s) :
    HoldInv (admitSide r s) where
  hold i := by
    obtain ⟨x, hx⟩ := Option.isSome_iff_exists.mp hu
    have hold : holdOf (admitSide r s) i = if r.userSlot = i then x.hold + r.reserve else holdOf s i := by
      have htested := (warningTest_edited r.userSlot (takeHold r.userSlot r.reserve { s with sides :=
        { s.sides with
          records := s.sides.records ++ [r]
          nextId := idAfter r.id
          nextUid := s.sides.nextUid + 1 } })).holdOf User.tested_hold i
      have htake : holdOf (takeHold r.userSlot r.reserve { s with sides :=
        { s.sides with
          records := s.sides.records ++ [r]
          nextId := idAfter r.id
          nextUid := s.sides.nextUid + 1 } }) i = if r.userSlot = i then x.hold + r.reserve else holdOf s i := by
        rw [holdOf_eq, holdOf_eq]
        simp only [takeHold, State.onUser]
        rw [holdIn_put, hx]
        rfl
      exact htested.trans htake
    have hsum : liveReserves (admitSide r s) i = liveReserves s i + if r.userSlot = i then r.reserve else 0 := by
      rw [liveReserves_eq, admitSide_sides]
      dsimp only
      rw [reserveSum_append, ← liveReserves_eq, reserveSum_cons]
      simp [reserveSum, ownedLive, hstate]
    rw [hold, hsum, ← hs.hold i]
    split
    · rename_i hi
      subst hi
      rw [holdOf_eq, hx]
      rfl
    · rw [Nat.add_zero]
  restore hr := by
    have hrestore : (admitSide r s).accounts.restore = s.accounts.restore := (warningTest_edited _ _).restore
    rw [hrestore, hbusy] at hr
    cases hr
  numbered := by
    rw [admitSide_sides]
    exact hs.numbered.append huid _

/-- The reserve of a side that ends leaves the hold (R109, R114). -/
theorem SideEnds.holdInv {r : Side} (h : SideEnds r s t) (hs : HoldInv s) : HoldInv t := by
  obtain ⟨x, hx, huid, hlive, hslot, hreserve⟩ := h.listed hs.numbered.distinct
  obtain ⟨g, hg, hsides⟩ := h.sides
  obtain ⟨k, hk, husers⟩ := h.users
  constructor
  · intro i
    have hsum := reserveSum_settle (f := fun y => g { y with state := .settled }) hx huid hlive hs.numbered.distinct
      (fun y => hg.state _) i
    have hsum' : liveReserves t i + (if r.userSlot = i then r.reserve else 0) = liveReserves s i := by
      rw [liveReserves_eq, liveReserves_eq, hsides, ← hsum, hslot, hreserve]
      rfl
    have hold : holdOf t i = if r.userSlot = i then holdOf s i - r.reserve else holdOf s i := by
      rw [holdOf_eq, holdOf_eq, husers, holdIn_put]
      split
      · rename_i hi
        subst hi
        cases s.accounts.users[r.userSlot] with
        | none => exact (Nat.zero_sub _).symm
        | some u => exact (hk u).1
      · rfl
    rw [hold, hs.hold i, ← hsum']
    split
    · omega
    · rfl
  · intro hr
    rw [h.restore] at hr
    rw [hs.restore hr] at hx
    cases hx
  · rw [hsides]
    refine hs.numbered.map (f := fun y => if y.uid = r.uid then g { y with state := .settled } else y)
      (fun y => ?_) (fun n hn => ?_) fun y hy hn => ?_
    · split
      · exact hg.uid _
      · rfl
    · obtain hn | hn := List.mem_append.mp hn
      · exact hs.numbered.used n hn
      · rw [List.mem_singleton.mp hn, ← huid]
        exact hs.numbered.fresh x hx
    · split
      · exact hg.state _
      · rename_i hne
        obtain hn | hn := List.mem_append.mp hn
        · exact hs.numbered.settled y hy hn
        · exact absurd (List.mem_singleton.mp hn) hne

theorem setUser_holdOf (i : Fin 64) (x : Option User) (s : State) (k : Fin 64) :
    holdOf (setUser i x s) k = if i = k then holdIn x else holdOf s k := by
  rw [holdOf_eq, holdOf_eq]
  exact holdIn_put _ _ _ _

/-- A user record with the same hold takes a slot. -/
theorem setUser_holdKept {i : Fin 64} {x : Option User} (h : holdIn x = holdOf s i) : HoldKept s (setUser i x s) where
  hold k := by
    rw [setUser_holdOf]
    split
    · rename_i hi
      rw [← hi, h]
    · rfl
  restore hr := .inl hr
  sides := rfl

theorem HoldKept.warningTest {i : Fin 64} (h : HoldKept s t) : HoldKept s (warningTest i t) where
  hold k := ((warningTest_edited i t).holdOf User.tested_hold k).trans (h.hold k)
  restore hr := h.restore ((warningTest_edited i t).restore ▸ hr)
  sides := ((warningTest_edited i t).sides).trans h.sides

theorem holdOf_of_none {i : Fin 64} (h : s.accounts.users[i] = none) : holdOf s i = 0 := by
  rw [holdOf_eq, h]
  rfl

theorem holdOf_of_some {i : Fin 64} {u : User} (h : s.accounts.users[i] = some u) : holdOf s i = u.hold := by
  rw [holdOf_eq, h]
  rfl

theorem restoreUsers_holdInv (us : List UserCopy) (retired : Counters) (meters : DeviceMeters)
    (hr : s.accounts.restore.isSome) (hs : HoldInv s) : HoldInv (restoreUsers us retired meters s) where
  hold i := by
    rw [holdOf_eq, restoreUsers_users, holdIn_map User.tested_hold, liveReserves_eq,
      (restoreUsers_kept us retired meters s).sides]
    dsimp only
    rw [hs.restore hr]
    cases hu : (restoredUsers us)[i] with
    | none => rfl
    | some u =>
      obtain ⟨x, -, rfl⟩ := restoredUsers_some hu
      rfl
  restore h := by
    rw [restoreUsers_restore] at h
    cases h
  numbered := by
    rw [(restoreUsers_kept us retired meters s).sides]
    exact hs.numbered

theorem Work.holdInv (h : Work c s t) (hs : HoldInv s) : HoldInv t := by
  have hkept : HoldKept s t → HoldInv t := fun h => h.inv hs
  cases h with
  | side uid f h => exact onSide_holdInv h uid hs
  | strict b => exact ⟨hs.hold, hs.restore, hs.numbered.distinct, hs.numbered.fresh, hs.numbered.used,
      hs.numbered.settled⟩
  | sideAdmit f i j u _ hbusy hu =>
    refine admitSide_holdInv rfl rfl ?_ hbusy hs
    exact Option.isSome_of_eq_some hu
  | sideEnd r h => exact h.holdInv hs
  | userOpen i u hfree hu =>
    exact hkept (setUser_holdKept (by rw [holdOf_of_none hfree]; exact hu)).warningTest
  | userSet i u u' hu h => exact hkept (setUser_holdKept (by rw [holdOf_of_some hu]; exact h)).warningTest
  | userState i u x hu => exact hkept (setUser_holdKept (by rw [holdOf_of_some hu]; rfl))
  | userRemove i u hu h => exact hkept (setUser_holdKept (by rw [holdOf_of_some hu, h]; rfl))
  | restoreOpen b h => exact hkept ⟨fun _ => rfl, fun _ => h, rfl⟩
  | restoreClose => exact hkept ⟨fun _ => rfl, fun h => absurd h Bool.false_ne_true, rfl⟩
  | usersRestore us retired meters hr => exact restoreUsers_holdInv us retired meters hr hs
  | aside h => exact hkept (h.hold rfl rfl)
  | prover h =>
    obtain ⟨_, _, _, rfl⟩ := h.only
    exact hkept ⟨fun _ => rfl, .inl, rfl⟩
  | regionFree i r _ => exact hkept ((freeRegion_kept i r s).hold rfl rfl)
  | regionDefine f i _ _ => exact hkept ((installRegion_kept i _ s).hold rfl rfl)
  | complete f r v => exact hkept ((completeParked_kept f r v s).hold rfl rfl)
  | supersede e _ => exact hkept ((supersede_kept e s).hold rfl rfl)
  | offer a => exact hkept ((offerIndex_kept a s).hold rfl rfl)
  | store | job | jobOpen | jobFree | refusals | sources | park | queue => exact hkept ⟨fun _ => rfl, .inl, rfl⟩

theorem startSide_holdInv {r : Side} (hr : s.oldestAdmitted = some r) (hs : HoldInv s) : HoldInv (startSide r s) where
  hold i := by
    have hmem := List.mem_of_find?_eq_some hr
    have hstate : r.state = .admitted := by simpa using List.find?_some hr
    rw [show holdOf (startSide r s) i = holdOf s i from rfl, hs.hold i, liveReserves_eq, liveReserves_eq,
      startSide_sides]
    refine (reserveSum_congr fun x hx => ?_).symm
    split
    · rename_i he
      rw [hs.numbered.uid_inj hx hmem he]
      refine ⟨?_, rfl⟩
      simp only [ownedLive, startedSide, hstate]
      rfl
    · exact ⟨rfl, rfl⟩
  restore h := by
    rw [startSide_sides]
    dsimp only
    rw [hs.restore h]
    rfl
  numbered := startSide_numbered (List.mem_of_find?_eq_some hr) (by simpa using List.find?_some hr) hs.numbered

/-- The side list keeps the law when it is told of an accepted part: it drops a SETTLED record or counts the part. -/
theorem tellSideList_holdInv (hs : HoldInv s) : HoldInv (tellSideList s) := by
  unfold tellSideList
  split
  · exact hs
  · rename_i uid rest hq
    have hsub : rest ⊆ s.sides.settledOrder := by
      rw [hq]
      exact List.subset_cons_self uid rest
    split
    · exact ⟨hs.hold, hs.restore, hs.numbered.distinct, hs.numbered.fresh, fun n hn => hs.numbered.used n (hsub hn),
        fun r hr hn => hs.numbered.settled r hr (hsub hn)⟩
    · split
      · refine ⟨fun i => (hs.hold i).trans (reserveSum_filter (fun x hx hp => ?_) i).symm, fun h => ?_,
          hs.numbered.filter _ hsub⟩
        · refine hs.numbered.settled x hx ?_
          rw [show x.uid = uid by simpa using hp, hq]
          exact List.mem_cons_self
        · dsimp only
          rw [hs.restore h]
          rfl
      · exact onSide_holdInv {} uid hs

theorem reservesOf_live (l : List Side) (i : Fin 64) :
    reservesOf (l.filter fun r => decide (r.state ≠ .settled)) i = reserveSum l i := by
  unfold reservesOf reserveSum
  rw [List.filter_filter]
  refine congrArg (fun l => (List.map Side.reserve l).sum) (List.filter_congr fun x _ => ?_)
  simp only [ownedLive, Bool.and_comm]

theorem releasedUser_hold (l : List Side) (i : Fin 64) (u : User) :
    (releasedUser l i u).hold = u.hold - reservesOf l i := by
  unfold releasedUser
  split
  · rfl
  · rename_i h
    have hnone : l.filter (fun r => decide (r.userSlot = i)) = [] := by
      rw [List.filter_eq_nil_iff]
      simpa using h
    unfold reservesOf
    rw [hnone]
    rfl

theorem SidesEmptied.holdInv (h : SidesEmptied s t) (hs : HoldInv s) : HoldInv t where
  hold i := by
    rw [liveReserves_eq, h.sides, holdOf_eq, h.users]
    have hold := hs.hold i
    rw [holdOf_eq, liveReserves_eq] at hold
    cases hu : s.accounts.users[i] with
    | none => rfl
    | some u =>
      rw [hu] at hold
      have hhold : u.hold = reserveSum s.sides.records i := hold
      rw [Option.map_some, show holdIn (some _) = _ from rfl]
      exact (releasedUser_hold _ i u).trans (by rw [reservesOf_live, hhold, Nat.sub_self]; rfl)
  restore _ := by rw [h.sides]
  numbered := by
    rw [h.sides]
    exact ⟨List.nodup_nil, by simp, by simp, by simp⟩

theorem tellOrderTaker_accounts (s : State) : (tellOrderTaker s).accounts = s.accounts := by
  unfold tellOrderTaker
  split
  · rfl
  · rfl

theorem noteDrain_accounts (s : State) : (noteDrain s).accounts = s.accounts := by
  unfold noteDrain
  split
  · rfl
  · split
    · rfl
    · rfl

theorem issueReturn_accounts (s : State) : (issueReturn s).accounts = s.accounts :=
  congrArg Ledger.accounts (issueReturn_ledger s)

theorem holdKept_of_accounts (ha : t.accounts = s.accounts) (hs : t.sides = s.sides) : HoldKept s t :=
  holdKept_of_eq (by rw [ha]) (by rw [ha]) hs

theorem Change.holdInv (h : Change c s t) (hs : HoldInv s) : HoldInv t := by
  have hkept : t.accounts = s.accounts → t.sides = s.sides → HoldInv t := fun ha h =>
    (holdKept_of_accounts ha h).inv hs
  cases h with
  | work h => exact h.holdInv hs
  | sideStart r _ hr => exact startSide_holdInv hr hs
  | sideTold => exact tellSideList_holdInv hs
  | sidesEmpty h => exact h.holdInv hs
  | toldResult => exact hkept (tellOrderTaker_accounts s) (tellOrderTaker_sides s)
  | drain => exact hkept (noteDrain_accounts s) (noteDrain_sides s)
  | returnIssue => exact hkept (issueReturn_accounts s) (issueReturn_sides s)
  | dequeue | hold | move | exported | enterWait | tablesReset | grantOwn | returnAccept | ringReset =>
    exact hkept rfl rfl

theorem holdInv_of_empty (hu : s.accounts.users = Vector.replicate 64 none) (hr : s.sides.records = [])
    (ho : s.sides.settledOrder = []) : HoldInv s where
  hold i := by
    rw [liveReserves_eq, hr, holdOf_eq, hu]
    simp [holdIn, reserveSum]
  restore _ := hr
  numbered := ⟨by simp [hr], by simp [hr], by simp [ho], by simp [hr]⟩

/-! ### Warnings (R124) -/

/-- Every user record has the property. -/
structure EveryUser (P : User → Prop) (s : State) : Prop where
  users : ∀ i : Fin 64, ∀ u ∈ s.accounts.users[i], P u

/-- A property of user records that the warning test establishes and that no other change of a record without the test
takes away. -/
structure WarningLaw (P : User → Prop) : Prop where
  tested : ∀ u : User, P u.tested
  state : ∀ (u : User) (x : UserState), P u → P { u with state := x }

theorem EveryUser.of_eq {P : User → Prop} (hs : EveryUser P s) (h : t.accounts.users = s.accounts.users) :
    EveryUser P t := ⟨fun i u hu => hs.users i u (h ▸ hu)⟩

theorem User.eq_tested {u : User} (h : u.warned = decide (u.available < u.warn)) : u = u.tested := by
  unfold User.tested
  rw [← h]

theorem EveryUser.put {P : User → Prop} (hs : EveryUser P s) {i : Fin 64} {x : Option User} (hx : ∀ u ∈ x, P u)
    (h : t.accounts.users = put s.accounts.users i x) : EveryUser P t where
  users k u hu := by
    rw [h] at hu
    obtain ⟨-, hu⟩ | ⟨-, hu⟩ := mem_put hu
    · exact hx u hu
    · exact hs.users k u hu

theorem WarningLaw.mapped {P : User → Prop} (hP : WarningLaw P) {h : User → User}
    (hh : ∀ u, (h u).warned = decide ((h u).available < (h u).warn)) (x : Option User) : ∀ u ∈ x.map h, P u := by
  intro u hu
  obtain ⟨y, -, rfl⟩ := Option.map_eq_some_iff.mp hu
  rw [User.eq_tested (hh y)]
  exact hP.tested _

theorem WarningLaw.edited {P : User → Prop} (hP : WarningLaw P) (hs : EveryUser P s) {i : Fin 64} {h : User → User}
    (he : UserEdited i h s t) (hh : ∀ u, (h u).warned = decide ((h u).available < (h u).warn)) : EveryUser P t :=
  hs.put (hP.mapped hh _) he.users

/-- A record takes a slot, with the warning test. -/
theorem WarningLaw.setTested {P : User → Prop} (hP : WarningLaw P) (hs : EveryUser P s) (i : Fin 64)
    (x : Option User) : EveryUser P (warningTest i (setUser i x s)) := by
  refine hs.put (x := x.map User.tested) (hP.mapped (fun _ => rfl) x) (i := i) ?_
  rw [(warningTest_edited i _).users]
  simp only [setUser, put_same, put_put]

theorem WarningLaw.admitSide {P : User → Prop} (hP : WarningLaw P) (hs : EveryUser P s) (r : Side) :
    EveryUser P (admitSide r s) := by
  refine hs.put (x := (s.accounts.users[r.userSlot]).map fun u => User.tested { u with hold := u.hold + r.reserve })
    (hP.mapped (fun _ => rfl) _) (i := r.userSlot) ?_
  unfold Machine.admitSide
  dsimp only
  rw [State.onJob_accounts, (warningTest_edited _ _).users]
  simp only [takeHold, State.onUser, put_same, put_put, Option.map_map]
  rfl

theorem Work.everyUser {P : User → Prop} (hP : WarningLaw P) (h : Work c s t) (hs : EveryUser P s) : EveryUser P t := by
  have hkept : t.accounts.users = s.accounts.users → EveryUser P t := fun h => hs.of_eq h
  cases h with
  | sideAdmit f i j u _ _ _ => exact hP.admitSide hs _
  | sideEnd r h =>
    obtain ⟨k, hk, husers⟩ := h.users
    exact hs.put (hP.mapped (fun u => (hk u).2) _) husers
  | userOpen i u _ _ => exact hP.setTested hs i _
  | userSet i u u' _ _ => exact hP.setTested hs i _
  | userState i u x hu =>
    refine hs.put (i := i) (x := some { u with state := x }) ?_ rfl
    intro y hy
    obtain rfl := Option.some.inj hy
    exact hP.state u x (hs.users i u hu)
  | userRemove i u _ _ => exact hs.put (i := i) (x := none) (fun _ h => by cases h) rfl
  | usersRestore us retired meters _ =>
    refine ⟨fun i u hu => ?_⟩
    rw [restoreUsers_users] at hu
    exact hP.mapped (fun _ => rfl) _ u hu
  | aside h => exact hkept h.users
  | prover h =>
    obtain ⟨_, _, _, rfl⟩ := h.only
    exact hkept rfl
  | regionFree i r _ => exact hkept (freeRegion_kept i r s).users
  | regionDefine f i _ _ => exact hkept (installRegion_kept i _ s).users
  | complete f r v => exact hkept (completeParked_kept f r v s).users
  | supersede e _ => exact hkept (supersede_kept e s).users
  | offer a => exact hkept (offerIndex_kept a s).users
  | store | job | jobOpen | jobFree | refusals | sources | side | strict | restoreOpen | restoreClose | park | queue =>
    exact hkept rfl

theorem tellSideList_accounts (s : State) : (tellSideList s).accounts = s.accounts := by
  unfold tellSideList
  split
  · rfl
  · split
    · rfl
    · split
      · rfl
      · rfl

theorem releasedUser_tested (l : List Side) (i : Fin 64) (u : User) :
    releasedUser l i u = u ∨ releasedUser l i u = (releasedUser l i u).tested := by
  unfold releasedUser
  split
  · exact .inr rfl
  · exact .inl rfl

theorem Change.everyUser {P : User → Prop} (hP : WarningLaw P) (h : Change c s t) (hs : EveryUser P s) :
    EveryUser P t := by
  have hkept : t.accounts = s.accounts → EveryUser P t := fun h => hs.of_eq (by rw [h])
  cases h with
  | work h => exact h.everyUser hP hs
  | sidesEmpty h =>
    refine ⟨fun i u hu => ?_⟩
    rw [h.users] at hu
    obtain ⟨x, hx, rfl⟩ := Option.map_eq_some_iff.mp hu
    obtain he | he := releasedUser_tested (s.sides.records.filter fun r => decide (r.state ≠ .settled)) i x
    · rw [he]
      exact hs.users i x hx
    · rw [he]
      exact hP.tested _
  | sideTold => exact hkept (tellSideList_accounts s)
  | toldResult => exact hkept (tellOrderTaker_accounts s)
  | drain => exact hkept (noteDrain_accounts s)
  | returnIssue => exact hkept (issueReturn_accounts s)
  | sideStart | dequeue | hold | move | exported | enterWait | tablesReset | grantOwn | returnAccept | ringReset =>
    exact hkept rfl

theorem everyUser_of_empty {P : User → Prop} (h : s.accounts.users = Vector.replicate 64 none) : EveryUser P s :=
  ⟨fun i u hu => by simp [h] at hu⟩

theorem step_everyUser {P : User → Prop} (hP : WarningLaw P) : ∀ s t, EveryUser P s → step s = .next t → EveryUser P t :=
  step_keeps (fun _ _ hs => ⟨hs.users⟩) (fun _ _ _ _ => everyUser_of_empty rfl) fun _ _ _ h => h.everyUser hP

/-- Settles O6: every admission, settlement, void and reset moves hold and reserves together, and makes the warning
test. -/
theorem stepKeepsHoldsEqualToReserves : Obligations.StepKeepsHoldsEqualToReserves := by
  refine ⟨step_keeps (fun _ _ hs => ⟨hs.hold, hs.restore, hs.numbered⟩) (fun _ _ _ _ => holdInv_of_empty rfl rfl rfl)
    fun _ _ _ h => h.holdInv, fun s t hs h => ?_, fun s t hs h => ?_⟩
  · have hlaw : WarningLaw fun u => u.credit - u.spent - u.hold < u.warn → u.warned = true :=
      ⟨fun u h => decide_eq_true h, fun _ _ h => h⟩
    exact (step_everyUser hlaw s t ⟨hs⟩ h).users
  · have hlaw : WarningLaw fun u => u.warned = decide (u.credit - u.spent - u.hold < u.warn) :=
      ⟨fun _ => rfl, fun _ _ h => h⟩
    exact (step_everyUser hlaw s t ⟨hs⟩ h).users

end Sys2Proof.Machine
end

section

/-! PROOFS. Every step keeps the draw totals balanced, with the bounds on owed draw and uncertain debits (R141, R154,
R157). -/

namespace Sys2Proof.Machine

variable {c : Instr} {s t u : State} {k : Cartridges} {e e' : Plane → Nat}

/-! ### The draw law with draw in hand -/

/-- A slot record whose debts are in order: the uncertain debit is part of the owed draw, which is in range (R141). -/
structure SlotGood (x : CartridgeSlot) : Prop where
  uncertain : ∀ u ∈ x.uncertain, u ≤ x.owed
  range : x.owed ≤ 4294967295

/-- A debit is due only in a GENUINE slot without an uncertain debit (R152). -/
def DueGood (x : CartridgeSlot) : Prop := x.debitPending = true → x.verdict = .genuine ∧ x.uncertain = none

/-- An entry of the absent list whose debts are in order. -/
structure EntryGood (a : AbsentEntry) : Prop where
  uncertain : ∀ u ∈ a.uncertain, u ≤ a.owed
  range : a.owed ≤ 4294967295

/-- A debit on the line of slot `p` is part of its owed draw. -/
def DebitCovered (line : Option LineExchange) (p : Plane) (x : CartridgeSlot) : Prop :=
  ∀ y ∈ line, y.slot = p → ∀ amount nonce tag, y.message = .debit amount nonce tag →
    amount ≤ x.owed ∧ x.uncertain = none

/-- The draw law, with the draw `e` of each plane in hand: taken from one place and not yet put into another. -/
structure DrawGood (e : Plane → Nat) (k : Cartridges) : Prop where
  law : ∀ p : Plane, k.totals[p].drawn =
    k.totals[p].confirmed + BitVec.ofNat 64 (k.owed p + e p) + k.totals[p].unproven + k.totals[p].lost
  slots : ∀ p : Plane, SlotGood k.slots[p]
  absent : ∀ a ∈ k.absent, EntryGood a
  line : ∀ p : Plane, DebitCovered k.line p k.slots[p]

theorem drawInv_iff : DrawInv s ↔ DrawGood 0 s.cartridges ∧ ∀ p : Plane, DueGood s.cartridges.slots[p] := by
  constructor
  · rintro ⟨law, ⟨hslots, habsent, hdue, hline⟩, hrange, hrange'⟩
    refine ⟨⟨law, fun p => ⟨hslots p, hrange p⟩, fun a ha => ⟨habsent a ha, hrange' a ha⟩, ?_⟩, hdue⟩
    rintro p y hy rfl amount nonce tag hm
    exact hline y hy amount nonce tag hm
  · rintro ⟨⟨law, hslots, habsent, hline⟩, hdue⟩
    exact ⟨law, ⟨fun p => (hslots p).uncertain, fun a ha => (habsent a ha).uncertain, hdue,
      fun y hy => hline y.slot y hy rfl⟩, fun p => (hslots p).range, fun a ha => (habsent a ha).range⟩

theorem DrawGood.of_eq {k' : Cartridges} (h : DrawGood e k) (hs : k'.slots = k.slots) (ha : k'.absent = k.absent)
    (ht : k'.totals = k.totals) (hl : k'.line = k.line) : DrawGood e k' := by
  have howed : ∀ p, k'.owed p = k.owed p := fun p => by unfold Cartridges.owed; rw [hs, ha]
  exact ⟨fun p => by rw [ht, howed, h.law], fun p => hs ▸ h.slots p, fun a hm => h.absent a (ha ▸ hm),
    fun p => by rw [hl, hs]; exact h.line p⟩

theorem debitCovered_none (p : Plane) (x : CartridgeSlot) : DebitCovered none p x := fun _ hy => by cases hy

/-- A slot record is replaced, and what its owed draw loses is in hand, or the reverse; the line may be given to
another exchange. -/
theorem DrawGood.putSlot (h : DrawGood e k) {p : Plane} {y : CartridgeSlot} {line : Option LineExchange}
    (hgood : SlotGood y) (hp : y.owed + e' p = k.slots[p].owed + e p) (hq : ∀ q, q ≠ p → e' q = e q)
    (hcovered : DebitCovered line p y) (hother : ∀ q, q ≠ p → DebitCovered line q k.slots[q]) :
    DrawGood e' { k with slots := put k.slots p y, line } := by
  have hslot : ∀ q, q ≠ p → (put k.slots p y)[q] = k.slots[q] := fun q hq => put_other _ _ _ _ (Ne.symm hq)
  refine ⟨fun q => ?_, fun q => ?_, h.absent, fun q => ?_⟩ <;> dsimp only
  · rw [h.law q]
    unfold Cartridges.owed
    dsimp only
    by_cases hqp : q = p
    · subst hqp
      have hsum : k.slots[q].owed + absentOwed k.absent q + e q = y.owed + absentOwed k.absent q + e' q := by omega
      rw [put_same, hsum]
    · rw [hslot q hqp, hq q hqp]
  · by_cases hqp : q = p
    · subst hqp
      rw [put_same]
      exact hgood
    · rw [hslot q hqp]
      exact h.slots q
  · by_cases hqp : q = p
    · subst hqp
      rw [put_same]
      exact hcovered
    · rw [hslot q hqp]
      exact hother q hqp

/-- The totals of a plane take in draw that was in hand. -/
theorem DrawGood.putTotals (h : DrawGood e k) {p : Plane} {x : DrawTotals}
    (hp : x.drawn + k.totals[p].confirmed + BitVec.ofNat 64 (e p) + k.totals[p].unproven + k.totals[p].lost =
      k.totals[p].drawn + x.confirmed + BitVec.ofNat 64 (e' p) + x.unproven + x.lost)
    (hq : ∀ q, q ≠ p → e' q = e q) : DrawGood e' { k with totals := put k.totals p x } := by
  refine ⟨fun q => ?_, h.slots, h.absent, h.line⟩
  dsimp only
  by_cases hqp : q = p
  · subst hqp
    rw [put_same]
    have hlaw := h.law q
    change x.drawn = x.confirmed + BitVec.ofNat 64 (k.owed q + e' q) + x.unproven + x.lost
    rw [BitVec.ofNat_add] at hlaw ⊢
    linear_combination hp + hlaw
  · rw [put_other _ _ _ _ (Ne.symm hqp), hq q hqp]
    exact h.law q

/-- The absent list is replaced, and the draw that it loses is in hand, or the reverse. -/
theorem DrawGood.putAbsent (h : DrawGood e k) {l : List AbsentEntry} (hgood : ∀ a ∈ l, EntryGood a)
    (howed : ∀ q, absentOwed l q + e' q = absentOwed k.absent q + e q) : DrawGood e' { k with absent := l } := by
  refine ⟨fun q => ?_, h.slots, hgood, h.line⟩
  rw [h.law q]
  unfold Cartridges.owed
  dsimp only
  rw [Nat.add_assoc, Nat.add_assoc, howed]

/-! ### The draw law and the prover's operations -/

/-- Draw of plane `p` in hand. -/
def inHand (p : Plane) (d : Nat) : Plane → Nat := fun q => if q = p then d else 0

@[simp] theorem inHand_same (p : Plane) (d : Nat) : inHand p d p = d := if_pos rfl

theorem inHand_other {p q : Plane} (d : Nat) (h : q ≠ p) : inHand p d q = 0 := if_neg h

theorem DrawGood.onSlot (h : DrawGood e s.cartridges) {p : Plane} {f : CartridgeSlot → CartridgeSlot}
    (hgood : SlotGood (f s.cartridges.slots[p]))
    (hp : (f s.cartridges.slots[p]).owed + e' p = s.cartridges.slots[p].owed + e p) (hq : ∀ q, q ≠ p → e' q = e q)
    (hcovered : DebitCovered s.cartridges.line p (f s.cartridges.slots[p])) :
    DrawGood e' (s.onSlot p f).cartridges :=
  h.putSlot hgood hp hq hcovered fun q _ => h.line q

/-- A change of a slot record that keeps its debts keeps the law. -/
theorem DrawGood.onSlot_same (h : DrawGood e s.cartridges) {p : Plane} {f : CartridgeSlot → CartridgeSlot}
    (howed : (f s.cartridges.slots[p]).owed = s.cartridges.slots[p].owed)
    (huncertain : (f s.cartridges.slots[p]).uncertain = s.cartridges.slots[p].uncertain) :
    DrawGood e (s.onSlot p f).cartridges := by
  refine h.onSlot ⟨?_, howed ▸ (h.slots p).range⟩ (by rw [howed]) (fun _ _ => rfl) ?_
  · rw [howed, huncertain]
    exact (h.slots p).uncertain
  · unfold DebitCovered
    rw [howed, huncertain]
    exact h.line p

/-- The uncertain debit of a slot is cleared. -/
theorem DrawGood.clearUncertain (h : DrawGood e s.cartridges) {p : Plane} {f : CartridgeSlot → CartridgeSlot}
    (howed : (f s.cartridges.slots[p]).owed = s.cartridges.slots[p].owed)
    (huncertain : (f s.cartridges.slots[p]).uncertain = none) : DrawGood e (s.onSlot p f).cartridges := by
  refine h.onSlot ⟨by rw [huncertain]; exact fun _ hu => (nomatch hu), howed ▸ (h.slots p).range⟩ (by rw [howed])
    (fun _ _ => rfl) ?_
  intro y hy hs amount nonce tag hm
  exact ⟨howed ▸ (h.line p y hy hs amount nonce tag hm).1, huncertain⟩

theorem DrawGood.freeLine (h : DrawGood e s.cartridges) : DrawGood e (freeLine s).cartridges :=
  ⟨h.law, h.slots, h.absent, fun p => debitCovered_none p _⟩

theorem DrawGood.changeVerdict (h : DrawGood e s.cartridges) (p : Plane) (v : Verdict) :
    DrawGood e (changeVerdict p v s).cartridges := by
  unfold Machine.changeVerdict
  split
  · exact h
  · exact h.onSlot_same (p := p)
      (f := fun c => { c with verdict := v, debitPending := c.debitPending && decide (v = .genuine) }) rfl rfl

theorem DrawGood.requestProbe (h : DrawGood e s.cartridges) (p : Plane) :
    DrawGood e (requestProbe p s).cartridges := by
  unfold Machine.requestProbe
  dsimp only
  split
  · exact h.onSlot_same rfl rfl
  · exact h

theorem DrawGood.thresholdTest (h : DrawGood e s.cartridges) (p : Plane) :
    DrawGood e (thresholdTest p s).cartridges := by
  unfold Machine.thresholdTest
  dsimp only
  split
  · exact h.onSlot_same rfl rfl
  · exact h

theorem DrawGood.addLost (h : DrawGood e s.cartridges) {p : Plane} {d : Nat} (hp : e p = e' p + d)
    (hq : ∀ q, q ≠ p → e' q = e q) : DrawGood e' (addLost p d s).cartridges := by
  refine h.putTotals ?_ hq
  rw [hp, BitVec.ofNat_add]
  ring

theorem DrawGood.addUnproven (h : DrawGood e s.cartridges) {p : Plane} {d : Nat} (hp : e p = e' p + d)
    (hq : ∀ q, q ≠ p → e' q = e q) : DrawGood e' (addUnproven p d s).cartridges := by
  refine h.putTotals ?_ hq
  rw [hp, BitVec.ofNat_add]
  ring

theorem DrawGood.addConfirmed (h : DrawGood e s.cartridges) {p : Plane} {d : Nat} (hp : e p = e' p + d)
    (hq : ∀ q, q ≠ p → e' q = e q) : DrawGood e' (addConfirmed p d s).cartridges := by
  refine h.putTotals ?_ hq
  rw [hp, BitVec.ofNat_add]
  ring

theorem DrawGood.addDrawn (h : DrawGood e s.cartridges) {p : Plane} {d : Nat} (hp : e' p = e p + d)
    (hq : ∀ q, q ≠ p → e' q = e q) : DrawGood e' (addDrawn p d s).cartridges := by
  refine h.putTotals ?_ hq
  rw [hp, BitVec.ofNat_add]
  ring

theorem DrawGood.loseExcess (h : DrawGood e s.cartridges) {p : Plane} {owed d : Nat}
    (hp : e p = e' p + (owed + d - max32)) (hq : ∀ q, q ≠ p → e' q = e q) :
    DrawGood e' (loseExcess p owed d s).cartridges := by
  unfold Machine.loseExcess
  split
  · exact h.addLost hp hq
  · have he : e' = e := funext fun q => by
      by_cases hqp : q = p
      · subst hqp
        omega
      · exact hq q hqp
    exact he ▸ h

/-- Draw in hand goes to a slot's owed draw, what is too much for it to lost (R157). -/
theorem DrawGood.oweSlot (h : DrawGood e s.cartridges) {p : Plane} {d : Nat} (hp : e p = e' p + d)
    (hq : ∀ q, q ≠ p → e' q = e q) : DrawGood e' (oweSlot p d s).cartridges := by
  obtain ⟨hun, hrange⟩ := h.slots p
  let kept : Plane → Nat := fun q => if q = p then e p - (min max32 (s.cartridges.slots[p].owed + d) -
    s.cartridges.slots[p].owed) else e q
  have hkept : kept p = e p - (min max32 (s.cartridges.slots[p].owed + d) - s.cartridges.slots[p].owed) := if_pos rfl
  refine DrawGood.thresholdTest (DrawGood.loseExcess (e := kept)
    (h.onSlot ⟨fun u hu => ?_, Nat.min_le_left _ _⟩ ?_ (fun q hqp => if_neg hqp) ?_) ?_ ?_) p
  · have := hun u hu
    simp only [max32]
    omega
  · rw [hkept]
    simp only [max32]
    omega
  · intro y hy hs amount nonce tag hm
    obtain ⟨hle, hnone⟩ := h.line p y hy hs amount nonce tag hm
    refine ⟨?_, hnone⟩
    simp only [max32]
    omega
  · rw [hkept]
    simp only [max32]
    omega
  · intro q hqp
    rw [hq q hqp]
    exact (if_neg hqp).symm

theorem absentOwed_cons (a : AbsentEntry) (l : List AbsentEntry) (q : Plane) :
    absentOwed (a :: l) q = (if a.plane = q then a.owed else 0) + absentOwed l q := by
  unfold absentOwed
  rw [List.map_cons, List.sum_cons]

theorem absentOwed_append (l l' : List AbsentEntry) (q : Plane) :
    absentOwed (l ++ l') q = absentOwed l q + absentOwed l' q := by
  unfold absentOwed
  rw [List.map_append, List.sum_append]

/-- What an addition to the first entry with a serial and plane does to the list's owed draw. -/
theorem oweEntries_good {l : List AbsentEntry} {a : AbsentEntry} {v : Serial} {p : Plane}
    (hl : ∀ x ∈ l, EntryGood x)
    (ha : l.find? (fun a => decide (a.serial = v) && decide (a.plane = p)) = some a) (d : Nat) :
    (∀ x ∈ oweEntries v p d l, EntryGood x) ∧
    (∀ q, q ≠ p → absentOwed (oweEntries v p d l) q = absentOwed l q) ∧
    absentOwed (oweEntries v p d l) p + a.owed = absentOwed l p + min max32 (a.owed + d) := by
  induction l with
  | nil => cases ha
  | cons x l ih =>
    obtain ⟨hx, hl⟩ := List.forall_mem_cons.mp hl
    rw [List.find?_cons] at ha
    split at ha
    case h_1 hm =>
      obtain rfl := Option.some.inj ha
      rw [Bool.and_eq_true, decide_eq_true_eq, decide_eq_true_eq] at hm
      obtain ⟨rfl, rfl⟩ := hm
      simp only [oweEntries, and_self, if_true, absentOwed_cons]
      refine ⟨List.forall_mem_cons.mpr ⟨⟨fun u hu => ?_, Nat.min_le_left _ _⟩, hl⟩, fun q hq => ?_, by omega⟩
      · have := hx.uncertain u hu
        have := hx.range
        simp only [max32]
        omega
      · rw [if_neg (Ne.symm hq), if_neg (Ne.symm hq)]
    case h_2 hm =>
      rw [Bool.and_eq_false_iff, decide_eq_false_iff_not, decide_eq_false_iff_not] at hm
      have hn : ¬ (x.serial = v ∧ x.plane = p) := fun h => hm.elim (· h.1) (· h.2)
      obtain ⟨hgood, hother, hsum⟩ := ih hl ha
      simp only [oweEntries, if_neg hn, absentOwed_cons]
      exact ⟨List.forall_mem_cons.mpr ⟨hx, hgood⟩, fun q hq => by rw [hother q hq], by omega⟩

/-- Draw in hand goes to an absent-list entry's owed draw, what is too much for it to lost (R157). -/
theorem DrawGood.oweAbsent (h : DrawGood e s.cartridges) {p : Plane} {d : Nat} {v : Serial} {a : AbsentEntry}
    (ha : s.absentEntry v p = some a) (hp : e p = e' p + d) (hq : ∀ q, q ≠ p → e' q = e q) :
    DrawGood e' (oweAbsent a d s).cartridges := by
  have hm := List.find?_some ha
  rw [Bool.and_eq_true, decide_eq_true_eq, decide_eq_true_eq] at hm
  obtain ⟨rfl, rfl⟩ := hm
  have hrange := (h.absent a (List.mem_of_find?_eq_some ha)).range
  obtain ⟨hgood, hother, hsum⟩ := oweEntries_good h.absent ha d
  let kept : Plane → Nat := fun q => if q = a.plane then e a.plane - (min max32 (a.owed + d) - a.owed) else e q
  have hkept : kept a.plane = e a.plane - (min max32 (a.owed + d) - a.owed) := if_pos rfl
  refine DrawGood.loseExcess (e := kept) ?_ ?_ ?_
  · refine h.putAbsent hgood fun q => ?_
    by_cases hqp : q = a.plane
    · subst hqp
      rw [hkept]
      simp only [max32] at hsum ⊢
      omega
    · rw [hother q hqp]
      exact congrArg _ (if_neg hqp)
  · rw [hkept]
    simp only [max32]
    omega
  · intro q hqp
    rw [hq q hqp]
    exact (if_neg hqp).symm

/-- Draw in hand joins the absent list with its entry; the entry that a full list drops goes to lost (R154). -/
theorem DrawGood.joinAbsent (h : DrawGood e s.cartridges) {a : AbsentEntry} (ha : EntryGood a)
    (hp : e a.plane = e' a.plane + a.owed) (hq : ∀ q, q ≠ a.plane → e' q = e q) :
    DrawGood e' (joinAbsent a s).cartridges := by
  have hjoined : ∀ q, (if a.plane = q then a.owed else 0) + e' q = e q := fun q => by
    by_cases hqp : q = a.plane
    · subst hqp
      rw [if_pos rfl]
      omega
    · rw [if_neg (Ne.symm hqp), hq q hqp, Nat.zero_add]
  have hgood : ∀ l : List AbsentEntry, (∀ x ∈ l, EntryGood x) → ∀ x ∈ l ++ [a], EntryGood x := fun l hl x hx => by
    rcases List.mem_append.mp hx with hx | hx
    · exact hl x hx
    · exact List.mem_singleton.mp hx ▸ ha
  have hnil : ∀ q, absentOwed [] q = 0 := fun q => rfl
  unfold Machine.joinAbsent
  split
  case h_1 hnone =>
    refine h.putAbsent (hgood [] (fun _ hx => nomatch hx)) fun q => ?_
    have := hjoined q
    rw [absentOwed_cons, hnone, hnil]
    omega
  case h_2 old rest hlist =>
    have hall := h.absent
    rw [hlist, List.forall_mem_cons] at hall
    obtain ⟨hold, hrest⟩ := hall
    split
    · let kept : Plane → Nat := fun q => e' q + (if old.plane = q then old.owed else 0)
      have hkept : kept old.plane = e' old.plane + old.owed := congrArg (e' old.plane + ·) (if_pos rfl)
      refine DrawGood.addLost (e := kept) ?_ hkept fun q hqp => ?_
      · refine h.putAbsent (hgood rest hrest) fun q => ?_
        have := hjoined q
        rw [absentOwed_append, absentOwed_cons, hlist, absentOwed_cons, hnil]
        change _ + (e' q + _) = _
        omega
      · change _ = e' q + _
        rw [if_neg (Ne.symm hqp), Nat.add_zero]
    · refine h.putAbsent (hgood (old :: rest) (List.forall_mem_cons.mpr ⟨hold, hrest⟩)) fun q => ?_
      have := hjoined q
      rw [absentOwed_append, absentOwed_cons, hlist, absentOwed_cons, absentOwed_cons, hnil]
      omega

/-- The serial state leaves the slot; a debit of the slot must not be on the line. -/
theorem DrawGood.stashSlot (h : DrawGood e s.cartridges) {p : Plane}
    (hline : ∀ y, DebitCovered s.cartridges.line p y) : DrawGood e (stashSlot p s).cartridges := by
  obtain ⟨hun, hrange⟩ := h.slots p
  let out : Plane → Nat := fun q => e q + (if p = q then s.cartridges.slots[p].owed else 0)
  have hout : out p = e p + s.cartridges.slots[p].owed := congrArg _ (if_pos rfl)
  have hother : ∀ q, q ≠ p → out q = e q := fun q hqp => by
    change _ + _ = _
    rw [if_neg (Ne.symm hqp), Nat.add_zero]
  have hcleared : DrawGood out (s.onSlot p fun c => { c with owed := 0, uncertain := none }).cartridges := by
    refine h.onSlot ⟨fun _ hu => (nomatch hu), Nat.zero_le _⟩ ?_ hother (hline _)
    rw [hout, Nat.zero_add, Nat.add_comm]
  unfold Machine.stashSlot
  dsimp only
  split
  · exact hcleared.joinAbsent ⟨hun, hrange⟩ hout fun q hqp => (hother q hqp).symm
  case isFalse hzero =>
    have he : e = out := funext fun q => by
      by_cases hqp : q = p
      · subst hqp
        rw [hout]
        omega
      · exact (hother q hqp).symm
    rw [he]
    exact hcleared

end Sys2Proof.Machine
end

section

/-! PROOFS. A step of the cartridge prover acts on one slot and at most frees the line, and keeps the draw law. -/

namespace Sys2Proof.Machine

variable {c : Instr} {s t u : State} {e e' : Plane → Nat} {p : Plane}

/-! ### Acting on one slot -/

/-- `t` differs from `s` in no slot but `p`, and its line carries the same exchange or none. -/
structure ActsOn (p : Plane) (s t : State) : Prop where
  others : ∀ q : Plane, q ≠ p → t.cartridges.slots[q] = s.cartridges.slots[q]
  line : t.cartridges.line = s.cartridges.line ∨ t.cartridges.line = none

theorem actsOn_of_eq (p : Plane) (hs : t.cartridges.slots = s.cartridges.slots)
    (hl : t.cartridges.line = s.cartridges.line) : ActsOn p s t := ⟨fun q _ => by rw [hs], .inl hl⟩

theorem ActsOn.refl (p : Plane) (s : State) : ActsOn p s s := ⟨fun _ _ => rfl, .inl rfl⟩

theorem ActsOn.trans (hst : ActsOn p s t) (htu : ActsOn p t u) : ActsOn p s u := by
  refine ⟨fun q hq => (htu.others q hq).trans (hst.others q hq), ?_⟩
  rcases htu.line with h | h
  · rw [h]
    exact hst.line
  · exact .inr h

theorem onSlot_slot (s : State) (p : Plane) (f : CartridgeSlot → CartridgeSlot) :
    (s.onSlot p f).cartridges.slots[p] = f s.cartridges.slots[p] := put_same _ _ _

theorem onSlot_acts (s : State) (p : Plane) (f : CartridgeSlot → CartridgeSlot) : ActsOn p s (s.onSlot p f) :=
  ⟨fun _ hq => put_other _ _ _ _ (Ne.symm hq), .inl rfl⟩

theorem freeLine_slots (s : State) : (freeLine s).cartridges.slots = s.cartridges.slots := rfl

theorem addConfirmed_slots (q : Plane) (d : Nat) (s : State) :
    (addConfirmed q d s).cartridges.slots = s.cartridges.slots := rfl

theorem freeLine_acts (p : Plane) (s : State) : ActsOn p s (freeLine s) := ⟨fun _ _ => rfl, .inr rfl⟩

theorem raise_acts (p : Plane) (n : Notice) (s : State) : ActsOn p s (s.raise n) := actsOn_of_eq p rfl rfl

theorem freeLine_onSlot (s : State) (p : Plane) (f : CartridgeSlot → CartridgeSlot) :
    freeLine (s.onSlot p f) = (freeLine s).onSlot p f := rfl

theorem changeVerdict_acts (p : Plane) (v : Verdict) (s : State) : ActsOn p s (changeVerdict p v s) := by
  unfold changeVerdict
  split
  · exact .refl p s
  · exact (onSlot_acts s p _).trans (raise_acts p _ _)

theorem requestProbe_acts (p : Plane) (s : State) : ActsOn p s (requestProbe p s) := by
  unfold requestProbe
  dsimp only
  split
  · exact onSlot_acts s p _
  · exact .refl p s

theorem thresholdTest_acts (p : Plane) (s : State) : ActsOn p s (thresholdTest p s) := by
  unfold thresholdTest
  dsimp only
  split
  · exact onSlot_acts s p _
  · exact .refl p s

theorem loseExcess_slots (q : Plane) (owed d : Nat) (s : State) :
    (loseExcess q owed d s).cartridges.slots = s.cartridges.slots := by
  unfold loseExcess
  split <;> rfl

theorem loseExcess_line (q : Plane) (owed d : Nat) (s : State) :
    (loseExcess q owed d s).cartridges.line = s.cartridges.line := by
  unfold loseExcess
  split <;> rfl

theorem loseExcess_acts (p q : Plane) (owed d : Nat) (s : State) : ActsOn p s (loseExcess q owed d s) :=
  actsOn_of_eq p (loseExcess_slots q owed d s) (loseExcess_line q owed d s)

theorem oweSlot_acts (p : Plane) (d : Nat) (s : State) : ActsOn p s (oweSlot p d s) :=
  ((onSlot_acts s p _).trans (loseExcess_acts p p _ d _)).trans (thresholdTest_acts p _)

theorem oweAbsent_slots (a : AbsentEntry) (d : Nat) (s : State) :
    (oweAbsent a d s).cartridges.slots = s.cartridges.slots := loseExcess_slots _ _ _ _

theorem oweAbsent_acts (p : Plane) (a : AbsentEntry) (d : Nat) (s : State) : ActsOn p s (oweAbsent a d s) :=
  actsOn_of_eq p (oweAbsent_slots a d s) (loseExcess_line _ _ _ _)

theorem joinAbsent_slots (a : AbsentEntry) (s : State) :
    (joinAbsent a s).cartridges.slots = s.cartridges.slots := by
  unfold joinAbsent
  split
  · rfl
  · split <;> rfl

theorem stashSlot_slots (p : Plane) (s : State) : (stashSlot p s).cartridges.slots =
    (s.onSlot p fun c => { c with owed := 0, uncertain := none }).cartridges.slots := by
  unfold stashSlot
  dsimp only
  split
  · exact joinAbsent_slots _ _
  · rfl

theorem stashSlot_slot (p : Plane) (s : State) : (stashSlot p s).cartridges.slots[p] =
    { s.cartridges.slots[p] with owed := 0, uncertain := none } := by
  rw [stashSlot_slots, onSlot_slot]

theorem stashSlot_acts (p : Plane) (s : State) : ActsOn p s (stashSlot p s) :=
  (onSlot_acts s p _).trans (actsOn_of_eq p (stashSlot_slots p s) (stashSlot_line p s))

theorem claimEntry_acts (p : Plane) (a : AbsentEntry) (s : State) : ActsOn p s (claimEntry p a s) := by
  unfold claimEntry
  dsimp only
  refine ActsOn.trans ?_ (onSlot_acts _ p _)
  exact ⟨fun q hq => (stashSlot_acts p _).others q hq, (stashSlot_acts p _).line⟩

theorem claimEntry_slot (p : Plane) (a : AbsentEntry) (s : State) : (claimEntry p a s).cartridges.slots[p] =
    { s.cartridges.slots[p] with serial := some a.serial, owed := a.owed, remaining := a.remaining,
                                 uncertain := a.uncertain } := by
  unfold claimEntry
  dsimp only
  rw [onSlot_slot, stashSlot_slot]

theorem closeAttempt_acts (p : Plane) (o : ProofOutcome) (s : State) : ActsOn p s (closeAttempt p o s) := by
  have hfreed : ∀ f : CartridgeSlot → CartridgeSlot, ActsOn p s (freeLine (s.onSlot p f)) := fun f =>
    (onSlot_acts s p f).trans (freeLine_acts p _)
  unfold closeAttempt
  dsimp only
  split
  · exact (((hfreed _).trans (onSlot_acts _ p _)).trans (changeVerdict_acts p _ _)).trans (thresholdTest_acts p _)
  · exact ((hfreed _).trans (onSlot_acts _ p _)).trans (changeVerdict_acts p _ _)
  all_goals
    split
    all_goals exact ((hfreed _).trans (onSlot_acts _ p _)).trans (changeVerdict_acts p _ _)

theorem endDebitBadly_acts (p : Plane) (amount : Nat) (silent : Bool) (s : State) :
    ActsOn p s (endDebitBadly p amount silent s) :=
  ((((onSlot_acts s p _).trans (freeLine_acts p _)).trans (changeVerdict_acts p _ _)).trans
    (requestProbe_acts p _)).trans (thresholdTest_acts p _)

theorem addDrawn_acts (p q : Plane) (d : Nat) (s : State) : ActsOn p s (addDrawn q d s) := actsOn_of_eq p rfl rfl

theorem addConfirmed_acts (p q : Plane) (d : Nat) (s : State) : ActsOn p s (addConfirmed q d s) :=
  actsOn_of_eq p rfl rfl

theorem confirmDebit_acts (p : Plane) (amount n : Nat) (s : State) : ActsOn p s (confirmDebit p amount n s) :=
  (((onSlot_acts s p _).trans (addConfirmed_acts p p amount _)).trans (freeLine_acts p _)).trans
    (thresholdTest_acts p _)

theorem keepUncertain_acts (p : Plane) (s : State) : ActsOn p s (keepUncertain p s) := by
  unfold keepUncertain
  split
  · exact onSlot_acts s p _
  · exact .refl p s

theorem dropExchange_acts (p : Plane) (s : State) : ActsOn p s (dropExchange p s) := by
  unfold dropExchange
  split
  · split
    · exact freeLine_acts p s
    · exact .refl p s
  · exact .refl p s

theorem removeCartridge_acts (p : Plane) (s : State) :
    ActsOn p s ((stashSlot p (dropExchange p (keepUncertain p s))).onSlot p fun _ => CartridgeSlot.empty) :=
  (((keepUncertain_acts p s).trans (dropExchange_acts p _)).trans (stashSlot_acts p _)).trans (onSlot_acts _ p _)

theorem routeSideDraw_acts (p : Plane) (d : Nat) (v : Option Serial) (s : State) :
    ActsOn p s (routeSideDraw p d v s).1 := by
  unfold routeSideDraw
  dsimp only
  split
  · exact actsOn_of_eq p rfl rfl
  · split
    · exact (addDrawn_acts p p d s).trans (oweSlot_acts p d _)
    · split
      · exact (addDrawn_acts p p d s).trans (oweAbsent_acts p _ d _)
      · exact actsOn_of_eq p rfl rfl

theorem routeUnattributed_acts (p : Plane) (d : Nat) (s : State) : ActsOn p s (routeUnattributed p d s) := by
  unfold routeUnattributed
  dsimp only
  split
  · exact (addDrawn_acts p p d s).trans (oweSlot_acts p d _)
  · exact actsOn_of_eq p rfl rfl

/-! ### When a debit is due -/

/-- The slot record with another verdict, which clears a due debit unless it is GENUINE (R145). -/
def CartridgeSlot.judged (v : Verdict) (x : CartridgeSlot) : CartridgeSlot :=
  { x with verdict := v, debitPending := x.debitPending && (decide (x.verdict = v) || decide (v = .genuine)) }

theorem changeVerdict_slot (p : Plane) (v : Verdict) (s : State) :
    (changeVerdict p v s).cartridges.slots[p] = s.cartridges.slots[p].judged v := by
  unfold changeVerdict CartridgeSlot.judged
  by_cases hv : s.cartridges.slots[p].verdict = v
  · rw [if_pos hv, decide_eq_true hv, Bool.true_or, Bool.and_true]
    subst hv
    rfl
  · rw [if_neg hv, State.raise_cartridges, onSlot_slot, decide_eq_false hv, Bool.false_or]

theorem DueGood.judged_genuine {x : CartridgeSlot} (h : DueGood x) : DueGood (x.judged .genuine) := fun hd =>
  ⟨rfl, (h (Bool.and_eq_true_iff.mp hd).1).2⟩

theorem dueGood_judged {x : CartridgeSlot} {v : Verdict} (h : x.debitPending = true → x.verdict = .genuine)
    (hv : v ≠ .genuine) : DueGood (x.judged v) := by
  intro hd
  obtain ⟨hx, hkept⟩ := Bool.and_eq_true_iff.mp hd
  rw [decide_eq_false hv, Bool.or_false, decide_eq_true_eq] at hkept
  exact absurd (hkept ▸ h hx) hv

theorem thresholdTest_due (h : DueGood s.cartridges.slots[p]) : DueGood (thresholdTest p s).cartridges.slots[p] := by
  unfold thresholdTest
  dsimp only
  split
  case isTrue ht =>
    rw [onSlot_slot]
    exact fun _ => ⟨ht.2.1, ht.2.2.1⟩
  case isFalse => exact h

theorem requestProbe_due (h : DueGood s.cartridges.slots[p]) : DueGood (requestProbe p s).cartridges.slots[p] := by
  unfold requestProbe
  dsimp only
  split
  · rw [onSlot_slot]
    exact h
  · exact h

/-- The end of an attempt leaves a debit due only in order, whatever the slot's uncertain debit was unless it is a
PASS. -/
theorem closeAttempt_due {o : ProofOutcome} (hdue : s.cartridges.slots[p].debitPending = true →
      s.cartridges.slots[p].verdict = .genuine)
    (hpass : o = .pass → DueGood s.cartridges.slots[p]) : DueGood (closeAttempt p o s).cartridges.slots[p] := by
  have hfreed : ∀ (x : State) (f : CartridgeSlot → CartridgeSlot),
      (freeLine (x.onSlot p f)).cartridges.slots[p] = f x.cartridges.slots[p] := fun x f => onSlot_slot x p f
  unfold closeAttempt
  dsimp only
  split
  · refine thresholdTest_due ?_
    rw [changeVerdict_slot, onSlot_slot, hfreed]
    exact DueGood.judged_genuine (hpass rfl)
  · rw [changeVerdict_slot, onSlot_slot, hfreed]
    exact dueGood_judged hdue (by decide)
  all_goals
    split
    all_goals
      rw [changeVerdict_slot, onSlot_slot, hfreed]
      exact dueGood_judged hdue (by decide)

theorem oweSlot_due {d : Nat} (h : DueGood s.cartridges.slots[p]) : DueGood (oweSlot p d s).cartridges.slots[p] := by
  refine thresholdTest_due ?_
  rw [loseExcess_slots, onSlot_slot]
  exact h

/-! ### The steps of the prover keep the draw law -/

theorem DrawGood.line_replaced {k : Cartridges} (h : DrawGood e k) {line : Option LineExchange}
    (hl : ∀ p : Plane, DebitCovered line p k.slots[p]) (position : Plane) : DrawGood e { k with line, position } :=
  ⟨h.law, h.slots, h.absent, hl⟩

/-- While a proof is on the line, no debit is. -/
theorem ProofOnLine.noDebit (h : ProofOnLine p s) (q : Plane) (y : CartridgeSlot) :
    DebitCovered s.cartridges.line q y := by
  obtain ⟨x, nonce, hx, -, hm⟩ := h
  intro z hz _ amount nonce' tag hz'
  rw [hx] at hz
  cases hz
  rw [hm] at hz'
  cases hz'

theorem DebitOnLine.covered {amount : Nat} (h : DebitOnLine p amount s) (hs : DrawGood e s.cartridges) :
    amount ≤ s.cartridges.slots[p].owed ∧ s.cartridges.slots[p].uncertain = none := by
  obtain ⟨x, nonce, tag, hx, hp, hm⟩ := h
  exact hs.line p x hx hp amount nonce tag hm

theorem zero_eq_inHand_off {d : Nat} (q : Plane) (hq : q ≠ p) : (0 : Plane → Nat) q = inHand p d q :=
  (inHand_other d hq).symm

theorem inHand_eq_zero_add (p : Plane) (d : Nat) : inHand p d p = (0 : Plane → Nat) p + d := by
  rw [inHand_same]
  exact (Nat.zero_add d).symm

theorem DrawGood.routeSideDraw (h : DrawGood 0 s.cartridges) (p : Plane) (d : Nat) (v : Option Serial) :
    DrawGood 0 (routeSideDraw p d v s).1.cartridges := by
  have hdrawn : DrawGood (inHand p d) (Machine.addDrawn p d s).cartridges :=
    h.addDrawn (inHand_eq_zero_add p d) fun q hq => inHand_other d hq
  unfold Machine.routeSideDraw
  dsimp only
  split
  · exact hdrawn.addUnproven (inHand_eq_zero_add p d) zero_eq_inHand_off
  · split
    · exact hdrawn.oweSlot (inHand_eq_zero_add p d) zero_eq_inHand_off
    · split
      case h_1 a ha => exact hdrawn.oweAbsent (p := p) ha (inHand_eq_zero_add p d) zero_eq_inHand_off
      · exact hdrawn.addUnproven (inHand_eq_zero_add p d) zero_eq_inHand_off

theorem DrawGood.routeUnattributed (h : DrawGood 0 s.cartridges) (p : Plane) (d : Nat) :
    DrawGood 0 (routeUnattributed p d s).cartridges := by
  have hdrawn : DrawGood (inHand p d) (Machine.addDrawn p d s).cartridges :=
    h.addDrawn (inHand_eq_zero_add p d) fun q hq => inHand_other d hq
  unfold Machine.routeUnattributed
  dsimp only
  split
  · exact hdrawn.oweSlot (inHand_eq_zero_add p d) zero_eq_inHand_off
  · exact hdrawn.addUnproven (inHand_eq_zero_add p d) zero_eq_inHand_off

theorem DrawGood.restoredTotals (h : DrawGood e s.cartridges) (v : Vector DrawTotals 4) :
    DrawGood 0 { s.cartridges with totals := restoredTotals s.cartridges v } := by
  refine ⟨fun p => ?_, h.slots, h.absent, h.line⟩
  have htotals : (Machine.restoredTotals s.cartridges v)[p] = { v[p] with
      drawn := v[p].confirmed + v[p].unproven + v[p].lost + BitVec.ofNat 64 (s.cartridges.owed p) } := by
    unfold Machine.restoredTotals
    exact Vector.getElem_ofFn _
  dsimp only
  rw [htotals]
  change _ = v[p].confirmed + BitVec.ofNat 64 (s.cartridges.owed p + 0) + v[p].unproven + v[p].lost
  dsimp only
  rw [Nat.add_zero]
  ring

/-- A proof begins: its challenge takes the line. -/
theorem DrawGood.beginProof (h : DrawGood e s.cartridges) (p : Plane) : DrawGood e (beginProof p s).cartridges := by
  have hslot : DrawGood e ((drawRandom s).2.onSlot p fun c =>
      { c with exchange := .probe, probePending := false, attempts := c.attempts + 1 }).cartridges :=
    DrawGood.onSlot_same (s := (drawRandom s).2) h rfl rfl
  refine hslot.line_replaced (fun q y hy _ amount nonce tag hm => ?_) p
  cases hy
  cases hm

/-- A debit begins, its amount the owed draw. -/
theorem DrawGood.beginDebit (h : DrawGood e s.cartridges) (hnone : s.cartridges.slots[p].uncertain = none) :
    DrawGood e (beginDebit p s).cartridges := by
  have hslot : DrawGood e ((drawRandom s).2.onSlot p fun c =>
      { c with exchange := .debit, debitPending := false }).cartridges :=
    DrawGood.onSlot_same (s := (drawRandom s).2) h rfl rfl
  refine hslot.line_replaced (fun q y hy hq amount nonce tag hm => ?_) p
  cases hy
  cases hm
  obtain rfl : p = q := hq
  rw [onSlot_slot]
  exact ⟨Nat.le_refl _, hnone⟩

theorem chooseDebit_due (h : chooseDebit s = some p) : s.cartridges.slots[p].debitPending = true :=
  by
  have hp := List.find?_some h
  exact (Bool.and_eq_true_iff.mp hp).2

theorem DrawGood.arbitrate (h : DrawGood e s.cartridges) (hdue : ∀ p : Plane, DueGood s.cartridges.slots[p]) :
    DrawGood e (arbitrate s).cartridges := by
  unfold Machine.arbitrate
  split
  · exact h
  · split
    · exact h.beginProof _
    · split
      case h_1 hc => exact h.beginDebit (hdue _ (chooseDebit_due hc)).2
      case h_2 => exact h

theorem DrawGood.setPhase (h : DrawGood e s.cartridges) (ph : ExchangePhase) :
    DrawGood e (setPhase ph s).cartridges := by
  refine h.line_replaced (fun q y hy hq amount nonce tag hm => ?_) s.cartridges.position
  obtain ⟨x, hx, rfl⟩ := Option.map_eq_some_iff.mp hy
  exact h.line q x hx hq amount nonce tag hm

theorem DrawGood.closeAttempt (h : DrawGood e s.cartridges) (p : Plane) (o : ProofOutcome) :
    DrawGood e (closeAttempt p o s).cartridges := by
  have hfreed : ∀ f : CartridgeSlot → CartridgeSlot,
      (f s.cartridges.slots[p]).owed = s.cartridges.slots[p].owed →
      (f s.cartridges.slots[p]).uncertain = s.cartridges.slots[p].uncertain →
      DrawGood e (Machine.freeLine (s.onSlot p f)).cartridges := fun f ho hu => (h.onSlot_same ho hu).freeLine
  unfold Machine.closeAttempt
  dsimp only
  split
  · exact (((hfreed _ rfl rfl).onSlot_same rfl rfl).changeVerdict p _).thresholdTest p
  · exact ((hfreed _ rfl rfl).onSlot_same rfl rfl).changeVerdict p _
  all_goals
    split
    all_goals exact ((hfreed _ rfl rfl).onSlot_same rfl rfl).changeVerdict p _

theorem absentOwed_eraseP {l : List AbsentEntry} {f : AbsentEntry → Bool} {a : AbsentEntry} (h : l.find? f = some a)
    (q : Plane) : absentOwed l q = absentOwed (l.eraseP f) q + inHand a.plane a.owed q := by
  induction l with
  | nil => cases h
  | cons x l ih =>
    rw [List.find?_cons] at h
    split at h
    case h_1 hx =>
      obtain rfl := Option.some.inj h
      rw [List.eraseP_cons_of_pos hx, absentOwed_cons, Nat.add_comm]
      unfold inHand
      simp only [eq_comm]
    case h_2 hx =>
      rw [List.eraseP_cons_of_neg (by rw [hx]; exact Bool.false_ne_true), absentOwed_cons, absentOwed_cons, ih h,
        Nat.add_assoc]

/-- The entry's draw is taken out of the absent list and given to the slot, whose own joins the list. -/
theorem DrawGood.claimEntry (h : DrawGood 0 s.cartridges) {v : Serial} {a : AbsentEntry} (hp : ProofOnLine p s)
    (ha : s.absentEntry v p = some a) : DrawGood 0 (claimEntry p a s).cartridges := by
  have hm := List.find?_some ha
  rw [Bool.and_eq_true, decide_eq_true_eq, decide_eq_true_eq] at hm
  obtain ⟨rfl, rfl⟩ := hm
  obtain ⟨hun, hrange⟩ := h.absent a (List.mem_of_find?_eq_some ha)
  have herased : DrawGood (inHand a.plane a.owed) { s.cartridges with
      absent := s.cartridges.absent.eraseP fun x => decide (x.serial = a.serial) && decide (x.plane = a.plane) } :=
    h.putAbsent (fun x hx => h.absent x (List.mem_of_mem_eraseP hx)) fun q =>
      (absentOwed_eraseP ha q).symm
  have hstashed := DrawGood.stashSlot (s := { s with cartridges := { s.cartridges with
      absent := s.cartridges.absent.eraseP fun x => decide (x.serial = a.serial) && decide (x.plane = a.plane) } })
    herased (p := a.plane) fun y => hp.noDebit a.plane y
  refine hstashed.onSlot ⟨hun, hrange⟩ ?_ zero_eq_inHand_off ?_
  · rw [stashSlot_slot, inHand_same]
    exact Nat.add_comm _ _
  · rw [stashSlot_line]
    exact hp.noDebit a.plane _

/-- A slot whose uncertain debit was applied no longer owes it: it is confirmed (R150). -/
theorem DrawGood.confirm (h : DrawGood 0 s.cartridges) {f : CartridgeSlot → CartridgeSlot} {d : Nat}
    (hle : d ≤ s.cartridges.slots[p].owed)
    (howed : (f s.cartridges.slots[p]).owed = s.cartridges.slots[p].owed - d)
    (hnone : (f s.cartridges.slots[p]).uncertain = none) (hline : ∀ y, DebitCovered s.cartridges.line p y) :
    DrawGood 0 (Machine.addConfirmed p d (s.onSlot p f)).cartridges := by
  have hrange := (h.slots p).range
  refine DrawGood.addConfirmed (e := inHand p d) ?_ (inHand_eq_zero_add p d) zero_eq_inHand_off
  refine h.onSlot ⟨by rw [hnone]; exact fun _ hu => (nomatch hu), by omega⟩ ?_ (fun q hq => inHand_other d hq)
    (hline _)
  rw [howed, inHand_same]
  exact Nat.sub_add_cancel hle

theorem DrawGood.claimApplied (h : DrawGood 0 s.cartridges) {v : Serial} {a : AbsentEntry} {n d : Nat}
    (hp : ProofOnLine p s) (ha : s.absentEntry v p = some a) (hd : a.uncertain = some d) :
    DrawGood 0 (Machine.addConfirmed p d ((Machine.claimEntry p a s).onSlot p fun x =>
      { x with remaining := some n, uncertain := none, owed := x.owed - d })).cartridges := by
  refine (h.claimEntry hp ha).confirm (p := p)
    (f := fun x => { x with remaining := some n, uncertain := none, owed := x.owed - d }) ?_ rfl rfl ?_
  · rw [claimEntry_slot]
    exact (h.absent a (List.mem_of_find?_eq_some ha)).uncertain d hd
  · rw [claimEntry_line]
    exact hp.noDebit p

/-- The amount of a debit that has left the line without a confirmation becomes the uncertain debit. -/
theorem DrawGood.uncertainDebit (h : DrawGood e s.cartridges) {f : CartridgeSlot → CartridgeSlot} {amount : Nat}
    (hline : ∀ y, DebitCovered s.cartridges.line p y) (hle : amount ≤ s.cartridges.slots[p].owed)
    (howed : (f s.cartridges.slots[p]).owed = s.cartridges.slots[p].owed)
    (hun : (f s.cartridges.slots[p]).uncertain = if amount = 0 then none else some amount) :
    DrawGood e (s.onSlot p f).cartridges := by
  refine h.onSlot ⟨fun u hu => ?_, howed ▸ (h.slots p).range⟩ (congrArg (· + e p) howed) (fun _ _ => rfl) (hline _)
  rw [hun] at hu
  rw [howed]
  split at hu
  · cases hu
  · cases hu
    exact hle

theorem DrawGood.endDebitBadly (h : DrawGood e s.cartridges) {amount : Nat} (silent : Bool)
    (hle : amount ≤ s.cartridges.slots[p].owed) : DrawGood e (endDebitBadly p amount silent s).cartridges := by
  unfold Machine.endDebitBadly
  dsimp only
  rw [freeLine_onSlot]
  refine ((DrawGood.changeVerdict ?_ p _).requestProbe p).thresholdTest p
  exact DrawGood.uncertainDebit (s := Machine.freeLine s) h.freeLine (debitCovered_none p) hle rfl rfl

theorem DrawGood.confirmDebit (h : DrawGood 0 s.cartridges) {amount : Nat} (n : Nat)
    (hle : amount ≤ s.cartridges.slots[p].owed) (hnone : s.cartridges.slots[p].uncertain = none) :
    DrawGood 0 (confirmDebit p amount n s).cartridges := by
  have hconfirmed := DrawGood.confirm (s := Machine.freeLine s) (p := p) (d := amount) (f := fun c =>
    { c with owed := c.owed - amount, remaining := some n, exchange := .idle, answerTimer := none }) h.freeLine hle rfl
    hnone (debitCovered_none p)
  exact DrawGood.thresholdTest hconfirmed p

theorem DrawGood.abandonExchange (h : DrawGood e s.cartridges) : DrawGood e (abandonExchange s).cartridges := by
  unfold Machine.abandonExchange
  split
  · exact h
  case h_2 x hx =>
    dsimp only
    split
    · exact ((h.onSlot_same (p := x.slot) (f := fun c => { c with exchange := .idle, answerTimer := none }) rfl
        rfl).freeLine).onSlot_same rfl rfl
    case h_2 amount nonce tag hm =>
      have hle := (h.line x.slot x hx rfl amount nonce tag hm).1
      have hfreed := (h.onSlot_same (p := x.slot) (f := fun c => { c with exchange := .idle, answerTimer := none }) rfl
        rfl).freeLine
      refine (DrawGood.changeVerdict ?_ x.slot _).requestProbe x.slot
      refine hfreed.uncertainDebit (debitCovered_none x.slot) ?_ rfl rfl
      rw [freeLine_onSlot, onSlot_slot]
      exact hle

/-- The slot's debit on the line is read off the line. -/
theorem debitOnLine_some {amount : Nat} (h : debitOnLine p s = some amount) : DebitOnLine p amount s := by
  unfold debitOnLine at h
  split at h
  case h_1 hx =>
    split at h
    case isTrue hq =>
      cases h
      exact ⟨_, _, _, hx, hq, rfl⟩
    case isFalse => cases h
  case h_2 => cases h

theorem dropExchange_noDebit (p : Plane) (s : State) (y : CartridgeSlot) :
    DebitCovered (dropExchange p s).cartridges.line p y := by
  unfold dropExchange
  split
  case h_1 x hx =>
    split
    · exact debitCovered_none p y
    case isFalse hne =>
      intro z hz hp
      rw [hx] at hz
      cases hz
      exact absurd hp hne
  case h_2 hx =>
    rw [hx]
    exact debitCovered_none p y

theorem dropExchange_of_slot {x : LineExchange} (hx : s.cartridges.line = some x) (hp : x.slot = p) :
    dropExchange p s = Machine.freeLine s := by
  unfold dropExchange
  rw [hx]
  exact if_pos hp

theorem DrawGood.dropExchange (h : DrawGood e s.cartridges) (p : Plane) :
    DrawGood e (dropExchange p s).cartridges := by
  unfold Machine.dropExchange
  split
  · split
    · exact h.freeLine
    · exact h
  · exact h

/-- A removal takes the slot's exchange off the line, its debit kept as the uncertain debit. -/
theorem DrawGood.dropKept (h : DrawGood e s.cartridges) (p : Plane) :
    DrawGood e (Machine.dropExchange p (keepUncertain p s)).cartridges := by
  unfold keepUncertain
  split
  case h_1 amount hd =>
    have hon := debitOnLine_some hd
    have hle := (hon.covered h).1
    obtain ⟨x, -, -, hx, hp, -⟩ := hon
    rw [dropExchange_of_slot (x := x) (s := s.onSlot p _) hx hp, freeLine_onSlot]
    exact DrawGood.uncertainDebit (s := Machine.freeLine s) h.freeLine (debitCovered_none p) hle rfl rfl
  case h_2 => exact h.dropExchange p

theorem DrawGood.remove (h : DrawGood e s.cartridges) (p : Plane) :
    DrawGood e ((Machine.stashSlot p (Machine.dropExchange p (keepUncertain p s))).onSlot p fun _ =>
      CartridgeSlot.empty).cartridges := by
  have hstashed := (h.dropKept p).stashSlot (dropExchange_noDebit p _)
  refine hstashed.onSlot ⟨fun _ hu => (nomatch hu), Nat.zero_le _⟩ ?_ (fun _ _ => rfl) ?_
  · rw [stashSlot_slot]
    rfl
  · rw [stashSlot_line]
    exact dropExchange_noDebit p _ _

theorem ProverStep.drawGood (h : ProverStep c s t) (hs : DrawGood 0 s.cartridges)
    (hdue : ∀ p : Plane, DueGood s.cartridges.slots[p]) : DrawGood 0 t.cartridges := by
  cases h with
  | threshold p => exact hs.thresholdTest p
  | probe p => exact hs.requestProbe p
  | slot p f hf => exact hs.onSlot_same (hf.owed _) (hf.uncertain _)
  | pin p b => exact hs.of_eq rfl rfl rfl rfl
  | policy t => exact hs.of_eq rfl rfl rfl rfl
  | sideDraw p d v => exact hs.routeSideDraw p d v
  | unattributedDraw p d => exact hs.routeUnattributed p d
  | totals v => exact hs.restoredTotals v
  | arbitrate => exact hs.arbitrate hdue
  | phase ph => exact hs.setPhase ph
  | seat p hp =>
    exact hs.onSlot_same (p := p) (f := fun c =>
      { c with seated := true, exchange := .settling, settlingTimer := some 500 }) rfl rfl
  | settle p hp => exact hs.onSlot_same rfl rfl
  | retry p hp => exact hs.onSlot_same rfl rfl
  | attempt p o hp => exact hs.closeAttempt p o
  | count p a hp => exact hs.clearUncertain rfl rfl
  | applied p a u hp hu => exact hs.confirm ((hs.slots p).uncertain u hu) rfl rfl (hp.noDebit p)
  | claimCount p v a n hp ha => exact (hs.claimEntry hp ha).clearUncertain rfl rfl
  | claimApplied p v a n u hp ha hu => exact hs.claimApplied hp ha hu
  | claimRejected p v a hp ha => exact (hs.claimEntry hp ha).closeAttempt p _
  | stash p hp => exact hs.stashSlot (hp.noDebit p)
  | badDebit p amount silent hd => exact hs.endDebitBadly silent (hd.covered hs).1
  | goodDebit p amount n hd => exact hs.confirmDebit n (hd.covered hs).1 (hd.covered hs).2
  | abandon => exact hs.abandonExchange
  | remove p hc => exact hs.remove p

/-! ### The steps of the prover keep debits due in order -/

theorem due_of_acts (ha : ActsOn p s t) (hdue : ∀ q : Plane, DueGood s.cartridges.slots[q])
    (hp : DueGood t.cartridges.slots[p]) (q : Plane) : DueGood t.cartridges.slots[q] := by
  by_cases hq : q = p
  · exact hq ▸ hp
  · rw [ha.others q hq]
    exact hdue q

theorem onSlot_due {f : CartridgeSlot → CartridgeSlot} (hdue : ∀ q : Plane, DueGood s.cartridges.slots[q])
    (hp : DueGood (f s.cartridges.slots[p])) (q : Plane) : DueGood (s.onSlot p f).cartridges.slots[q] :=
  due_of_acts (onSlot_acts s p f) hdue (by rw [onSlot_slot]; exact hp) q

theorem arbitrate_due (hdue : ∀ q : Plane, DueGood s.cartridges.slots[q]) (q : Plane) :
    DueGood (arbitrate s).cartridges.slots[q] := by
  unfold arbitrate
  split
  · exact hdue q
  · split
    case h_1 p hc =>
      exact onSlot_due (s := (drawRandom s).2) (f := fun c =>
        { c with exchange := .probe, probePending := false, attempts := c.attempts + 1 }) hdue (hdue p) q
    case h_2 =>
      split
      case h_1 p hc =>
        exact onSlot_due (s := (drawRandom s).2) (f := fun c => { c with exchange := .debit, debitPending := false })
          hdue (fun h => nomatch h) q
      case h_2 => exact hdue q

theorem abandonExchange_due (hdue : ∀ q : Plane, DueGood s.cartridges.slots[q]) (q : Plane) :
    DueGood (abandonExchange s).cartridges.slots[q] := by
  unfold abandonExchange
  split
  · exact hdue q
  case h_2 x hx =>
    dsimp only
    rw [freeLine_onSlot]
    split
    · exact onSlot_due (onSlot_due (s := freeLine s) hdue (hdue x.slot)) (by rw [onSlot_slot]; exact hdue x.slot) q
    · refine due_of_acts (p := x.slot) ?_ hdue ?_ q
      · exact ((((freeLine_acts _ s).trans (onSlot_acts _ _ _)).trans (onSlot_acts _ _ _)).trans
          (changeVerdict_acts _ _ _)).trans (requestProbe_acts _ _)
      · refine requestProbe_due ?_
        rw [changeVerdict_slot, onSlot_slot, onSlot_slot]
        exact dueGood_judged (fun hd => (hdue x.slot hd).1) (by decide)

theorem routeSideDraw_due (d : Nat) (v : Option Serial) (h : DueGood s.cartridges.slots[p]) :
    DueGood (routeSideDraw p d v s).1.cartridges.slots[p] := by
  unfold routeSideDraw
  dsimp only
  split
  · exact h
  · split
    · exact oweSlot_due h
    · split
      · change DueGood (oweAbsent _ d (addDrawn p d s)).cartridges.slots[p]
        rw [oweAbsent_slots]
        exact h
      · exact h

theorem routeUnattributed_due (d : Nat) (h : DueGood s.cartridges.slots[p]) :
    DueGood (routeUnattributed p d s).cartridges.slots[p] := by
  unfold routeUnattributed
  dsimp only
  split
  · exact oweSlot_due h
  · exact h

theorem endDebitBadly_due (amount : Nat) (silent : Bool) (h : DueGood s.cartridges.slots[p]) :
    DueGood (endDebitBadly p amount silent s).cartridges.slots[p] := by
  unfold endDebitBadly
  dsimp only
  refine thresholdTest_due (requestProbe_due ?_)
  rw [changeVerdict_slot, freeLine_onSlot, onSlot_slot]
  exact dueGood_judged (fun hd => (h hd).1) (by decide)

theorem confirmDebit_due (amount n : Nat) (h : DueGood s.cartridges.slots[p]) :
    DueGood (confirmDebit p amount n s).cartridges.slots[p] := by
  unfold confirmDebit
  refine thresholdTest_due ?_
  rw [freeLine_slots, addConfirmed_slots, onSlot_slot]
  exact h

/-- A record with the verdict and the due debit of one in order, and no uncertain debit. -/
theorem DueGood.cleared {x y : CartridgeSlot} (h : DueGood x) (hd : y.debitPending = x.debitPending)
    (hv : y.verdict = x.verdict) (hn : y.uncertain = none) : DueGood y := fun hy =>
  ⟨hv.trans (h (hd ▸ hy)).1, hn⟩

theorem ProverStep.dueGood (h : ProverStep c s t) (hdue : ∀ q : Plane, DueGood s.cartridges.slots[q]) :
    ∀ q : Plane, DueGood t.cartridges.slots[q] := by
  cases h with
  | threshold p => exact due_of_acts (thresholdTest_acts p s) hdue (thresholdTest_due (hdue p))
  | probe p => exact due_of_acts (requestProbe_acts p s) hdue (requestProbe_due (hdue p))
  | slot p f hf =>
    refine onSlot_due hdue ?_
    unfold DueGood
    rw [hf.debit, hf.verdict, hf.uncertain]
    exact hdue p
  | pin p b => exact hdue
  | policy t => exact hdue
  | sideDraw p d v => exact due_of_acts (routeSideDraw_acts p d v s) hdue (routeSideDraw_due d v (hdue p))
  | unattributedDraw p d => exact due_of_acts (routeUnattributed_acts p d s) hdue (routeUnattributed_due d (hdue p))
  | totals v => exact hdue
  | arbitrate => exact arbitrate_due hdue
  | phase ph => exact hdue
  | seat p hp =>
    exact onSlot_due (f := fun c => { c with seated := true, exchange := .settling, settlingTimer := some 500 }) hdue
      (hdue p)
  | settle p hp => exact onSlot_due hdue (hdue p)
  | retry p hp => exact onSlot_due hdue (hdue p)
  | attempt p o hp =>
    exact due_of_acts (closeAttempt_acts p o s) hdue (closeAttempt_due (fun hd => (hdue p hd).1) fun _ => hdue p)
  | count p a hp => exact onSlot_due hdue ((hdue p).cleared rfl rfl rfl)
  | applied p a u hp hu =>
    exact onSlot_due (f := fun x => { x with remaining := some a, uncertain := none, owed := x.owed - u }) hdue
      ((hdue p).cleared rfl rfl rfl)
  | claimCount p v a n hp ha =>
    refine due_of_acts ((claimEntry_acts p a s).trans (onSlot_acts _ p _)) hdue ?_
    rw [onSlot_slot, claimEntry_slot]
    exact (hdue p).cleared rfl rfl rfl
  | claimApplied p v a n u hp ha hu =>
    refine due_of_acts (((claimEntry_acts p a s).trans (onSlot_acts _ p _)).trans (addConfirmed_acts p p u _)) hdue ?_
    rw [addConfirmed_slots, onSlot_slot, claimEntry_slot]
    exact (hdue p).cleared rfl rfl rfl
  | claimRejected p v a hp ha =>
    refine due_of_acts ((claimEntry_acts p a s).trans (closeAttempt_acts p _ _)) hdue (closeAttempt_due ?_ nofun)
    rw [claimEntry_slot]
    exact fun hd => (hdue p hd).1
  | stash p hp =>
    refine due_of_acts (stashSlot_acts p s) hdue ?_
    rw [stashSlot_slot]
    exact (hdue p).cleared rfl rfl rfl
  | badDebit p amount silent hd => exact due_of_acts (endDebitBadly_acts p _ _ s) hdue (endDebitBadly_due _ _ (hdue p))
  | goodDebit p amount n hd => exact due_of_acts (confirmDebit_acts p _ _ s) hdue (confirmDebit_due _ _ (hdue p))
  | abandon => exact abandonExchange_due hdue
  | remove p hc =>
    refine due_of_acts (removeCartridge_acts p s) hdue ?_
    rw [onSlot_slot]
    exact fun hd => nomatch hd

theorem ProverStep.drawInv (h : ProverStep c s t) (hs : DrawInv s) : DrawInv t := by
  obtain ⟨hdraw, hdue⟩ := drawInv_iff.mp hs
  exact drawInv_iff.mpr ⟨h.drawGood hdraw hdue, h.dueGood hdue⟩

/-! ### Every step keeps the draw law -/

/-- The law speaks of the cartridges alone. -/
theorem drawInv_of_cartridges (h : t.cartridges = s.cartridges) (hs : DrawInv s) : DrawInv t := by
  rw [drawInv_iff] at hs ⊢
  rw [h]
  exact hs

/-- A piece of work that is no step of the cartridge prover leaves the cartridges alone. -/
theorem Work.cartridges (h : Work c s t) : ProverStep c s t ∨ t.cartridges = s.cartridges := by
  cases h with
  | prover h => exact .inl h
  | aside h => exact .inr h.cartridges
  | regionFree i r _ => exact .inr (freeRegion_kept i r s).cartridges
  | regionDefine f i _ _ => exact .inr (installRegion_kept i _ s).cartridges
  | sideEnd r h => exact .inr h.rest.cartridges
  | usersRestore us retired meters _ => exact .inr (restoreUsers_kept us retired meters s).cartridges
  | sideAdmit f i j u _ _ _ => exact .inr (admitSide_kept _ s).cartridges
  | userOpen i u _ _ => exact .inr (warningTest_kept i _).cartridges
  | userSet i u u' _ _ => exact .inr (warningTest_kept i _).cartridges
  | complete f r v => exact .inr (completeParked_kept f r v s).cartridges
  | supersede e _ => exact .inr (supersede_kept e s).cartridges
  | offer a => exact .inr (offerIndex_kept a s).cartridges
  | store | job | jobOpen | jobFree | refusals | sources | side | strict | userState | userRemove | restoreOpen
  | restoreClose | park | queue => exact .inr rfl

theorem tellSideList_cartridges (s : State) : (tellSideList s).cartridges = s.cartridges := by
  unfold tellSideList
  split
  · rfl
  · split
    · rfl
    · split
      · rfl
      · rfl

theorem tellOrderTaker_cartridges (s : State) : (tellOrderTaker s).cartridges = s.cartridges := by
  unfold tellOrderTaker
  split
  · rfl
  · rfl

theorem noteDrain_cartridges (s : State) : (noteDrain s).cartridges = s.cartridges := by
  unfold noteDrain
  split
  · rfl
  · split
    · rfl
    · rfl

theorem issueReturn_cartridges (s : State) : (issueReturn s).cartridges = s.cartridges := by
  unfold issueReturn
  split
  · rfl
  · split
    · rfl
    · rfl

theorem Change.cartridges (h : Change c s t) : ProverStep c s t ∨ t.cartridges = s.cartridges := by
  cases h with
  | work h => exact h.cartridges
  | sidesEmpty h => exact .inr h.rest.cartridges
  | sideTold => exact .inr (tellSideList_cartridges s)
  | toldResult => exact .inr (tellOrderTaker_cartridges s)
  | drain => exact .inr (noteDrain_cartridges s)
  | returnIssue => exact .inr (issueReturn_cartridges s)
  | sideStart | dequeue | hold | move | exported | enterWait | tablesReset | grantOwn | returnAccept | ringReset =>
    exact .inr rfl

theorem Change.drawInv (h : Change c s t) (hs : DrawInv s) : DrawInv t := by
  rcases h.cartridges with h | h
  · exact h.drawInv hs
  · exact drawInv_of_cartridges h hs

/-- No draw is recorded, no cartridge owes, and none is absent. -/
theorem drawInv_of_reset (b : Vector Bool 4) (h : s.cartridges = { Cartridges.reset with pins := b }) : DrawInv s := by
  have hslot : ∀ p : Plane, s.cartridges.slots[p] = CartridgeSlot.empty := fun p => by
    rw [h]
    exact Vector.getElem_replicate _
  have htotals : ∀ p : Plane, s.cartridges.totals[p] = DrawTotals.zero := fun p => by
    rw [h]
    exact Vector.getElem_replicate _
  have habsent : s.cartridges.absent = [] := by rw [h]; rfl
  have hline : s.cartridges.line = none := by rw [h]; rfl
  rw [drawInv_iff]
  refine ⟨⟨fun p => ?_, fun p => ?_, ?_, fun p => ?_⟩, fun p hd => ?_⟩
  · unfold Cartridges.owed
    rw [htotals, hslot, habsent]
    rfl
  · rw [hslot]
    exact ⟨nofun, Nat.zero_le _⟩
  · rw [habsent]
    exact nofun
  · rw [hline]
    exact debitCovered_none p _
  · rw [hslot] at hd
    cases hd

/-- Settles O5: each step of the cartridge prover moves draw from one place to another, and nothing else touches it. -/
theorem stepKeepsDrawTotalsBalanced : Obligations.StepKeepsDrawTotalsBalanced :=
  step_keeps (fun s rest hs => drawInv_of_cartridges (s := s) (t := { s with pending := rest }) rfl hs)
    (fun _ _ s _ => drawInv_of_reset s.cartridges.pins rfl)
    (fun _ _ _ h => h.drawInv)

end Sys2Proof.Machine
end

section

/-! PROOFS. A REJECTED verdict ends only by removal or cold reset. -/

namespace Sys2Proof.Machine

variable {c : Instr} {s t u : State} {p q : Plane}

theorem RejectedAtRest.of_slot (hs : RejectedAtRest p s) (hslot : t.cartridges.slots[p] = s.cartridges.slots[p])
    (hline : ∀ x ∈ t.cartridges.line, x.slot ≠ p) : RejectedAtRest p t := by
  obtain ⟨hseated, hverdict, hexchange, hprobe, hdebit, hsettling, hretry, -⟩ := hs
  exact ⟨by rwa [hslot], by rwa [hslot], by rwa [hslot], by rwa [hslot], by rwa [hslot], by rwa [hslot], by rwa [hslot],
    hline⟩

theorem RejectedAtRest.of_cartridges (hs : RejectedAtRest p s) (hslots : t.cartridges.slots = s.cartridges.slots)
    (hline : t.cartridges.line = s.cartridges.line) : RejectedAtRest p t :=
  hs.of_slot (by rw [hslots]) (by rw [hline]; exact hs.line)

theorem RejectedAtRest.of_acts (hs : RejectedAtRest p s) (ha : ActsOn q s t) (hq : p ≠ q) : RejectedAtRest p t := by
  refine hs.of_slot (ha.others p hq) ?_
  rcases ha.line with h | h
  · rw [h]
    exact hs.line
  · rw [h]
    exact fun _ hx => nomatch hx

theorem RejectedAtRest.not_genuine (hs : RejectedAtRest p s) : s.cartridges.slots[p].verdict ≠ .genuine := by
  rw [hs.verdict]
  decide

theorem RejectedAtRest.threshold (hs : RejectedAtRest p s) : thresholdTest p s = s :=
  if_neg fun h => hs.not_genuine h.2.1

theorem RejectedAtRest.requestProbe (hs : RejectedAtRest p s) : requestProbe p s = s :=
  if_neg fun h => h.2.1 hs.verdict

theorem RejectedAtRest.noProof (hs : RejectedAtRest p s) (h : ProofOnLine q s) : p ≠ q := by
  obtain ⟨x, nonce, hx, hq, -⟩ := h
  exact fun hp => hs.line x hx (hq.trans hp.symm)

theorem RejectedAtRest.noDebit (hs : RejectedAtRest p s) {amount : Nat} (h : DebitOnLine q amount s) : p ≠ q := by
  obtain ⟨x, nonce, tag, hx, hq, -⟩ := h
  exact fun hp => hs.line x hx (hq.trans hp.symm)

theorem routeSideDraw_slots (d : Nat) (v : Option Serial) (h : s.cartridges.slots[q].verdict ≠ .genuine) :
    (routeSideDraw q d v s).1.cartridges.slots = s.cartridges.slots := by
  unfold routeSideDraw
  dsimp only
  split
  · rfl
  · rw [if_neg fun hg => h hg.1]
    split
    · exact oweAbsent_slots _ _ _
    · rfl

theorem routeUnattributed_slots (d : Nat) (h : s.cartridges.slots[q].verdict ≠ .genuine) :
    (routeUnattributed q d s).cartridges.slots = s.cartridges.slots := by
  unfold routeUnattributed
  dsimp only
  rw [if_neg fun hg => h hg.2.2]
  rfl

/-- What acts on a slot and leaves the slots alone when the slot is `p` keeps `p` REJECTED. -/
theorem RejectedAtRest.of_acts_or_slots (hs : RejectedAtRest p s) (ha : ActsOn q s t)
    (hslots : p = q → t.cartridges.slots[p] = s.cartridges.slots[p]) : RejectedAtRest p t := by
  by_cases hq : p = q
  · refine hs.of_slot (hslots hq) ?_
    rcases ha.line with h | h
    · rw [h]
      exact hs.line
    · rw [h]
      exact fun _ hx => nomatch hx
  · exact hs.of_acts ha hq

theorem RejectedAtRest.beginProof (hs : RejectedAtRest p s) (hq : p ≠ q) : RejectedAtRest p (beginProof q s) := by
  refine hs.of_slot (put_other _ _ _ _ (Ne.symm hq)) fun x hx => ?_
  cases hx
  exact Ne.symm hq

theorem RejectedAtRest.beginDebit (hs : RejectedAtRest p s) (hq : p ≠ q) : RejectedAtRest p (beginDebit q s) := by
  refine hs.of_slot (put_other _ _ _ _ (Ne.symm hq)) fun x hx => ?_
  cases hx
  exact Ne.symm hq

theorem chooseProbe_due (h : chooseProbe s = some p) : s.cartridges.slots[p].probePending = true := by
  have hp := List.find?_some h
  exact (Bool.and_eq_true_iff.mp hp).2

theorem RejectedAtRest.arbitrate (hs : RejectedAtRest p s) : RejectedAtRest p (arbitrate s) := by
  unfold Machine.arbitrate
  split
  · exact hs
  · split
    case h_1 q hc =>
      refine hs.beginProof fun hq => ?_
      have hdue := chooseProbe_due hc
      rw [← hq, hs.probe] at hdue
      cases hdue
    case h_2 =>
      split
      case h_1 q hc =>
        refine hs.beginDebit fun hq => ?_
        have hdue := chooseDebit_due hc
        rw [← hq, hs.debit] at hdue
        cases hdue
      case h_2 => exact hs

theorem abandonExchange_acts {x : LineExchange} (hx : s.cartridges.line = some x) :
    ActsOn x.slot s (abandonExchange s) := by
  have hidle : ∀ f : CartridgeSlot → CartridgeSlot, ActsOn x.slot s (freeLine (s.onSlot x.slot f)) := fun f =>
    (onSlot_acts s _ f).trans (freeLine_acts _ _)
  unfold abandonExchange
  rw [hx]
  dsimp only
  split
  · exact (hidle _).trans (onSlot_acts _ _ _)
  · exact (((hidle _).trans (onSlot_acts _ _ _)).trans (changeVerdict_acts _ _ _)).trans (requestProbe_acts _ _)

theorem RejectedAtRest.abandonExchange (hs : RejectedAtRest p s) : RejectedAtRest p (abandonExchange s) := by
  cases hx : s.cartridges.line with
  | none =>
    unfold Machine.abandonExchange
    rw [hx]
    exact hs
  | some x => exact hs.of_acts (abandonExchange_acts hx) (Ne.symm (hs.line x hx))

theorem RejectedAtRest.onSlot (hs : RejectedAtRest p s) {f : CartridgeSlot → CartridgeSlot} (hf : DebtsKept f) :
    RejectedAtRest p (s.onSlot q f) := by
  by_cases hq : p = q
  · subst hq
    obtain ⟨hseated, hverdict, hexchange, hprobe, hdebit, hsettling, hretry, hline⟩ := hs
    have hslot := onSlot_slot s p f
    exact ⟨by rw [hslot, hf.seated, hseated], by rw [hslot, hf.verdict, hverdict],
      by rw [hslot, hf.exchange, hexchange], by rw [hslot, hf.probe, hprobe], by rw [hslot, hf.debit, hdebit],
      by rw [hslot, hf.settling, hsettling], by rw [hslot, hf.retry, hretry], hline⟩
  · exact hs.of_acts (onSlot_acts s q f) hq

theorem ProverStep.rejected (h : ProverStep c s t) (hc : endsRejected p c = false) (hs : RejectedAtRest p s) :
    RejectedAtRest p t := by
  cases h with
  | threshold q =>
    by_cases hq : p = q
    · subst hq
      rw [hs.threshold]
      exact hs
    · exact hs.of_acts (thresholdTest_acts q s) hq
  | probe q =>
    by_cases hq : p = q
    · subst hq
      rw [hs.requestProbe]
      exact hs
    · exact hs.of_acts (requestProbe_acts q s) hq
  | slot q f hf => exact hs.onSlot hf
  | pin q b => exact hs.of_cartridges rfl rfl
  | policy t => exact hs.of_cartridges rfl rfl
  | totals v => exact hs.of_cartridges rfl rfl
  | sideDraw q d v =>
    refine hs.of_acts_or_slots (routeSideDraw_acts q d v s) fun hq => ?_
    subst hq
    rw [routeSideDraw_slots d v hs.not_genuine]
  | unattributedDraw q d =>
    refine hs.of_acts_or_slots (routeUnattributed_acts q d s) fun hq => ?_
    subst hq
    rw [routeUnattributed_slots d hs.not_genuine]
  | arbitrate => exact hs.arbitrate
  | phase ph =>
    refine hs.of_slot rfl fun x hx => ?_
    obtain ⟨y, hy, rfl⟩ := Option.map_eq_some_iff.mp hx
    exact hs.line y hy
  | seat q hseated =>
    refine hs.of_acts (q := q) ((onSlot_acts s q _).trans (raise_acts q _ _)) fun hq => ?_
    rw [← hq, hs.seated] at hseated
    cases hseated
  | settle q ht =>
    refine hs.of_acts (onSlot_acts s q _) fun hq => ?_
    rw [← hq, hs.settling] at ht
    cases ht
  | retry q ht =>
    refine hs.of_acts (onSlot_acts s q _) fun hq => ?_
    rw [← hq, hs.retry] at ht
    cases ht
  | attempt q o hl => exact hs.of_acts (closeAttempt_acts q o s) (hs.noProof hl)
  | count q a hl => exact hs.of_acts (onSlot_acts s q _) (hs.noProof hl)
  | applied q a u hl hu => exact hs.of_acts ((onSlot_acts s q _).trans (addConfirmed_acts q q u _)) (hs.noProof hl)
  | claimCount q v a n hl ha =>
    exact hs.of_acts ((claimEntry_acts q a s).trans (onSlot_acts _ q _)) (hs.noProof hl)
  | claimApplied q v a n u hl ha hu =>
    exact hs.of_acts (((claimEntry_acts q a s).trans (onSlot_acts _ q _)).trans (addConfirmed_acts q q u _))
      (hs.noProof hl)
  | claimRejected q v a hl ha =>
    exact hs.of_acts ((claimEntry_acts q a s).trans (closeAttempt_acts q _ _)) (hs.noProof hl)
  | stash q hl => exact hs.of_acts (stashSlot_acts q s) (hs.noProof hl)
  | badDebit q amount silent hd => exact hs.of_acts (endDebitBadly_acts q amount silent s) (hs.noDebit hd)
  | goodDebit q amount n hd => exact hs.of_acts (confirmDebit_acts q amount n s) (hs.noDebit hd)
  | abandon => exact hs.abandonExchange
  | remove q hcommand =>
    refine hs.of_acts (removeCartridge_acts q s) fun hq => ?_
    subst hcommand hq
    exact absurd hc (by simp [endsRejected])

theorem Change.rejected (h : Change c s t) (hc : endsRejected p c = false) (hs : RejectedAtRest p s) :
    RejectedAtRest p t := by
  rcases h.cartridges with h | h
  · exact h.rejected hc hs
  · exact hs.of_cartridges (by rw [h]) (by rw [h])

/-- Settles O12: no step of the cartridge prover but a removal touches a REJECTED slot with no work due. -/
theorem rejectedVerdictEndsOnlyByRemoval : Obligations.RejectedVerdictEndsOnlyByRemoval := by
  intro p c s hs hc
  obtain ⟨t, ht⟩ := exec_next c s
  refine ⟨t, ht, exec_cases ht hs ?_ fun x y h => h.rejected hc⟩
  rintro m q rfl
  cases hc

/-- Settles O3. -/
theorem resetMeetsTheLaws : Obligations.ResetMeetsTheLaws := by
  intro m p s
  have hwarned : ∀ P : User → Prop, EveryUser P s := fun P => everyUser_of_empty rfl
  refine ⟨⟨List.Pairwise.nil, List.forall_mem_nil _⟩, drawInv_of_reset (Vector.replicate 4 false) rfl,
    holdInv_of_empty rfl rfl rfl, (hwarned _).users, (hwarned _).users, sideListInv_of_empty rfl rfl ⟨Nat.le_refl 1, Nat.le_of_ble_eq_true rfl⟩,
    ordersInv_of_reset rfl,
    ringInv_of_reset rfl rfl, regionInv_of_empty rfl, ?_⟩
  exact bindingInv_iff.mpr (countsBound_of_empty rfl rfl)

/-- Settles O14. -/
theorem coldResetEmptiesThePart : Obligations.ColdResetEmptiesThePart := by
  intro m p s
  have hempty : ∀ {α : Type} (n : Nat) (a : α) (i : Fin n), (Vector.replicate n a)[i] = a := fun n a i =>
    Vector.getElem_replicate _
  refine ⟨coldState m p s, exec_coldReset m p s, rfl, rfl, rfl, rfl, rfl, rfl, rfl, rfl, rfl, rfl, hempty 8 none,
    rfl, rfl, hempty 32 none, hempty 64 _, rfl, rfl, hempty 16 none, hempty 4 _, hempty 64 none, rfl, rfl, rfl, rfl, rfl,
    rfl, rfl, rfl, rfl, rfl, rfl, hempty 4 _, rfl, hempty 4 _, ?_⟩
  exact ⟨rfl, rfl, rfl, rfl, rfl, rfl, rfl, rfl, rfl, rfl, rfl, rfl, rfl, rfl, rfl, rfl⟩

end Sys2Proof.Machine
end

section

/-! PROOFS. The law of an executed order, for bodies that leave the cartridges alone, and what a body still sees once
its entry has left the queue. -/

namespace Sys2Proof.Machine

section Body

variable {s x : State} {k : Byte} {e : OrderEntry} {rest : List OrderEntry} {c : Instr}
  {body : OrderEntry → State → OrderAnswer × State} {l : Ledger}

/-! ### What a body sees -/

section Popped

variable (rest : List OrderEntry) (s : State)

@[simp] theorem popOrder_jobWithTag (tag : Nat) : (popOrder rest s).jobWithTag tag = s.jobWithTag tag := by
  unfold State.jobWithTag
  rw [popOrder_jobs]

@[simp] theorem popOrder_freeJobSlot : (popOrder rest s).freeJobSlot = s.freeJobSlot := by
  unfold State.freeJobSlot
  rw [popOrder_jobs]

@[simp] theorem popOrder_userWithId (id : Nat) : (popOrder rest s).userWithId id = s.userWithId id := by
  unfold State.userWithId
  rw [popOrder_accounts]

@[simp] theorem popOrder_userId (i : Fin 64) : (popOrder rest s).userId i = s.userId i := by
  unfold State.userId
  rw [popOrder_accounts]

@[simp] theorem popOrder_hasParked (f : ParkObject → Bool) : (popOrder rest s).hasParked f = s.hasParked f := by
  unfold State.hasParked
  rw [popOrder_parked]

@[simp] theorem popOrder_parkedFull : (popOrder rest s).parkedFull = s.parkedFull := by
  unfold State.parkedFull OrderTaker.parkedCount
  rw [popOrder_parked, popOrder_completed]

@[simp] theorem popOrder_accountsBusy : (popOrder rest s).accountsBusy = s.accountsBusy := by
  unfold State.accountsBusy
  rw [popOrder_accounts, popOrder_hasParked]

@[simp] theorem popOrder_meteringSide : (popOrder rest s).meteringSide = s.meteringSide := by
  unfold State.meteringSide
  rw [popOrder_sides]

end Popped

/-! ### The law of an executed order -/

/-- A body that answers with a result and leaves the order taker and the cartridges alone. -/
theorem answered_of_body (h : s.Executes k e rest) (hc : exec c s = runOrder (isKind k) body s) {answer : OrderAnswer}
    {reason : Option Reason} {values : List Val} (hb : body e (popOrder rest s) = (answer, x))
    (hp : answer.parts = some (reason, values)) (ho : x.orders = (popOrder rest s).orders)
    (hk : x.cartridges = (popOrder rest s).cartridges) (hl : x.ledger = l) :
    ∃ t, exec c s = .next t ∧ Answered s t e rest reason values ∧ t.ledger = l := by
  rw [popOrder_cartridges] at hk
  obtain ⟨t, hrun, hanswer, hledger⟩ := runOrder_answered h (isKind k) body h.isKind reason values (by rw [hb]; exact hp)
    (by rw [hb]; exact ho) (fun p => by rw [hb, hk]) (fun p => by rw [hb, hk]) (by rw [hb, hk])
  exact ⟨t, hc.trans hrun, hanswer, by rw [hledger, hb]; exact hl⟩

/-- A body that answers DONE. -/
theorem done_of_body (h : s.Executes k e rest) (hc : exec c s = runOrder (isKind k) body s) {values : List Val}
    (hb : body e (popOrder rest s) = (.done values, x)) (ho : x.orders = (popOrder rest s).orders)
    (hk : x.cartridges = (popOrder rest s).cartridges) (hl : x.ledger = l) :
    ∃ t, exec c s = .next t ∧ Answered s t e rest none values ∧ t.ledger = l :=
  answered_of_body h hc hb rfl ho hk hl

/-- A body that reports values and changes nothing. -/
theorem reported_of_body (h : s.Executes k e rest) (hc : exec c s = runOrder (isKind k) body s) {values : List Val}
    (hb : body e (popOrder rest s) = (.done values, popOrder rest s)) :
    ∃ t, exec c s = .next t ∧ Answered s t e rest none values ∧ t.ledger = s.ledger :=
  done_of_body h hc hb rfl rfl (popOrder_ledger rest s)

/-- A body that refuses with values and changes nothing. -/
theorem refused_of_body (h : s.Executes k e rest) (hc : exec c s = runOrder (isKind k) body s) {reason : Reason}
    {values : List Val} (hb : body e (popOrder rest s) = (.refused reason values, popOrder rest s)) :
    ∃ t, exec c s = .next t ∧ Answered s t e rest (some reason) values ∧ t.ledger = s.ledger :=
  answered_of_body h hc hb rfl rfl rfl (popOrder_ledger rest s)

end Body

/-! ### SOURCE SET (R8) -/

@[simp] theorem SourceClass.ofCode_code (c : SourceClass) : SourceClass.ofCode c.code = some c := by
  cases c <;> rfl

theorem SourceClass.ofCode_none {n : Nat} (h : 3 < n) : SourceClass.ofCode n = none := by
  match n, h with
  | _ + 4, _ => rfl

/-- Settles O33. -/
theorem sourceSetReplacesTheClass : Obligations.SourceSetReplacesTheClass := by
  intro s e rest h
  refine ⟨fun tag c htag hc => ?_, fun hbad => refused_of_body h rfl ?_⟩
  · refine done_of_body h rfl (x := { popOrder rest s with
      classifier := { s.classifier with sources := put s.classifier.sources tag c } }) ?_ rfl rfl ?_
    · unfold sourceSet
      rw [htag, hc, indexOf_val, SourceClass.ofCode_code]
      dsimp only
      rw [popOrder_classifier]
    · rw [← popOrder_ledger rest s]
      rfl
  · unfold sourceSet
    rcases hbad with hbad | hbad
    · rw [indexOf_none (Nat.succ_le_of_lt hbad)]
    · rw [SourceClass.ofCode_none hbad]
      cases indexOf 64 (e.num 3 1) <;> rfl

/-! ### JOB OPEN (R26, R27) -/

@[simp] theorem JobKind.ofCode_code (k : JobKind) : JobKind.ofCode k.code = some k := by
  cases k <;> rfl

theorem firstIndex_eq_some {n : Nat} {f : Fin n → Bool} {i : Fin n} (hi : f i = true)
    (hfirst : ∀ k, k < i → f k = false) : firstIndex f = some i := by
  refine List.find?_eq_some_iff_getElem.mpr ⟨hi, i.val, by simp, by simp, fun j hj => ?_⟩
  rw [List.getElem_finRange, Fin.cast_mk, hfirst _ hj]
  rfl

/-- The lowest-numbered FREE slot. -/
theorem freeJobSlot_eq_some {s : State} {i : Fin 16} (hi : s.jobs[i] = none)
    (hfirst : ∀ k : Fin 16, k < i → s.jobs[k] ≠ none) : s.freeJobSlot = some i :=
  firstIndex_eq_some (by rw [hi]; rfl) fun k hk => Option.isNone_eq_false_iff.mpr (Option.ne_none_iff_isSome.mp (hfirst k hk))

theorem OrderEntry.flag_of_zero {e : OrderEntry} {o : Nat} (h : e.byte o = 0#8) : e.flag o = false := by
  unfold OrderEntry.flag flagByte
  rw [h]
  rfl

theorem OrderEntry.flag_of_one {e : OrderEntry} {o : Nat} (h : e.byte o = 1#8) : e.flag o = true := by
  unfold OrderEntry.flag flagByte
  rw [h]
  rfl

/-- What R26 asks of JOB OPEN, but for its key: a free slot, a free tag, and an ACTIVE owner. -/
structure JobOpens (s : State) (e : OrderEntry) (i : Fin 16) (u : Fin 64) (r : User) : Prop where
  idle : s.accountsBusy = false
  tag : s.jobWithTag (e.num 3 2) = none
  slot : s.freeJobSlot = some i
  owner : s.userWithId (e.num 6 4) = some u
  user : s.accounts.users[u] = some r
  active : r.state = .active

theorem JobOpens.popOrder {s : State} {e : OrderEntry} {i : Fin 16} {u : Fin 64} {r : User} (h : JobOpens s e i u r)
    (rest : List OrderEntry) : JobOpens (popOrder rest s) e i u r := by
  obtain ⟨hidle, htag, hslot, howner, huser, hactive⟩ := h
  constructor <;> simpa

/-- JOB OPEN once its checks have passed: the key decides. -/
theorem openJob_of_opens {s : State} {e : OrderEntry} {i : Fin 16} {u : Fin 64} {r : User} (h : JobOpens s e i u r)
    (kind : JobKind) : openJob e kind s =
      match openKey e kind s with
      | none => (.refused .badWrap (userNames u (e.num 6 4)), s)
      | some key =>
        (.done [u8 i.val, u16 (e.num 3 2), u8 kind.code, u32 (e.num 6 4), u8 u.val, flagVal (e.flag 10)],
          { afterOpenDraw e s with jobs := put (afterOpenDraw e s).jobs i (some (newJob (e.num 3 2) kind u key)) }) := by
  have hnot : r.suspended = false := by
    unfold User.suspended
    rw [h.active]
    rfl
  unfold openJob
  dsimp only
  rw [h.idle, h.tag, h.slot, h.owner]
  dsimp only
  rw [h.user, Option.map_some, hnot]
  rfl

/-- Settles O36. -/
theorem jobOpenTakesTheLowestFreeSlot : Obligations.JobOpenTakesTheLowestFreeSlot := by
  intro s e rest kind i u r h hkind htag hid hbusy hfree hnone hfirst howner huser hactive
  have hopens := JobOpens.popOrder ⟨hbusy, hfree, freeJobSlot_eq_some hnone hfirst, howner, huser, hactive⟩ rest
  have hbody : jobOpen e (popOrder rest s) = openJob e kind (popOrder rest s) := by
    unfold jobOpen
    rw [hkind, JobKind.ofCode_code]
    exact if_neg (not_or.mpr ⟨htag, hid⟩)
  rw [openJob_of_opens hopens] at hbody
  refine ⟨fun hflag => ?_, fun key hflag hkey => ?_, fun hflag hkey => ?_⟩
  · have hkey : openKey e kind (popOrder rest s) = some (Config.randomBits s.draws) := by
      unfold openKey
      rw [OrderEntry.flag_of_zero hflag, popOrder_draws]
      rfl
    have hdraw : afterOpenDraw e (popOrder rest s) = (drawRandom (popOrder rest s)).2 := by
      unfold afterOpenDraw
      rw [OrderEntry.flag_of_zero hflag]
      rfl
    rw [hkey, hdraw, OrderEntry.flag_of_zero hflag] at hbody
    refine done_of_body h rfl hbody rfl rfl ?_
    rw [← popOrder_ledger rest s, ← popOrder_jobs rest s]
    rfl
  · have hkey : openKey e kind (popOrder rest s) = some key := by
      unfold openKey
      rw [OrderEntry.flag_of_one hflag, popOrder_fuses, ← hkey]
      rfl
    have hdraw : afterOpenDraw e (popOrder rest s) = popOrder rest s := by
      unfold afterOpenDraw
      rw [OrderEntry.flag_of_one hflag]
      rfl
    rw [hkey, hdraw, OrderEntry.flag_of_one hflag] at hbody
    refine done_of_body h rfl hbody rfl rfl ?_
    rw [← popOrder_ledger rest s, ← popOrder_jobs rest s]
    rfl
  · have hkey : openKey e kind (popOrder rest s) = none := by
      unfold openKey
      rw [OrderEntry.flag_of_one hflag, popOrder_fuses, ← hkey]
      rfl
    rw [hkey] at hbody
    exact refused_of_body h rfl hbody

/-! ### The key wrap (R25) -/

theorem JobKind.code_lt (k : JobKind) : k.code < 4 := by cases k <;> decide

theorem JobKind.code_inj {k k' : JobKind} (h : k.code = k'.code) : k = k' := by
  have := congrArg JobKind.ofCode h
  rw [JobKind.ofCode_code, JobKind.ofCode_code] at this
  exact Option.some.inj this

/-- The fields of a block do not overlap. -/
theorem wrapBlock_toNat (fresh : BitVec 64) (key : Key) (kind : JobKind) :
    (wrapBlock fresh key kind).toNat = key.toNat * 2 ^ 192 + kind.code * 2 ^ 190 + fresh.toNat * 2 ^ 126 := by
  have hkey := key.isLt
  have hkind := kind.code_lt
  have hfresh := fresh.isLt
  unfold wrapBlock
  rw [BitVec.toNat_ofNat]
  exact Nat.mod_eq_of_lt (by omega)

theorem wrapBlock_key (fresh : BitVec 64) (key : Key) (kind : JobKind) :
    (wrapBlock fresh key kind).extractLsb' 192 128 = key := by
  have hkey := key.isLt
  have hkind := kind.code_lt
  have hfresh := fresh.isLt
  apply BitVec.eq_of_toNat_eq
  rw [BitVec.extractLsb'_toNat, wrapBlock_toNat, Nat.shiftRight_eq_div_pow]
  omega

theorem wrapBlock_fresh (fresh : BitVec 64) (key : Key) (kind : JobKind) :
    (wrapBlock fresh key kind).extractLsb' 126 64 = fresh := by
  have hkey := key.isLt
  have hkind := kind.code_lt
  have hfresh := fresh.isLt
  apply BitVec.eq_of_toNat_eq
  rw [BitVec.extractLsb'_toNat, wrapBlock_toNat, Nat.shiftRight_eq_div_pow]
  omega

theorem wrapBlock_kind {fresh fresh' : BitVec 64} {key key' : Key} {kind kind' : JobKind}
    (h : wrapBlock fresh key kind = wrapBlock fresh' key' kind') : kind = kind' := by
  have hnum := congrArg BitVec.toNat h
  rw [wrapBlock_toNat, wrapBlock_toNat] at hnum
  have hkind := kind.code_lt
  have hkind' := kind'.code_lt
  have hfresh := fresh.isLt
  have hfresh' := fresh'.isLt
  exact JobKind.code_inj (by omega)

theorem unwrapKey_wrapKey (dk : BitVec 256) (n : Nat) (key : Key) (kind : JobKind) :
    unwrapKey dk kind (wrapKey dk n key kind) = some key := by
  unfold unwrapKey wrapKey
  dsimp only
  rw [Equiv.symm_apply_apply, wrapBlock_fresh, wrapBlock_key]
  exact if_pos rfl

/-- Settles O13: the fields of the block are told apart, and cipher and fresh value are permutations. -/
theorem wrappedKeysUnwrapForTheirKindOnly : Obligations.WrappedKeysUnwrapForTheirKindOnly := by
  intro dk n m key kind other
  refine ⟨unwrapKey_wrapKey dk n key kind, fun hother => ?_, fun hdraw hsame => hdraw ?_⟩
  · unfold unwrapKey wrapKey
    dsimp only
    rw [Equiv.symm_apply_apply]
    exact if_neg fun h => hother (wrapBlock_kind h).symm
  · have hblock := (Config.wrapCipher dk).injective hsame
    have hfresh := congrArg (fun b => BitVec.extractLsb' 126 64 b) hblock
    rw [wrapBlock_fresh, wrapBlock_fresh] at hfresh
    have hnum := congrArg BitVec.toNat (Config.freshValue.injective hfresh)
    rwa [BitVec.toNat_ofNat, BitVec.toNat_ofNat] at hnum

/-! ### JOB RELEASE, JOB SEAL and JOB KEY EXPORT (R28 to R30) -/

/-- A tag that a job holds names its slot and its record (R23). -/
theorem withJob_of_tag {s : State} {tag : Nat} {i : Fin 16} {j : Job} (htag : tag ≠ 0) (hi : s.jobWithTag tag = some i)
    (hj : s.jobs[i] = some j) (go : Fin 16 → Job → OrderAnswer × State) : withJob tag s go = go i j := by
  unfold withJob
  rw [if_neg htag, hi]
  dsimp only
  rw [hj]

theorem withJob_popOrder {s : State} {tag : Nat} {i : Fin 16} {j : Job} (rest : List OrderEntry) (htag : tag ≠ 0)
    (hi : s.jobWithTag tag = some i) (hj : s.jobs[i] = some j) (go : Fin 16 → Job → OrderAnswer × State) :
    withJob tag (popOrder rest s) go = go i j :=
  withJob_of_tag htag (by rw [popOrder_jobWithTag, hi]) (by simpa using hj) go

theorem onJob_of_some {s : State} {i : Fin 16} {j : Job} (hj : s.jobs[i] = some j) (f : Job → Job) :
    s.onJob i f = { s with jobs := put s.jobs i (some (f j)) } := by
  unfold State.onJob
  rw [hj]
  rfl

/-- The release state of the job that holds the tag is set. -/
theorem setRelease_answered {s : State} {k : Byte} {e : OrderEntry} {rest : List OrderEntry} {c : Instr} {i : Fin 16}
    {j : Job} (r : Release) (h : s.Executes k e rest) (hc : exec c s = runOrder (isKind k) (setRelease r) s)
    (htag : e.num 3 2 ≠ 0) (hi : s.jobWithTag (e.num 3 2) = some i) (hj : s.jobs[i] = some j) :
    ∃ t, exec c s = .next t ∧ Answered s t e rest none [u16 j.tag, u8 i.val, u8 j.release.code, u8 r.code] ∧
      t.ledger = { s.ledger with jobs := put s.jobs i (some { j with release := r }) } := by
  have hj' : (popOrder rest s).jobs[i] = some j := by simpa using hj
  refine done_of_body h hc (withJob_popOrder rest htag hi hj _) rfl rfl ?_
  rw [onJob_of_some hj', ← popOrder_ledger rest s, ← popOrder_jobs rest s]
  rfl

/-- Settles O37. -/
theorem releaseSealAndKeyExport : Obligations.ReleaseSealAndKeyExport := by
  intro s e rest i j htag hi hj
  refine ⟨fun h => setRelease_answered .released h rfl htag hi hj,
    fun h => setRelease_answered .sealed h rfl htag hi hj, fun h hactive => ?_⟩
  have hbody : jobKeyExport e (popOrder rest s) = (.done [u8 i.val, u16 j.tag, u8 j.kind.code,
      { width := 40, value := (wrapKey s.fuses.deviceKey s.draws j.key j.kind).toNat }],
      (drawRandom (popOrder rest s)).2) := by
    unfold jobKeyExport
    rw [withJob_popOrder rest htag hi hj, if_neg (by rw [hactive]; decide), popOrder_fuses, popOrder_draws]
  obtain ⟨t, ht, hanswer, hledger⟩ := done_of_body (c := .jobKeyExport) h rfl hbody rfl rfl (popOrder_ledger rest s)
  exact ⟨t, _, ht, hanswer, unwrapKey_wrapKey _ _ _ _, hledger⟩

end Sys2Proof.Machine
end

section

/-! PROOFS. Orders of the parameter store: CURVE LOAD and METERS APPLY. -/

namespace Sys2Proof.Machine

/-! ### The end of an event that leaves the cartridges alone -/

section Quiet

variable {s x : State} {k : Byte} {e : OrderEntry} {rest : List OrderEntry} {c : Instr} {accepts : OrderEntry → Bool}
  {body : OrderEntry → State → OrderAnswer × State} {l : Ledger} {answer : OrderAnswer}

theorem exec_of_body (h : s.Executes k e rest) (hc : exec c s = runOrder accepts body s) (ha : accepts e = true)
    (hb : body e (popOrder rest s) = (answer, x)) :
    exec c s = .next (concludeEvent s (giveAnswer e (answer, x))) := by
  rw [hc, runOrder_eq h accepts body ha, hb]

theorem exec_of_parked (h : s.Executes k e rest) (hc : exec c s = runOrder accepts body s) (ha : accepts e = true)
    (hb : body e (popOrder rest s) = (.parked, x)) : exec c s = .next (concludeEvent s x) := by
  rw [exec_of_body h hc ha hb, show giveAnswer e (OrderAnswer.parked, x) = x from rfl]

theorem exec_of_done (h : s.Executes k e rest) (hc : exec c s = runOrder accepts body s) (ha : accepts e = true)
    {values : List Val} (hb : body e (popOrder rest s) = (.done values, x)) :
    exec c s = .next (concludeEvent s (x.hold e none values)) := by
  rw [exec_of_body h hc ha hb, show giveAnswer e (OrderAnswer.done values, x) = x.hold e none values from rfl]

/-- The taker's lists once the results of completed entries have moved on while there is room (R169, R171). -/
def OrderTaker.moved (o : OrderTaker) : OrderTaker :=
  { o with
    holding := o.holding ++ o.completed.take (8 - o.holding.length)
    completed := o.completed.drop (8 - o.holding.length) }

theorem moveCompleted_orders (s : State) : (moveCompleted s).orders = s.orders.moved := rfl

theorem OrderTaker.moved_of_none {o : OrderTaker} (h : o.completed = []) : o.moved = o := by
  unfold OrderTaker.moved
  rw [h, List.take_nil, List.drop_nil, List.append_nil, ← h]

theorem OrderTaker.moved_of_one {o : OrderTaker} {r : Result} (h : o.completed = [r]) (hroom : o.holding.length < 8) :
    o.moved = { o with holding := o.holding ++ [r], completed := [] } := by
  obtain ⟨n, hn⟩ : ∃ n, 8 - o.holding.length = n + 1 := ⟨7 - o.holding.length, by omega⟩
  unfold OrderTaker.moved
  rw [h, hn, List.take_succ_cons, List.take_nil, List.drop_succ_cons, List.drop_nil]

theorem OrderTaker.moved_of_full {o : OrderTaker} (h : 8 ≤ o.holding.length) : o.moved = o := by
  unfold OrderTaker.moved
  rw [Nat.sub_eq_zero_of_le h, List.take_zero, List.drop_zero, List.append_nil]

/-- The end of an event whose effect leaves the cartridges alone and begins no reset wait. -/
theorem ends_of_state (ht : exec c s = .next (concludeEvent s x)) {o : OrderTaker} (ho : x.orders = o)
    (hw : o.resetWait = none) (hk : x.cartridges = s.cartridges) (hl : x.ledger = l) :
    ∃ t, exec c s = .next t ∧ t.ledger = l ∧ t.orders = o.moved := by
  have hwait : x.orders.resetWait = none := by rw [ho, hw]
  refine ⟨_, ht, ?_, ?_⟩
  · rw [concludeEvent_ledger_same s x hwait (fun p => by rw [hk]) (fun p => by rw [hk]) (by rw [hk]), hl]
  · rw [concludeEvent_orders s x hwait, moveCompleted_orders, ho]

theorem leavesQueue_of_queue {t : State} (h : t.orders.queue = (popOrder rest s).orders.queue) :
    LeavesQueue s t rest :=
  ⟨h ▸ (popOrder_leaves rest s).1, fun hh => h.trans ((popOrder_leaves rest s).2 hh)⟩

/-- A body that parks its order and leaves the cartridges alone. -/
theorem parked_of_body (h : s.Executes k e rest) (hc : exec c s = runOrder accepts body s) (ha : accepts e = true)
    {o : ParkObject} (hb : body e (popOrder rest s) = (.parked, x)) (ho : x.orders = ((popOrder rest s).park e o).orders)
    (hk : x.cartridges = (popOrder rest s).cartridges) (hl : x.ledger = l) :
    ∃ t, exec c s = .next t ∧ Parked s t e rest o ∧ t.ledger = l ∧
      (s.orders.completed = [] → t.orders.holding = s.orders.holding) := by
  rw [popOrder_cartridges] at hk
  obtain ⟨t, ht, hledger, horders⟩ := ends_of_state (exec_of_parked h hc ha hb) ho
    ((popOrder_resetWait rest s).trans h.noWait) hk hl
  refine ⟨t, ht, ⟨leavesQueue_of_queue (by rw [horders]; rfl), ?_⟩, hledger, fun hcomp => ?_⟩
  · rw [horders]
    exact congrArg (· ++ _) (popOrder_parked rest s)
  · rw [horders, OrderTaker.moved_of_none (o := ((popOrder rest s).park e o).orders)
      ((popOrder_completed rest s).trans hcomp)]
    exact popOrder_holding rest s

/-- A body that refuses without values and changes nothing, under a test of its own. -/
theorem refusedBy_of_accepts (h : s.Executes k e rest) (hc : exec c s = runOrder accepts body s) (ha : accepts e = true)
    {reason : Reason} (hb : body e (popOrder rest s) = (.refused reason [], popOrder rest s)) :
    RefusedBy s c e rest reason := by
  obtain ⟨t, hrun, hanswer, hledger⟩ := runOrder_unchanged h accepts body ha (some reason) []
    (by rw [hb]; rfl) (by rw [hb])
  exact ⟨t, hc.trans hrun, hanswer, hledger⟩

end Quiet

/-! ### CURVE LOAD (R83) -/

theorem curvePoint_curve (e : OrderEntry) {i : Nat} (hi : i < 17) : curvePoint e.curve i = e.num (4 + 2 * i) 2 := by
  unfold curvePoint OrderEntry.curve
  rw [List.getD_eq_getElem _ _ (by simpa using hi), Vector.getElem_toList, Vector.getElem_ofFn]

/-- What R83 asks of the 17 points: each in range, and none less than the one before it. -/
theorem goodCurve_iff (e : OrderEntry) : goodCurve e.curve = true ↔
    (∀ i < 17, e.num (4 + 2 * i) 2 ≤ 4095) ∧ ∀ i < 16, e.num (4 + 2 * i) 2 ≤ e.num (4 + 2 * (i + 1)) 2 := by
  unfold goodCurve
  rw [Bool.and_eq_true, List.all_eq_true, List.all_eq_true]
  refine and_congr ⟨fun h i hi => ?_, fun h x hx => ?_⟩ ⟨fun h i hi => ?_, fun h i hi => ?_⟩
  · have := h (e.num (4 + 2 * i) 2) (Vector.mem_toList_iff.mpr (Vector.mem_ofFn.mpr ⟨⟨i, hi⟩, rfl⟩))
    exact of_decide_eq_true this
  · obtain ⟨i, rfl⟩ := Vector.mem_ofFn.mp (Vector.mem_toList_iff.mp hx)
    exact decide_eq_true (h i.val i.isLt)
  · have := of_decide_eq_true (h i (List.mem_range.mpr hi))
    rwa [curvePoint_curve e (by omega), curvePoint_curve e (by omega)] at this
  · have hi := List.mem_range.mp hi
    rw [curvePoint_curve e (by omega), curvePoint_curve e (by omega)]
    exact decide_eq_true (h i hi)

/-- Settles O40: the plane, then the points, then the law of a load. -/
theorem curveLoadStagesACurve : Obligations.CurveLoadStagesACurve := by
  intro s e rest h
  refine ⟨fun hplane => ?_, fun hplane hbad => ?_, fun p hp hrange hrise => ?_⟩
  · refine refusedBy_of_refused h rfl ?_
    unfold curveLoad
    rw [indexOf_none hplane]
  · refine refusedBy_of_refused h rfl ?_
    have hpoor : ¬ goodCurve e.curve = true := by
      rw [goodCurve_iff]
      rintro ⟨hrange, hrise⟩
      rcases hbad with ⟨i, hi, hlarge⟩ | ⟨i, hi, hfall⟩
      · exact absurd (hrange i hi) (Nat.not_le.mpr hlarge)
      · exact absurd (hrise i hi) (Nat.not_le.mpr hfall)
    unfold curveLoad
    rw [show e.num 3 1 = ((⟨e.num 3 1, Nat.lt_succ_of_le hplane⟩ : Fin 4) : Nat) from rfl, indexOf_val]
    exact if_neg hpoor
  · refine stagedBy_of_stage h rfl ?_
    unfold curveLoad
    rw [hp, indexOf_val]
    dsimp only
    rw [if_pos ((goodCurve_iff e).mpr ⟨hrange, hrise⟩), popOrder_store]
    rfl

/-! ### METERS APPLY (R87, R88) -/

/-- The first entry of a list that is the pending METERS APPLY is replaced. -/
theorem replaceSwitch_append (e : OrderEntry) {before after : List ParkedOrder} {p : ParkedOrder}
    (hp : p.object = .switch) (hfirst : ∀ q ∈ before, q.object.isSwitch = false) :
    replaceSwitch e (before ++ p :: after) =
      before ++ { kind := e.kind, serial := e.serial, window := e.window, object := .switch } :: after := by
  induction before with
  | nil => simp [replaceSwitch, hp, ParkObject.isSwitch]
  | cons q before ih =>
    obtain ⟨hq, hbefore⟩ := List.forall_mem_cons.mp hfirst
    simp [replaceSwitch, hq, ih hbefore]

theorem find?_first {α : Type} {f : α → Bool} {before after : List α} {a : α} (ha : f a = true)
    (hfirst : ∀ q ∈ before, f q = false) : (before ++ a :: after).find? f = some a := by
  rw [List.find?_append, List.find?_eq_none.mpr fun q hq => by simp [hfirst q hq], List.find?_cons_of_pos ha]
  rfl

/-- The orders of a taker in which the first entry of the parked list that is the pending METERS APPLY is superseded. -/
theorem supersede_of_first {s : State} (e : OrderEntry) {before after : List ParkedOrder} {p : ParkedOrder}
    (hparked : s.orders.parked = before ++ p :: after) (hp : p.object = .switch)
    (hfirst : ∀ q ∈ before, q.object.isSwitch = false) :
    supersede e s = { s with orders := { s.orders with
      parked := before ++ { kind := e.kind, serial := e.serial, window := e.window, object := .switch } :: after
      completed := s.orders.completed ++ [p.result (some .superseded) []] } } := by
  unfold supersede
  rw [hparked, find?_first (by rw [hp]; rfl) hfirst, replaceSwitch_append e hp hfirst]

/-- The first WAITING entry whose object meets the test completes. -/
theorem completeParked_of_first {s : State} {f : ParkObject → Bool} (reason : Option Reason) (values : List Val)
    {before after : List ParkedOrder} {p : ParkedOrder} (hparked : s.orders.parked = before ++ p :: after)
    (hp : f p.object = true) (hfirst : ∀ q ∈ before, f q.object = false) :
    s.completeParked f reason values = { s with orders := { s.orders with
      parked := before ++ after, completed := s.orders.completed ++ [p.result reason values] } } := by
  unfold State.completeParked
  rw [hparked, find?_first (f := fun q : ParkedOrder => f q.object) hp hfirst,
    List.eraseP_append_right _ fun q hq => by simp [hfirst q hq],
    List.eraseP_cons_of_pos (p := fun q : ParkedOrder => f q.object) hp]

/-- Settles O44. -/
theorem metersApplyParksACopy : Obligations.MetersApplyParksACopy := by
  intro s e rest h hnow hcomp
  have ha : (isKind 0x25#8 e && !e.flag 3) = true := by rw [h.isKind, OrderEntry.flag_of_zero hnow]; rfl
  have hledger : ∀ x : State, x.ledger = s.ledger → x.store = s.store → (setPending e x).ledger = { s.ledger with
      store := { s.store with pending := some { set := s.store.staged, serial := e.serial } } } := fun x hx hstore => by
    rw [← hx, ← hstore]
    rfl
  refine ⟨fun hnone hroom => ?_, fun hnone hfull => ?_, fun p before after hpending hparked hp hfirst => ?_⟩
  · have hroom' : s.parkedFull = false := decide_eq_false (by simp [OrderTaker.parkedCount, hcomp, hroom])
    have hbody : metersApply e (popOrder rest s) = (.parked, setPending e ((popOrder rest s).park e .switch)) := by
      unfold metersApply
      rw [popOrder_store, hnone, popOrder_parkedFull, hroom']
      rfl
    obtain ⟨t, ht, hpark, hl, hhold⟩ := parked_of_body (c := .metersApply) h rfl ha hbody rfl rfl
      (hledger _ (popOrder_ledger rest s) (popOrder_store rest s))
    exact ⟨t, ht, hpark, hl, hhold hcomp⟩
  · refine refusedBy_of_accepts h rfl ha ?_
    have hfull' : s.parkedFull = true := decide_eq_true (by simpa [OrderTaker.parkedCount, hcomp] using hfull)
    unfold metersApply
    rw [popOrder_store, hnone, popOrder_parkedFull, hfull']
    rfl
  · have hbody : metersApply e (popOrder rest s) = (.parked, setPending e (supersede e (popOrder rest s))) := by
      unfold metersApply
      rw [popOrder_store, hpending]
      rfl
    rw [supersede_of_first e (by rw [popOrder_parked, hparked]) hp hfirst] at hbody
    obtain ⟨t, ht, hl, horders⟩ := ends_of_state (exec_of_parked (c := .metersApply) h rfl ha hbody) rfl
      ((popOrder_resetWait rest s).trans h.noWait) (popOrder_cartridges rest s)
      (hledger _ (popOrder_ledger rest s) (popOrder_store rest s))
    rw [OrderTaker.moved_of_one (r := p.result (some .superseded) [])] at horders
    · refine ⟨t, ht, leavesQueue_of_queue ?_, hl, ?_, ?_⟩
      · rw [horders]
        rfl
      · rw [horders]
        rfl
      · rw [horders]
        exact congrArg (· ++ _) (popOrder_holding rest s)
    · exact congrArg (· ++ _) ((popOrder_completed rest s).trans hcomp)
    · exact (congrArg List.length (popOrder_holding rest s)).trans_lt h.room

/-- The staged set is live under the next generation, and nothing is pending (R88). -/
def switchedNow (s : State) : State :=
  { s with store := { s.store with live := s.store.staged, liveGen := s.store.stagedGen, pending := none } }

theorem metersApplyNow_of_none {s : State} (e : OrderEntry) (h : s.meteringSide = none)
    (hnone : s.store.pending = none) : metersApplyNow e s = (.done (switchVals s.store), switchedNow s) := by
  unfold metersApplyNow
  rw [h, hnone]
  rfl

theorem metersApplyNow_of_pending {s : State} (e : OrderEntry) (h : s.meteringSide = none)
    (hsome : s.store.pending.isSome = true) {before after : List ParkedOrder} {p : ParkedOrder}
    (hparked : s.orders.parked = before ++ p :: after) (hp : p.object = .switch)
    (hfirst : ∀ q ∈ before, q.object.isSwitch = false) : metersApplyNow e s = (.done (switchVals s.store),
      { switchedNow s with orders := { s.orders with
        parked := before ++ after, completed := s.orders.completed ++ [p.result (some .superseded) []] } }) := by
  have hcompletes := completeParked_of_first (s := switchedNow s) (some .superseded) [] hparked
    (f := ParkObject.isSwitch) (by rw [hp]; rfl) hfirst
  unfold metersApplyNow
  rw [h, hsome]
  exact congrArg (Prod.mk _) hcompletes

/-- Settles O45. -/
theorem metersApplyNowSwitchesAtOnce : Obligations.MetersApplyNowSwitchesAtOnce := by
  intro s e rest h hnow
  have ha : (isKind 0x25#8 e && e.flag 3) = true := by rw [h.isKind, OrderEntry.flag_of_one hnow]; rfl
  refine ⟨fun hmetering => refusedBy_of_accepts h rfl ha ?_, fun hidle hnone => ?_,
    fun p before after hidle hpending hparked hp hfirst hcomp => ?_⟩
  · unfold metersApplyNow
    rw [popOrder_meteringSide]
    exact if_pos hmetering
  · have hbody := metersApplyNow_of_none e ((popOrder_meteringSide rest s).trans hidle) (by rw [popOrder_store, hnone])
    obtain ⟨t, ht, hanswer, hledger⟩ := runOrder_answered h (fun e => isKind 0x25#8 e && e.flag 3) metersApplyNow ha none
      (switchVals s.store) (by rw [hbody, popOrder_store]; rfl) (by rw [hbody]; rfl)
      (fun q => by rw [hbody]; simp [switchedNow]) (fun q => by rw [hbody]; simp [switchedNow])
      (by rw [hbody]; simp [switchedNow])
    refine ⟨t, ht, hanswer, ?_⟩
    rw [hledger, hbody, ← popOrder_ledger rest s, ← popOrder_store rest s]
    rfl
  · have hbody := metersApplyNow_of_pending e ((popOrder_meteringSide rest s).trans hidle)
      (by rw [popOrder_store, hpending]) ((popOrder_parked rest s).trans hparked) hp hfirst
    rw [popOrder_completed, hcomp, popOrder_store, List.nil_append] at hbody
    obtain ⟨t, ht, hl, horders⟩ := ends_of_state (exec_of_done (c := .metersApplyNow) h rfl ha hbody) rfl
      ((popOrder_resetWait rest s).trans h.noWait) (popOrder_cartridges rest s) rfl
    have hheld : ∀ r : Result, ((popOrder rest s).orders.holding ++ [r]).length = s.orders.holding.length + 1 := fun r => by
      rw [popOrder_holding, List.length_append]
      rfl
    refine ⟨t, ht, leavesQueue_of_queue (by rw [horders]; rfl), ?_, by rw [horders]; rfl, fun hroom => ?_, fun hfull => ?_⟩
    · rw [hl, ← popOrder_ledger rest s, ← popOrder_store rest s]
      rfl
    · rw [horders, OrderTaker.moved_of_one (r := p.result (some .superseded) []) rfl]
      · refine ⟨?_, rfl⟩
        refine (congrArg (fun l => (l ++ [_]) ++ [_]) (popOrder_holding rest s)).trans ?_
        rw [List.append_assoc]
        rfl
      · exact (hheld _).trans_lt (by omega)
    · rw [horders, OrderTaker.moved_of_full ((by omega : 8 ≤ s.orders.holding.length + 1).trans_eq (hheld _).symm)]
      exact ⟨congrArg (· ++ _) (popOrder_holding rest s), rfl⟩

end Sys2Proof.Machine
end

section

/-! PROOFS. Where draw goes (R155 to R157, R159): what a run of routings leaves in the slots, in the absent list and in
the totals, said once for the side's draws and the unattributed ones. -/

namespace Sys2Proof.Machine

variable {s t u : State} {p q : Plane}

/-! ### Additions to an owed draw -/

theorem owedAfter_append (owed : Nat) (l : List Nat) (d : Nat) :
    owedAfter owed (l ++ [d]) = min 4294967295 (owedAfter owed l + d) := by
  unfold owedAfter
  rw [if_neg (by simp), List.sum_append, List.sum_singleton]
  split
  case isTrue h =>
    rw [h, List.sum_nil, Nat.zero_add]
  case isFalse => omega

theorem lostOver_append (owed : Nat) (l : List Nat) (d : Nat) :
    lostOver owed (l ++ [d]) = lostOver owed l + (owedAfter owed l + d - 4294967295) := by
  unfold owedAfter lostOver
  rw [if_neg (by simp), List.sum_append, List.sum_singleton]
  split
  case isTrue h =>
    rw [h, List.sum_nil, Nat.zero_add, Nat.zero_add]
  case isFalse => omega

/-! ### The draws of each plane with their places -/

/-- For each plane its draws in the order in which they are routed, each with the place it goes to. -/
abbrev Draws := Plane → List (DrawPlace × Nat)

/-- The draws of a plane that go to a place. -/
def Draws.sent (draws : Draws) (p : Plane) (w : DrawPlace) : List Nat :=
  ((draws p).filter fun x => decide (x.1 = w)).map Prod.snd

/-- What the draws of a plane leave over their owed draws' maximum. -/
def Draws.excess (draws : Draws) (s : State) (p : Plane) : Nat :=
  lostOver s.cartridges.slots[p].owed (draws.sent p .slot) +
    (s.cartridges.absent.zipIdx.map fun x => lostOver x.1.owed (draws.sent p (.entry x.2))).sum

/-- One more draw of plane `p`. -/
def Draws.add (draws : Draws) (p : Plane) (w : DrawPlace) (d : Nat) : Draws :=
  fun q => if q = p then draws p ++ [(w, d)] else draws q

section Draws

variable (draws : Draws) (p : Plane) (w : DrawPlace) (d : Nat)

theorem Draws.add_same : draws.add p w d p = draws p ++ [(w, d)] := if_pos rfl

theorem Draws.add_other (h : q ≠ p) : draws.add p w d q = draws q := if_neg h

theorem Draws.sent_add_same : (draws.add p w d).sent p w = draws.sent p w ++ [d] := by
  unfold Draws.sent
  rw [Draws.add_same, List.filter_append, List.map_append]
  simp

theorem Draws.sent_add_place {w' : DrawPlace} (h : w' ≠ w) : (draws.add p w d).sent p w' = draws.sent p w' := by
  unfold Draws.sent
  rw [Draws.add_same, List.filter_append, List.map_append]
  simp [Ne.symm h]

theorem Draws.sent_add_other (w' : DrawPlace) (h : q ≠ p) : (draws.add p w d).sent q w' = draws.sent q w' := by
  unfold Draws.sent
  rw [Draws.add_other draws p w d h]

theorem Draws.excess_add_other (s : State) (h : q ≠ p) : (draws.add p w d).excess s q = draws.excess s q := by
  unfold Draws.excess
  simp only [Draws.sent_add_other draws p w d _ h]

theorem Draws.excess_add_unproven (s : State) : (draws.add p .unproven d).excess s p = draws.excess s p := by
  unfold Draws.excess
  have hentry : ∀ k, (draws.add p .unproven d).sent p (.entry k) = draws.sent p (.entry k) := fun k =>
    draws.sent_add_place p .unproven d nofun
  rw [draws.sent_add_place p .unproven d (w' := .slot) nofun]
  simp only [hentry]

theorem Draws.excess_add_slot (s : State) : (draws.add p .slot d).excess s p =
    draws.excess s p + (owedAfter s.cartridges.slots[p].owed (draws.sent p .slot) + d - 4294967295) := by
  unfold Draws.excess
  have hentry : ∀ k, (draws.add p .slot d).sent p (.entry k) = draws.sent p (.entry k) := fun k =>
    draws.sent_add_place p .slot d nofun
  rw [Draws.sent_add_same, lostOver_append]
  simp only [hentry]
  omega

end Draws

/-- A sum over the places of a list in which the term of one place grows. -/
theorem sum_zipIdx_grow {α : Type} {f g : α × Nat → Nat} {k d n : Nat} {a : α} {l : List α} (hk : l[k]? = some a)
    (hsame : ∀ x, x.2 ≠ n + k → g x = f x) (hat : g (a, n + k) = f (a, n + k) + d) :
    ((l.zipIdx n).map g).sum = ((l.zipIdx n).map f).sum + d := by
  induction l generalizing k n with
  | nil => cases hk
  | cons x l ih =>
    rw [List.zipIdx_cons, List.map_cons, List.map_cons, List.sum_cons, List.sum_cons]
    cases k with
    | zero =>
      rw [List.getElem?_cons_zero] at hk
      cases hk
      have hrest : (l.zipIdx (n + 1)).map g = (l.zipIdx (n + 1)).map f := List.map_congr_left fun y hy => by
        refine hsame y ?_
        have := List.le_snd_of_mem_zipIdx hy
        omega
      rw [hrest]
      change g (a, n) = f (a, n) + d at hat
      omega
    | succ k =>
      rw [List.getElem?_cons_succ] at hk
      have hshift : n + (k + 1) = n + 1 + k := by omega
      rw [ih hk (by rwa [hshift] at hsame) (by rwa [hshift] at hat), hsame (x, n) (by dsimp only; omega)]
      omega

theorem Draws.excess_add_entry (draws : Draws) (p : Plane) (d : Nat) (s : State) {k : Nat} {a : AbsentEntry}
    (hk : s.cartridges.absent[k]? = some a) : (draws.add p (.entry k) d).excess s p =
      draws.excess s p + (owedAfter a.owed (draws.sent p (.entry k)) + d - 4294967295) := by
  have hsum : (s.cartridges.absent.zipIdx.map fun x =>
      lostOver x.1.owed ((draws.add p (.entry k) d).sent p (.entry x.2))).sum =
      (s.cartridges.absent.zipIdx.map fun x => lostOver x.1.owed (draws.sent p (.entry x.2))).sum +
        (owedAfter a.owed (draws.sent p (.entry k)) + d - 4294967295) := by
    refine sum_zipIdx_grow (n := 0) hk (fun x hx => ?_) ?_
    · rw [draws.sent_add_place p (.entry k) d fun h => hx ((DrawPlace.entry.inj h).trans (Nat.zero_add k).symm)]
    · rw [Nat.zero_add, Draws.sent_add_same, lostOver_append]
  unfold Draws.excess
  rw [draws.sent_add_place p (.entry k) d (w' := .slot) nofun, hsum]
  omega

/-! ### A run of routings -/

/-- What the routing of draws, and the counting of re-proofs, makes of `s`. -/
structure Routing (s : State) (draws : Draws) (counted : Plane → Bool) (t : State) : Prop where
  length : t.cartridges.absent.length = s.cartridges.absent.length
  entry : ∀ (place : Nat) (a : AbsentEntry), s.cartridges.absent[place]? = some a →
    t.cartridges.absent[place]? = some { a with owed := owedAfter a.owed (draws.sent a.plane (.entry place)) }
  slot : ∀ p : Plane, ∃ probePending debitPending, t.cartridges.slots[p] =
    { s.cartridges.slots[p] with
      owed := owedAfter s.cartridges.slots[p].owed (draws.sent p .slot)
      reproof := if counted p then reproofAfter s p else s.cartridges.slots[p].reproof
      probePending, debitPending }
  totals : ∀ p : Plane, t.cartridges.totals[p] =
    { drawn := s.cartridges.totals[p].drawn + BitVec.ofNat 64 ((draws p).map Prod.snd).sum
      confirmed := s.cartridges.totals[p].confirmed
      unproven := s.cartridges.totals[p].unproven + BitVec.ofNat 64 (draws.sent p .unproven).sum
      lost := s.cartridges.totals[p].lost + BitVec.ofNat 64 (draws.excess s p) }
  policy : t.cartridges.policy = s.cartridges.policy
  line : t.cartridges.line = s.cartridges.line
  pins : t.cartridges.pins = s.cartridges.pins
  notice : ∀ p : Plane, 0 < draws.excess s p → t.writer.notices.getLsbD 3 = true

/-- Nothing is routed yet. -/
theorem Routing.start (h : t.cartridges = s.cartridges) : Routing s (fun _ => []) (fun _ => false) t := by
  have hnone : ∀ p, Draws.excess (fun _ => []) s p = 0 := fun p => by
    unfold Draws.excess
    simp [Draws.sent, lostOver]
  refine ⟨by rw [h], fun place a ha => ?_, fun p => ⟨_, _, by rw [h]; rfl⟩, fun p => ?_, by rw [h], by rw [h], by rw [h],
    fun p hp => ?_⟩
  · rw [h]
    exact ha
  · rw [h, hnone]
    simp [Draws.sent]
  · rw [hnone] at hp
    cases hp

variable {draws : Draws} {counted : Plane → Bool}

/-- What touches neither the cartridges nor clears a notice. -/
theorem Routing.kept (h : Routing s draws counted t) (hc : u.cartridges = t.cartridges)
    (hn : t.writer.notices.getLsbD 3 = true → u.writer.notices.getLsbD 3 = true) : Routing s draws counted u := by
  obtain ⟨hlength, hentry, hslot, htotals, hpolicy, hline, hpins, hnotice⟩ := h
  exact ⟨by rw [hc, hlength], fun k a ha => by rw [hc]; exact hentry k a ha, fun p => by rw [hc]; exact hslot p,
    fun p => by rw [hc]; exact htotals p, by rw [hc, hpolicy], by rw [hc, hline], by rw [hc, hpins],
    fun p hp => hn (hnotice p hp)⟩

/-- One draw of plane `p` goes to the place `w`, and `spill` of it is lost. -/
structure RoutesOne (p : Plane) (w : DrawPlace) (d spill : Nat) (t u : State) : Prop where
  length : u.cartridges.absent.length = t.cartridges.absent.length
  entry : ∀ (place : Nat) (a : AbsentEntry), t.cartridges.absent[place]? = some a →
    (w ≠ .entry place → u.cartridges.absent[place]? = some a) ∧
    (w = .entry place → a.plane = p ∧
      u.cartridges.absent[place]? = some { a with owed := min 4294967295 (a.owed + d) })
  slot : ∃ debitPending, u.cartridges.slots[p] = { t.cartridges.slots[p] with
    owed := if w = .slot then min 4294967295 (t.cartridges.slots[p].owed + d) else t.cartridges.slots[p].owed
    debitPending }
  others : ∀ q : Plane, q ≠ p → u.cartridges.slots[q] = t.cartridges.slots[q]
  totals : u.cartridges.totals[p] = { t.cartridges.totals[p] with
    drawn := t.cartridges.totals[p].drawn + BitVec.ofNat 64 d
    unproven := t.cartridges.totals[p].unproven + BitVec.ofNat 64 (if w = .unproven then d else 0)
    lost := t.cartridges.totals[p].lost + BitVec.ofNat 64 spill }
  otherTotals : ∀ q : Plane, q ≠ p → u.cartridges.totals[q] = t.cartridges.totals[q]
  policy : u.cartridges.policy = t.cartridges.policy
  line : u.cartridges.line = t.cartridges.line
  pins : u.cartridges.pins = t.cartridges.pins
  notice : (0 < spill → u.writer.notices.getLsbD 3 = true) ∧
    (t.writer.notices.getLsbD 3 = true → u.writer.notices.getLsbD 3 = true)

theorem Routing.add (h : Routing s draws counted t) {w : DrawPlace} {d spill : Nat} (hone : RoutesOne p w d spill t u)
    (hover : (draws.add p w d).excess s p = draws.excess s p + spill) :
    Routing s (draws.add p w d) counted u := by
  refine ⟨hone.length.trans h.length, fun place a ha => ?_, fun q => ?_, fun q => ?_, hone.policy.trans h.policy,
    hone.line.trans h.line, hone.pins.trans h.pins, fun q hq => ?_⟩
  · obtain ⟨hkept, hgrows⟩ := hone.entry place _ (h.entry place a ha)
    by_cases hw : w = .entry place
    · obtain ⟨hp, hu⟩ := hgrows hw
      subst hw
      change a.plane = p at hp
      rw [hu, hp, Draws.sent_add_same, owedAfter_append]
    · rw [hkept hw]
      by_cases hp : a.plane = p
      · rw [hp, Draws.sent_add_place draws p w d (Ne.symm hw)]
      · rw [Draws.sent_add_other draws p w d _ hp]
  · obtain ⟨probePending, debitPending, hslot⟩ := h.slot q
    by_cases hq : q = p
    · subst hq
      obtain ⟨due, hslot'⟩ := hone.slot
      refine ⟨probePending, due, ?_⟩
      rw [hslot', hslot]
      by_cases hw : w = .slot
      · subst hw
        rw [if_pos rfl, Draws.sent_add_same, owedAfter_append]
      · rw [if_neg hw, Draws.sent_add_place draws q w d (Ne.symm hw)]
    · exact ⟨probePending, debitPending, by rw [hone.others q hq, hslot, Draws.sent_add_other draws p w d _ hq]⟩
  · by_cases hq : q = p
    · subst hq
      rw [hone.totals, h.totals, hover, Draws.add_same, List.map_append, List.sum_append, BitVec.ofNat_add,
        BitVec.ofNat_add, ← BitVec.add_assoc, ← BitVec.add_assoc]
      by_cases hw : w = .unproven
      · subst hw
        rw [if_pos rfl, Draws.sent_add_same, List.sum_append, BitVec.ofNat_add, ← BitVec.add_assoc]
        rfl
      · rw [if_neg hw, Draws.sent_add_place draws q w d (Ne.symm hw)]
        simp
    · rw [hone.otherTotals q hq, h.totals, Draws.add_other draws p w d hq, Draws.sent_add_other draws p w d _ hq,
        Draws.excess_add_other draws p w d s hq]
  · by_cases hqp : q = p
    · subst hqp
      rw [hover] at hq
      by_cases hzero : spill = 0
      · rw [hzero, Nat.add_zero] at hq
        exact hone.notice.2 (h.notice q hq)
      · exact hone.notice.1 (Nat.pos_of_ne_zero hzero)
    · rw [Draws.excess_add_other draws p w d s hqp] at hq
      exact hone.notice.2 (h.notice q hq)

theorem getLsbD_raise (n : Notice) (i : Nat) (h : s.writer.notices.getLsbD i = true) :
    (s.raise n).writer.notices.getLsbD i = true := by
  unfold State.raise
  rw [BitVec.getLsbD_or, h, Bool.true_or]

theorem raise_getLsbD (s : State) (n : Notice) : (s.raise n).writer.notices.getLsbD n.bit = true := by
  have hbit : n.bit < 32 := by
    cases n <;> simp only [Notice.bit] <;> omega
  unfold State.raise
  rw [BitVec.getLsbD_or, BitVec.getLsbD_shiftLeft, decide_eq_true hbit, Nat.sub_self]
  simp

theorem onTotals_same (s : State) (p : Plane) (f : DrawTotals → DrawTotals) :
    (s.onTotals p f).cartridges.totals[p] = f s.cartridges.totals[p] := put_same _ _ _

theorem onTotals_other (s : State) (f : DrawTotals → DrawTotals) (h : q ≠ p) :
    (s.onTotals p f).cartridges.totals[q] = s.cartridges.totals[q] := put_other _ _ _ _ (Ne.symm h)

theorem onSlot_other (s : State) (f : CartridgeSlot → CartridgeSlot) (h : q ≠ p) :
    (s.onSlot p f).cartridges.slots[q] = s.cartridges.slots[q] := put_other _ _ _ _ (Ne.symm h)

theorem onSlot_totals (s : State) (p : Plane) (f : CartridgeSlot → CartridgeSlot) :
    (s.onSlot p f).cartridges.totals = s.cartridges.totals := rfl

theorem addDrawn_same (p : Plane) (d : Nat) (s : State) : (addDrawn p d s).cartridges.totals[p] =
    { s.cartridges.totals[p] with drawn := s.cartridges.totals[p].drawn + BitVec.ofNat 64 d } := onTotals_same s p _

theorem addDrawn_other (d : Nat) (s : State) (h : q ≠ p) :
    (addDrawn p d s).cartridges.totals[q] = s.cartridges.totals[q] := onTotals_other s _ h

theorem addUnproven_routes (p : Plane) (d : Nat) (t : State) :
    RoutesOne p .unproven d 0 t (addUnproven p d (addDrawn p d t)) where
  length := rfl
  entry _ _ ha := ⟨fun _ => ha, nofun⟩
  slot := ⟨_, rfl⟩
  others _ _ := rfl
  totals := by
    unfold addUnproven addDrawn
    rw [onTotals_same, onTotals_same, if_pos rfl, BitVec.add_zero]
  otherTotals q hq := by
    unfold addUnproven addDrawn
    rw [onTotals_other _ _ hq, onTotals_other _ _ hq]
  policy := rfl
  line := rfl
  pins := rfl
  notice := ⟨nofun, id⟩

theorem loseExcess_cartridges (p : Plane) (owed d : Nat) (s : State) : (loseExcess p owed d s).cartridges =
    { s.cartridges with totals := put s.cartridges.totals p { s.cartridges.totals[p] with
      lost := s.cartridges.totals[p].lost + BitVec.ofNat 64 (owed + d - 4294967295) } } := by
  unfold loseExcess
  split
  case isTrue => rfl
  case isFalse hle =>
    have hzero : owed + d - 4294967295 = 0 := Nat.sub_eq_zero_of_le (Nat.le_of_not_lt hle)
    have hsame : ({ s.cartridges.totals[p] with lost := s.cartridges.totals[p].lost + BitVec.ofNat 64 0 } : DrawTotals) =
        s.cartridges.totals[p] := by simp
    rw [hzero, hsame, put_self]

theorem loseExcess_notice (p : Plane) (owed d : Nat) (s : State) :
    (0 < owed + d - 4294967295 → (loseExcess p owed d s).writer.notices.getLsbD 3 = true) ∧
    (s.writer.notices.getLsbD 3 = true → (loseExcess p owed d s).writer.notices.getLsbD 3 = true) := by
  unfold loseExcess
  split
  case isTrue => exact ⟨fun _ => raise_getLsbD _ .saturation, getLsbD_raise .saturation 3⟩
  case isFalse hle =>
    exact ⟨fun hlt => absurd (Nat.sub_eq_zero_of_le (Nat.le_of_not_lt hle)) (Nat.ne_of_gt hlt), id⟩

/-- The threshold test only makes a debit due. -/
theorem thresholdTest_cartridges (p : Plane) (s : State) : ∃ debitPending, (thresholdTest p s).cartridges =
    { s.cartridges with slots := put s.cartridges.slots p { s.cartridges.slots[p] with debitPending } } := by
  unfold thresholdTest
  dsimp only
  split
  · exact ⟨true, rfl⟩
  · exact ⟨s.cartridges.slots[p].debitPending, by rw [put_self]⟩

theorem thresholdTest_writer (p : Plane) (s : State) : (thresholdTest p s).writer = s.writer := by
  unfold thresholdTest
  dsimp only
  split <;> rfl

theorem oweSlot_routes (p : Plane) (d : Nat) (t : State) :
    RoutesOne p .slot d (t.cartridges.slots[p].owed + d - 4294967295) t (oweSlot p d (addDrawn p d t)) := by
  obtain ⟨debitPending, hdue⟩ := thresholdTest_cartridges p (loseExcess p t.cartridges.slots[p].owed d
    ((addDrawn p d t).onSlot p fun c => { c with owed := min max32 (t.cartridges.slots[p].owed + d) }))
  rw [loseExcess_cartridges] at hdue
  change (oweSlot p d (addDrawn p d t)).cartridges = _ at hdue
  refine ⟨?_, fun place a ha => ⟨fun _ => ?_, nofun⟩, ⟨debitPending, ?_⟩, fun q hq => ?_, ?_, fun q hq => ?_, ?_, ?_, ?_, ?_⟩
  · rw [hdue]
    rfl
  · rw [hdue]
    exact ha
  · rw [hdue]
    dsimp only
    rw [put_same, onSlot_slot, if_pos rfl]
    rfl
  · rw [hdue]
    dsimp only
    rw [put_other _ _ _ _ (Ne.symm hq), onSlot_other _ _ hq]
    rfl
  · rw [hdue]
    dsimp only
    rw [put_same, if_neg nofun, BitVec.add_zero, onSlot_totals, addDrawn_same]
  · rw [hdue]
    dsimp only
    rw [put_other _ _ _ _ (Ne.symm hq), onSlot_totals, addDrawn_other d t hq]
  · rw [hdue]
    rfl
  · rw [hdue]
    rfl
  · rw [hdue]
    rfl
  · unfold oweSlot
    dsimp only
    rw [thresholdTest_writer]
    exact loseExcess_notice p _ d _

/-- An addition to the first entry with a serial and plane, place by place. -/
theorem oweEntries_getElem? {l : List AbsentEntry} {a : AbsentEntry} {k : Nat} (hk : l[k]? = some a)
    (hfirst : ∀ i < k, ∀ b, l[i]? = some b → ¬(b.serial = a.serial ∧ b.plane = a.plane)) (d : Nat) :
    oweEntries a.serial a.plane d l = l.set k { a with owed := min 4294967295 (a.owed + d) } := by
  induction l generalizing k with
  | nil => cases hk
  | cons x l ih =>
    cases k with
    | zero =>
      cases hk
      simp [oweEntries, max32]
    | succ k =>
      rw [List.getElem?_cons_succ] at hk
      have hx := hfirst 0 (Nat.succ_pos k) x rfl
      rw [oweEntries, if_neg hx, ih hk fun i hi b hb => hfirst (i + 1) (Nat.succ_lt_succ hi) b hb]
      rfl

theorem oweAbsent_routes (d : Nat) {t : State} {a : AbsentEntry} {k : Nat} (hk : t.cartridges.absent[k]? = some a)
    (hfirst : ∀ i < k, ∀ b, t.cartridges.absent[i]? = some b → ¬(b.serial = a.serial ∧ b.plane = a.plane)) :
    RoutesOne a.plane (.entry k) d (a.owed + d - 4294967295) t (oweAbsent a d (addDrawn a.plane d t)) := by
  have hcart : (oweAbsent a d (addDrawn a.plane d t)).cartridges = _ := loseExcess_cartridges a.plane a.owed d _
  rw [show (addDrawn a.plane d t).cartridges.absent = t.cartridges.absent from rfl, oweEntries_getElem? hk hfirst] at hcart
  refine ⟨?_, fun place b hb => ⟨fun hne => ?_, fun he => ?_⟩, ?_, fun q hq => ?_, ?_, fun q hq => ?_, ?_, ?_, ?_, ?_⟩
  · rw [hcart]
    exact List.length_set
  · rw [hcart]
    dsimp only
    rw [List.getElem?_set_ne fun h => hne (congrArg DrawPlace.entry h), hb]
  · cases he
    rw [hk] at hb
    cases hb
    refine ⟨rfl, ?_⟩
    rw [hcart]
    dsimp only
    rw [List.getElem?_set_self (List.getElem?_eq_some_iff.mp hk).1]
  · rw [hcart]
    exact ⟨_, rfl⟩
  · rw [hcart]
    rfl
  · rw [hcart]
    dsimp only
    rw [put_same, if_neg nofun, BitVec.add_zero, addDrawn_same]
  · rw [hcart]
    dsimp only
    rw [put_other _ _ _ _ (Ne.symm hq), addDrawn_other d t hq]
  · rw [hcart]
    rfl
  · rw [hcart]
    rfl
  · rw [hcart]
    rfl
  · exact loseExcess_notice a.plane a.owed d _

/-! ### The routings of the model -/

theorem Routing.slot_verdict (h : Routing s draws counted t) (p : Plane) :
    t.cartridges.slots[p].verdict = s.cartridges.slots[p].verdict ∧
    t.cartridges.slots[p].serial = s.cartridges.slots[p].serial ∧
    t.cartridges.slots[p].seated = s.cartridges.slots[p].seated ∧
    t.cartridges.slots[p].exchange = s.cartridges.slots[p].exchange ∧
    t.cartridges.slots[p].owed = owedAfter s.cartridges.slots[p].owed (draws.sent p .slot) := by
  obtain ⟨probePending, debitPending, hslot⟩ := h.slot p
  rw [hslot]
  exact ⟨rfl, rfl, rfl, rfl, rfl⟩

theorem Routing.toSlot (h : Routing s draws counted t) (p : Plane) (d : Nat) :
    Routing s (draws.add p .slot d) counted (oweSlot p d (addDrawn p d t)) := by
  refine h.add (oweSlot_routes p d t) ?_
  rw [Draws.excess_add_slot, (h.slot_verdict p).2.2.2.2]

theorem Routing.toUnproven (h : Routing s draws counted t) (p : Plane) (d : Nat) :
    Routing s (draws.add p .unproven d) counted (addUnproven p d (addDrawn p d t)) :=
  h.add (addUnproven_routes p d t) (Draws.excess_add_unproven draws p d s)

/-- The absent list keeps its entries in their places, but for their owed draw. -/
theorem Routing.absent_map (h : Routing s draws counted t) :
    (t.cartridges.absent.map fun a => (a.serial, a.plane)) = s.cartridges.absent.map fun a => (a.serial, a.plane) := by
  refine List.ext_getElem? fun k => ?_
  rw [List.getElem?_map, List.getElem?_map]
  cases hk : s.cartridges.absent[k]? with
  | none =>
    have hlen := List.getElem?_eq_none_iff.mp hk
    rw [← h.length] at hlen
    rw [List.getElem?_eq_none_iff.mpr hlen]
  | some a =>
    rw [h.entry k a hk]
    rfl

theorem Routing.findIdx?_eq (h : Routing s draws counted t) (v : Serial) (p : Plane) :
    (t.cartridges.absent.findIdx? fun a => decide (a.serial = v) && decide (a.plane = p)) =
      s.cartridges.absent.findIdx? fun a => decide (a.serial = v) && decide (a.plane = p) := by
  have hmap : ∀ l : List AbsentEntry, (l.findIdx? fun a => decide (a.serial = v) && decide (a.plane = p)) =
      (l.map fun a => (a.serial, a.plane)).findIdx? fun x => decide (x.1 = v) && decide (x.2 = p) := fun l => by
    rw [List.findIdx?_map]
    rfl
  rw [hmap, hmap, h.absent_map]

/-- The first entry with a serial and plane, by its place. -/
theorem absentEntry_of_findIdx? {v : Serial} {k : Nat}
    (h : (t.cartridges.absent.findIdx? fun a => decide (a.serial = v) && decide (a.plane = p)) = some k) :
    ∃ a, t.absentEntry v p = some a ∧ t.cartridges.absent[k]? = some a ∧ a.serial = v ∧ a.plane = p ∧
      ∀ i < k, ∀ b, t.cartridges.absent[i]? = some b → ¬(b.serial = a.serial ∧ b.plane = a.plane) := by
  obtain ⟨hk, hat, hfirst⟩ := List.findIdx?_eq_some_iff_getElem.mp h
  have hmatch := hat
  rw [Bool.and_eq_true, decide_eq_true_eq, decide_eq_true_eq] at hmatch
  refine ⟨t.cartridges.absent[k], List.find?_eq_some_iff_getElem.mpr ⟨hat, k, hk, rfl, fun j hj => ?_⟩,
    List.getElem?_eq_getElem hk, hmatch.1, hmatch.2, fun i hi b hb => ?_⟩
  · have := hfirst j hj
    rw [Bool.not_eq_true] at this
    rw [this]
    rfl
  · obtain ⟨hlt, rfl⟩ := List.getElem?_eq_some_iff.mp hb
    have := hfirst i hi
    rw [hmatch.1, hmatch.2]
    simpa using this

/-- The draw goes to an entry of the absent list. -/
theorem Routing.toEntry (h : Routing s draws counted t) {v : Serial} {k : Nat} (d : Nat)
    (hk : (s.cartridges.absent.findIdx? fun a => decide (a.serial = v) && decide (a.plane = p)) = some k) :
    ∃ a, t.absentEntry v p = some a ∧
      Routing s (draws.add p (.entry k) d) counted (oweAbsent a d (addDrawn p d t)) := by
  obtain ⟨a, hentry, hat, -, rfl, hfirst⟩ := absentEntry_of_findIdx? ((h.findIdx?_eq v p).trans hk)
  obtain ⟨b, -, hb, -, -, -⟩ := absentEntry_of_findIdx? hk
  have hsame := h.entry k b hb
  rw [hat] at hsame
  have howed : a.owed = owedAfter b.owed (draws.sent a.plane (.entry k)) := by
    obtain rfl := Option.some.inj hsame
    rfl
  refine ⟨a, hentry, h.add (oweAbsent_routes d hat hfirst) ?_⟩
  rw [Draws.excess_add_entry draws a.plane d s hb, howed]

/-- The draw of a side's plane goes where its recorded serial says (R155). -/
theorem Routing.sideDraw (h : Routing s draws counted t) (p : Plane) (d : Nat) (serial : Option Serial) :
    Routing s (draws.add p (sidePlace s p serial) d) counted (routeSideDraw p d serial t).1 := by
  obtain ⟨hverdict, hserial, -, -, -⟩ := h.slot_verdict p
  unfold sidePlace routeSideDraw
  dsimp only
  cases serial with
  | none => exact h.toUnproven p d
  | some v =>
    dsimp only
    rw [hverdict, hserial]
    by_cases hslot : s.cartridges.slots[p].verdict = .genuine ∧ s.cartridges.slots[p].serial = some v
    · rw [if_pos hslot, if_pos hslot]
      exact h.toSlot p d
    · rw [if_neg hslot, if_neg hslot]
      cases hk : s.cartridges.absent.findIdx? fun a => decide (a.serial = v) && decide (a.plane = p) with
      | some k =>
        obtain ⟨a, hentry, hrouted⟩ := h.toEntry d hk
        rw [hentry]
        exact hrouted
      | none =>
        have hnone : t.absentEntry v p = none := by
          have hidx := (h.findIdx?_eq v p).trans hk
          rw [List.findIdx?_eq_none_iff] at hidx
          exact List.find?_eq_none.mpr fun a ha => by rw [hidx a ha]; exact Bool.false_ne_true
        rw [hnone]
        exact h.toUnproven p d

/-- Unattributed draw goes to a GENUINE slot or to the unproven total (R156). -/
theorem Routing.unattributed (h : Routing s draws counted t) (p : Plane) (d : Nat) :
    Routing s (draws.add p (unattributedPlace s p) d) counted (routeUnattributed p d t) := by
  obtain ⟨hverdict, hserial, hseated, -, -⟩ := h.slot_verdict p
  unfold unattributedPlace routeUnattributed
  dsimp only
  rw [hverdict, hserial, hseated]
  by_cases hslot : s.cartridges.slots[p].seated = true ∧ s.cartridges.slots[p].serial.isSome = true ∧
      s.cartridges.slots[p].verdict = .genuine
  · rw [if_pos hslot, if_pos hslot]
    exact h.toSlot p d
  · rw [if_neg hslot, if_neg hslot]
    exact h.toUnproven p d

theorem requestProbe_cartridges (p : Plane) (s : State) : ∃ probePending, (requestProbe p s).cartridges =
    { s.cartridges with slots := put s.cartridges.slots p { s.cartridges.slots[p] with probePending } } := by
  unfold requestProbe
  dsimp only
  split
  · exact ⟨true, rfl⟩
  · exact ⟨s.cartridges.slots[p].probePending, by rw [put_self]⟩

theorem requestProbe_writer (p : Plane) (s : State) : (requestProbe p s).writer = s.writer := by
  unfold requestProbe
  dsimp only
  split <;> rfl

theorem countReproof_cartridges (p : Plane) (s : State) : ∃ probePending, (countReproof p s).cartridges =
    { s.cartridges with
      slots := put s.cartridges.slots p { s.cartridges.slots[p] with reproof := reproofAfter s p, probePending } } := by
  unfold countReproof reproofAfter
  dsimp only
  by_cases hcounts : s.cartridges.slots[p].seated = true ∧ s.cartridges.slots[p].exchange ≠ .settling
  · have hnot : ¬(s.cartridges.slots[p].seated = false ∨ s.cartridges.slots[p].exchange = .settling) :=
      not_or.mpr ⟨by rw [hcounts.1]; decide, hcounts.2⟩
    rw [if_pos hcounts, if_neg hnot]
    split
    · obtain ⟨probePending, hprobe⟩ := requestProbe_cartridges p (s.onSlot p fun c => { c with reproof := 0 })
      refine ⟨probePending, hprobe.trans ?_⟩
      rw [onSlot_slot]
      exact congrArg (fun v => { s.cartridges with slots := v }) (put_put _ _ _ _)
    · exact ⟨_, rfl⟩
  · have hor : s.cartridges.slots[p].seated = false ∨ s.cartridges.slots[p].exchange = .settling := by
      rcases not_and_or.mp hcounts with hseated | hsettling
      · exact .inl (Bool.eq_false_iff.mpr hseated)
      · exact .inr (not_not.mp hsettling)
    rw [if_neg hcounts, if_pos hor]
    exact ⟨s.cartridges.slots[p].probePending, by rw [put_self]⟩

theorem countReproof_writer (p : Plane) (s : State) : (countReproof p s).writer = s.writer := by
  unfold countReproof
  dsimp only
  split
  · split
    · exact requestProbe_writer p _
    · rfl
  · rfl

/-- The re-proof count of a plane's slot (R159). -/
theorem Routing.count (h : Routing s draws counted t) (hp : counted p = false) :
    Routing s draws (fun q => decide (q = p) || counted q) (countReproof p t) := by
  obtain ⟨probePending, hcart⟩ := countReproof_cartridges p t
  obtain ⟨_, debitPending, hslot⟩ := h.slot p
  rw [hp, if_neg Bool.false_ne_true] at hslot
  have hafter : reproofAfter t p = reproofAfter s p := by
    unfold reproofAfter
    rw [hslot, h.policy]
  rw [hafter] at hcart
  refine ⟨by rw [hcart]; exact h.length, fun k a ha => by rw [hcart]; exact h.entry k a ha, fun q => ?_,
    fun q => by rw [hcart]; exact h.totals q, by rw [hcart]; exact h.policy, by rw [hcart]; exact h.line,
    by rw [hcart]; exact h.pins, fun q hq => by rw [countReproof_writer]; exact h.notice q hq⟩
  by_cases hq : q = p
  · subst hq
    refine ⟨probePending, debitPending, ?_⟩
    rw [hcart, hslot]
    dsimp only
    rw [put_same, decide_eq_true rfl, Bool.true_or, if_pos rfl]
  · obtain ⟨probePending, debitPending, hother⟩ := h.slot q
    refine ⟨probePending, debitPending, ?_⟩
    rw [hcart]
    dsimp only
    rw [put_other _ _ _ _ (Ne.symm hq), hother, decide_eq_false hq, Bool.false_or]

/-! ### The end of an event -/

/-- Notices that are set stay set, and others may be. -/
def NoticesGrow (s t : State) : Prop := ∀ i, s.writer.notices.getLsbD i = true → t.writer.notices.getLsbD i = true

theorem NoticesGrow.trans (hst : NoticesGrow s t) (htu : NoticesGrow t u) : NoticesGrow s u :=
  fun i h => htu i (hst i h)

theorem raise_grow (s : State) (n : Notice) : NoticesGrow s (s.raise n) := fun _ => getLsbD_raise n _

theorem raiseIf_grow (s : State) (b : Bool) (n : Notice) : NoticesGrow s (s.raiseIf b n) := by
  unfold State.raiseIf
  split
  · exact raise_grow s n
  · exact fun _ => id

/-- The ledger but for its notices, which only grow. -/
def LedgerGrows (s t : State) : Prop := t.ledger = { s.ledger with notices := t.writer.notices } ∧ NoticesGrow s t

theorem LedgerGrows.refl (s : State) : LedgerGrows s s := ⟨rfl, fun _ => id⟩

theorem LedgerGrows.trans (hst : LedgerGrows s t) (htu : LedgerGrows t u) : LedgerGrows s u :=
  ⟨by rw [htu.1, hst.1], hst.2.trans htu.2⟩

theorem raiseIf_ledgerGrows (s : State) (b : Bool) (n : Notice) : LedgerGrows s (s.raiseIf b n) := by
  refine ⟨?_, raiseIf_grow s b n⟩
  unfold State.raiseIf
  split <;> rfl

theorem testEstimate_ledgerGrows (b : State) (p : Plane) (s : State) : LedgerGrows s (testEstimate b p s) := by
  unfold testEstimate
  dsimp only
  split
  · exact .refl s
  · exact (raiseIf_ledgerGrows s _ _).trans (raiseIf_ledgerGrows _ _ _)

theorem testEstimates_ledgerGrows (b s : State) : LedgerGrows s (testEstimates b s) := by
  unfold testEstimates allPlanes
  simp only [List.foldl_cons, List.foldl_nil]
  exact (((testEstimate_ledgerGrows b _ s).trans (testEstimate_ledgerGrows b _ _)).trans
    (testEstimate_ledgerGrows b _ _)).trans (testEstimate_ledgerGrows b _ _)

/-- Outside a reset wait, the end of an event only adds notices to the ledger. -/
theorem concludeEvent_ledgerGrows (b : State) (h : s.orders.resetWait = none) : LedgerGrows s (concludeEvent b s) := by
  have hledger := concludeEvent_ledger b s h
  have hgrows := testEstimates_ledgerGrows b s
  have hnotices : (concludeEvent b s).writer.notices = (testEstimates b s).writer.notices :=
    congrArg Ledger.notices hledger
  exact ⟨by rw [hledger, hgrows.1, hnotices], fun i hi => by rw [hnotices]; exact hgrows.2 i hi⟩

theorem LedgerGrows.absent (h : LedgerGrows s t) : t.cartridges.absent = s.cartridges.absent :=
  congrArg Ledger.absent h.1

theorem LedgerGrows.totals (h : LedgerGrows s t) : t.cartridges.totals = s.cartridges.totals :=
  congrArg Ledger.totals h.1

theorem LedgerGrows.standing (h : LedgerGrows s t) (p : Plane) :
    t.cartridges.slots[p].standing = s.cartridges.slots[p].standing := by
  have hv : t.cartridges.slots.map CartridgeSlot.standing = s.cartridges.slots.map CartridgeSlot.standing :=
    congrArg Ledger.slots h.1
  have hp := congrArg (fun v => v[p]) hv
  simpa only [Fin.getElem_fin, Vector.getElem_map] using hp

/-- A run that routes a side's draws and then a conversion's, as the event's statement has it. -/
theorem Routing.drawRouted {side : Plane → Option (Nat × Option Serial)} {rest : Plane → Option Nat}
    (h : Routing s draws counted t) (hdraws : ∀ p, draws p = ((side p).map fun x => (sidePlace s p x.2, x.1)).toList ++
      ((rest p).map fun d => (unattributedPlace s p, d)).toList)
    (hcounted : ∀ p, counted p = (side p).isSome) (hu : LedgerGrows t u) : DrawRouted s u side rest := by
  obtain rfl : draws = fun p => ((side p).map fun x => (sidePlace s p x.2, x.1)).toList ++
    ((rest p).map fun d => (unattributedPlace s p, d)).toList := funext hdraws
  constructor
  refine ⟨by rw [hu.absent, h.length], fun k a ha => by rw [hu.absent]; exact h.entry k a ha, fun p => ⟨?_, ?_, fun hp => ?_⟩⟩
  · obtain ⟨probePending, debitPending, hslot⟩ := h.slot p
    rw [hu.standing, hslot, hcounted]
    rfl
  · rw [hu.totals]
    exact h.totals p
  · exact hu.2 3 (h.notice p hp)

/-! ### A conversion of the unattributed records (R75) -/

theorem convertPlane_routes (h : Routing s draws counted t) (p : Plane) :
    Routing s (draws.add p (unattributedPlace s p) (unattributedDraw t p)) counted (convertPlane t p) :=
  (h.unattributed p _).kept rfl id

end Sys2Proof.Machine
end

section

/-! PROOFS. METERS FLUSH, and the conversion of the unattributed records (R75, R77). -/

namespace Sys2Proof.Machine

variable {s t u : State} {p q : Plane} {draws : Draws} {counted : Plane → Bool}

/-! ### The conversion -/

/-- The conversion of one plane's record: the draw is routed, and the record set to zero. -/
theorem convertPlane_only (s : State) (p : Plane) : ∃ draws cartridges notices, convertPlane s p =
    { s with draws, cartridges, writer := { s.writer with notices }, unattributed := put s.unattributed p .reset } := by
  obtain ⟨draws, cartridges, notices, h⟩ := routeUnattributed_proverOnly p (unattributedDraw s p) s
  refine ⟨draws, cartridges, notices, ?_⟩
  unfold convertPlane
  rw [h]

theorem convertPlane_records (s : State) (p : Plane) : (convertPlane s p).unattributed = put s.unattributed p .reset := by
  obtain ⟨_, _, _, h⟩ := convertPlane_only s p
  rw [h]

theorem unattributedDraw_convertPlane (s : State) (h : q ≠ p) :
    unattributedDraw (convertPlane s p) q = unattributedDraw s q := by
  obtain ⟨_, _, _, hconvert⟩ := convertPlane_only s p
  unfold unattributedDraw
  rw [hconvert]
  dsimp only
  rw [put_other _ _ _ _ (Ne.symm h)]

/-- After a conversion every record is zero; outside the prover nothing else changes. -/
theorem convertUnattributed_only (s : State) : ∃ draws cartridges notices, convertUnattributed s =
    { s with draws, cartridges, writer := { s.writer with notices }, unattributed := Vector.replicate 4 .reset } := by
  have hzero (v : Vector Unattributed 4) (x : Unattributed) :
      put (put (put (put v 0 x) 1 x) 2 x) 3 x = Vector.replicate 4 x := by
    refine Vector.ext fun i hi => ?_
    unfold put
    interval_cases i <;> simp
  unfold convertUnattributed allPlanes
  simp only [List.foldl_cons, List.foldl_nil]
  obtain ⟨_, _, _, h0⟩ := convertPlane_only s 0
  obtain ⟨_, _, _, h1⟩ := convertPlane_only (convertPlane s 0) 1
  obtain ⟨_, _, _, h2⟩ := convertPlane_only (convertPlane (convertPlane s 0) 1) 2
  obtain ⟨draws, cartridges, notices, h3⟩ := convertPlane_only (convertPlane (convertPlane (convertPlane s 0) 1) 2) 3
  refine ⟨draws, cartridges, notices, h3.trans ?_⟩
  rw [h2, h1, h0]
  dsimp only
  rw [hzero]

theorem convertUnattributed_routes (h : Routing s draws counted t) : Routing s
    (fun p => draws p ++ [(unattributedPlace s p, unattributedDraw t p)]) counted (convertUnattributed t) := by
  have hrun := convertPlane_routes (convertPlane_routes (convertPlane_routes (convertPlane_routes h 0) 1) 2) 3
  rw [unattributedDraw_convertPlane _ (by decide), unattributedDraw_convertPlane _ (by decide),
    unattributedDraw_convertPlane _ (by decide), unattributedDraw_convertPlane _ (by decide),
    unattributedDraw_convertPlane _ (by decide), unattributedDraw_convertPlane _ (by decide)] at hrun
  have hdraws : (fun p => draws p ++ [(unattributedPlace s p, unattributedDraw t p)]) =
      (((draws.add 0 (unattributedPlace s 0) (unattributedDraw t 0)).add 1 (unattributedPlace s 1)
        (unattributedDraw t 1)).add 2 (unattributedPlace s 2) (unattributedDraw t 2)).add 3 (unattributedPlace s 3)
          (unattributedDraw t 3) := by
    funext p
    unfold Draws.add
    fin_cases p <;> rfl
  rw [hdraws]
  exact hrun

/-! ### The law of an executed order whose body reaches the cartridges -/

section Body

variable {x : State} {k : Byte} {e : OrderEntry} {rest : List OrderEntry} {c : Instr} {accepts : OrderEntry → Bool}
  {body : OrderEntry → State → OrderAnswer × State} {answer : OrderAnswer} {reason : Option Reason} {values : List Val}

/-- The result stands in the holding list at the end of the event of a body that leaves the order taker alone. -/
theorem answered_of_orders (h : s.Executes k e rest) (ho : x.orders = (popOrder rest s).orders) :
    Answered s (concludeEvent s (x.hold e reason values)) e rest reason values := by
  have hwait : (x.hold e reason values).orders.resetWait = none := by
    unfold State.hold
    rw [ho]
    exact (popOrder_resetWait rest s).trans h.noWait
  have horders := (concludeEvent_orders s _ hwait).trans (moveCompleted_orders _)
  unfold State.hold at horders
  rw [ho] at horders
  refine ⟨leavesQueue_of_queue (by rw [State.hold, ho, horders]; rfl), ?_, ?_⟩
  · rw [State.hold, ho, horders]
    exact popOrder_parked rest s
  · rw [State.hold, ho, horders]
    unfold OrderTaker.moved
    rw [popOrder_holding, List.append_assoc, List.singleton_append]
    exact ⟨_, rfl⟩

/-- A body that answers with a result and leaves the order taker alone: from its state on, the end of the event only
adds notices to the ledger. -/
theorem grows_of_body (h : s.Executes k e rest) (hc : exec c s = runOrder accepts body s) (ha : accepts e = true)
    (hb : body e (popOrder rest s) = (answer, x)) (hp : answer.parts = some (reason, values))
    (ho : x.orders = (popOrder rest s).orders) :
    ∃ t, exec c s = .next t ∧ Answered s t e rest reason values ∧ LedgerGrows x t := by
  have hrun := exec_of_body h hc ha hb
  rw [giveAnswer_of_parts e (answer, x) reason values hp] at hrun
  have hwait : (x.hold e reason values).orders.resetWait = none := by
    unfold State.hold
    rw [ho]
    exact (popOrder_resetWait rest s).trans h.noWait
  obtain ⟨hledger, hnotices⟩ := concludeEvent_ledgerGrows s hwait
  exact ⟨_, hrun, answered_of_orders h ho, hledger, hnotices⟩

end Body

/-- Settles O39. -/
theorem metersFlushConvertsTheRecords : Obligations.MetersFlushConvertsTheRecords := by
  intro s e rest h
  obtain ⟨_, _, _, hconvert⟩ := convertUnattributed_only (popOrder rest s)
  obtain ⟨t, ht, hanswer, hgrows⟩ := grows_of_body (c := .metersFlush) h rfl h.isKind (body := metersFlush) rfl rfl
    (by rw [hconvert])
  have hdraw : ∀ p, unattributedDraw (popOrder rest s) p = conversionDraw s p := fun p => by
    unfold unattributedDraw
    rw [popOrder_unattributed, popOrder_store]
    rfl
  have htable : ∀ {α : Type} (f : Ledger → α) (a : α), f { (convertUnattributed (popOrder rest s)).ledger with
      notices := t.writer.notices } = a → f t.ledger = a := fun f a ha => by rw [hgrows.1, ha]
  have hrouting := convertUnattributed_routes (Routing.start (t := popOrder rest s) (popOrder_cartridges rest s))
  refine ⟨t, ht, ?_, fun p => ?_, hrouting.drawRouted (fun p => ?_) (fun _ => rfl) hgrows, ?_, ?_, ?_, ?_, ?_, ?_⟩
  · simp only [hdraw, popOrder_unattributed, popOrder_store, saturatedPlanes] at hanswer
    exact hanswer
  · rw [show t.unattributed = _ from htable Ledger.unattributed _ rfl, hconvert]
    fin_cases p <;> rfl
  · rw [hdraw]
    rfl
  · refine htable Ledger.mem _ ?_
    rw [hconvert]
    exact popOrder_mem rest s
  · refine htable Ledger.sides _ ?_
    rw [hconvert]
    exact popOrder_sides rest s
  · refine htable Ledger.accounts _ ?_
    rw [hconvert]
    exact popOrder_accounts rest s
  · refine htable Ledger.store _ ?_
    rw [hconvert]
    exact popOrder_store rest s
  · refine htable Ledger.jobs _ ?_
    rw [hconvert]
    exact popOrder_jobs rest s
  · refine htable Ledger.classifier _ ?_
    rw [hconvert]
    exact popOrder_classifier rest s

end Sys2Proof.Machine
end

section

/-! PROOFS. READOUT POLICY, the orders of one user record, and the orders of the notices. -/

namespace Sys2Proof.Machine

/-! ### READOUT POLICY (R107) -/

/-- Settles O49. -/
theorem readoutPolicySetsStrictReadout : Obligations.ReadoutPolicySetsStrictReadout := by
  intro s e rest h
  refine ⟨fun hbad => refusedBy_of_accepts h rfl h.isKind (if_pos hbad), fun strict hstrict => ?_⟩
  have hone : decide (e.num 3 1 = 1) = strict := by
    rw [hstrict]
    cases strict <;> rfl
  refine done_of_body h rfl (x := { popOrder rest s with sides := { s.sides with strict } }) ?_ rfl rfl ?_
  · unfold readoutPolicy
    rw [if_neg (by rw [hstrict]; cases strict <;> decide)]
    dsimp only
    rw [hone, popOrder_sides]
    rfl
  · rw [← popOrder_ledger rest s, ← popOrder_sides rest s]
    rfl

/-! ### A user record replaced -/

section Users

variable {s : State} {e : OrderEntry} {rest : List OrderEntry} {i : Fin 64} {u : User} {id : Nat}

/-- A user id that the table holds is carried on with its slot and record (R120). -/
theorem withUser_of_id (hid : id ≠ 0) (hi : s.userWithId id = some i) (hu : s.accounts.users[i] = some u)
    (go : Fin 64 → User → OrderAnswer × State) : withUser id s go = go i u := by
  unfold withUser
  rw [if_neg hid, hi]
  dsimp only
  rw [hu]

theorem withUser_popOrder (rest : List OrderEntry) (hid : id ≠ 0) (hi : s.userWithId id = some i)
    (hu : s.accounts.users[i] = some u) (go : Fin 64 → User → OrderAnswer × State) :
    withUser id (popOrder rest s) go = go i u :=
  withUser_of_id hid ((popOrder_userWithId rest s id).trans hi) (by rw [popOrder_accounts]; exact hu) go

theorem popOrder_restoring (rest : List OrderEntry) (s : State) : (popOrder rest s).restoring = s.restoring := by
  unfold State.restoring
  rw [popOrder_accounts]

theorem restoring_of_none (h : s.accounts.restore = none) : s.restoring = false := by
  unfold State.restoring
  rw [h]
  rfl

/-- A record replaced, with the warning test (R124). -/
theorem warningTest_setUser (i : Fin 64) (u : User) (s : State) : warningTest i (setUser i (some u) s) = { s with
    accounts := { s.accounts with users := put s.accounts.users i (some u.tested) }
    writer := { s.writer with userMap := warnedMap s.writer.userMap i u.warned u.tested.warned } } := by
  rw [warningTest_of_some (r := u) (put_same _ _ _)]
  unfold setUser
  dsimp only
  rw [put_put]

/-- The WARNED flag after the warning test. -/
theorem isWarned_warningTest_setUser (i : Fin 64) (u : User) (s : State) :
    (warningTest i (setUser i (some u) s)).isWarned i = u.tested.warned := by
  rw [warningTest_setUser]
  unfold State.isWarned
  dsimp only
  rw [put_same]

/-- The ledger once a record is replaced, with the warning test. -/
theorem warningTest_setUser_ledger (i : Fin 64) (u : User) (rest : List OrderEntry) (s : State) :
    (warningTest i (setUser i (some u) (popOrder rest s))).ledger = { s.ledger with
      accounts := { s.accounts with users := put s.accounts.users i (some u.tested) }
      userMap := warnedMap s.writer.userMap i u.warned u.tested.warned } := by
  rw [warningTest_setUser, ← popOrder_ledger rest s, ← popOrder_accounts rest s, ← popOrder_writer rest s]
  rfl

theorem warningTest_setUser_orders (i : Fin 64) (u : User) (s : State) :
    (warningTest i (setUser i (some u) s)).orders = s.orders := by
  rw [warningTest_setUser]

theorem warningTest_setUser_cartridges (i : Fin 64) (u : User) (s : State) :
    (warningTest i (setUser i (some u) s)).cartridges = s.cartridges := by
  rw [warningTest_setUser]

end Users

/-! ### ACCOUNT OPEN (R125) -/

theorem floorInRange_of {floor warn : Int} (h : LimitsInRange floor warn) : floorInRange floor = true := by
  obtain ⟨hlow, hhigh, -, -⟩ := h
  simp [floorInRange, hlow, hhigh]

theorem levelInRange_of {floor warn : Int} (h : LimitsInRange floor warn) : levelInRange warn = true := by
  obtain ⟨-, -, hlow, hhigh⟩ := h
  simp [levelInRange, hlow, hhigh]

/-- A flag byte that is 0 or 1 is read as its number (R186). -/
theorem OrderEntry.flag_of_le {e : OrderEntry} {o : Nat} (h : e.num o 1 ≤ 1) : e.flag o = decide (e.num o 1 = 1) := by
  have hnum : e.num o 1 = (e.byte o).toNat := rfl
  rw [hnum] at h ⊢
  unfold OrderEntry.flag flagByte
  have hcases : e.byte o = 0#8 ∨ e.byte o = 1#8 := by bv_omega
  rcases hcases with hb | hb
  · rw [hb]
    rfl
  · rw [hb]
    rfl

/-- A number that fits is its own two's complement form. -/
theorem i32_natCast {n : Nat} (h : n < 4294967296) : i32 (n : Int) = u32 n := by
  unfold i32 u32
  rw [BitVec.ofInt_natCast, BitVec.toNat_ofNat, Nat.mod_eq_of_lt h]

theorem warnedMap_of_clear (map : BitVec 64) (i : Fin 64) (after : Bool) :
    warnedMap map i false after = if after then map ||| (1#64 <<< i.val) else map := by
  unfold warnedMap
  rw [Bool.not_false, Bool.and_true]

/-- Settles O50. -/
theorem accountOpenTakesTheLowestFreeSlot : Obligations.AccountOpenTakesTheLowestFreeSlot := by
  intro s e rest i h hid hlimits hcredit hrestore hnew hi hfirst hflag low
  have hfree : (popOrder rest s).freeUserSlot = some i := by
    unfold State.freeUserSlot
    rw [popOrder_accounts]
    exact firstIndex_eq_some (by rw [hi]; rfl) fun k hk =>
      Option.isNone_eq_false_iff.mpr (Option.ne_none_iff_isSome.mp (hfirst k hk))
  have hchecks : firstFailure (openAccountChecks e (popOrder rest s)) = none := by
    unfold openAccountChecks
    rw [popOrder_restoring, restoring_of_none hrestore, popOrder_userWithId, hnew, floorInRange_of hlimits,
      levelInRange_of hlimits, decide_eq_false hid, decide_eq_false (Nat.not_lt.mpr hcredit)]
    rfl
  have hcolour : e.flag 7 = decide (e.num 7 1 = 1) := e.flag_of_le hflag
  have hbalance : (newUser e).balance = (e.num 16 4 : Int) := Int.sub_zero _
  have hlow : (newUser e).tested.warned = low := by
    unfold User.tested User.available
    rw [hbalance]
    exact congrArg (fun n : Int => decide (n < e.int 12 4)) (Int.sub_zero _)
  have htested : (newUser e).tested = { newUser e with warned := low, colour := decide (e.num 7 1 = 1) } := by
    rw [← hlow, ← hcolour]
    rfl
  refine done_of_body h rfl (x := warningTest i (setUser i (some (newUser e)) (popOrder rest s))) ?_
    (warningTest_setUser_orders _ _ _) (warningTest_setUser_cartridges _ _ _) ?_
  · unfold accountOpen checked
    rw [hchecks, hfree]
    dsimp only
    rw [isWarned_warningTest_setUser, hlow, hbalance, i32_natCast (by omega)]
    rfl
  · rw [warningTest_setUser_ledger, hlow, htested, show (newUser e).warned = false from rfl, warnedMap_of_clear]
    rfl

theorem flagVal_decide (p : Prop) [Decidable p] : flagVal (decide p) = u8 (if p then 1 else 0) := by
  unfold flagVal
  simp only [decide_eq_true_eq]

/-! ### ACCOUNT CREDIT and ACCOUNT SET (R126, R127) -/

theorem accountCredit_eq {s : State} {e : OrderEntry} {rest : List OrderEntry} {i : Fin 64} {u : User}
    (hid : e.num 3 4 ≠ 0) (hrestore : s.accounts.restore = none) (hi : s.userWithId (e.num 3 4) = some i)
    (hu : s.accounts.users[i] = some u) :
    let w := { u with credit := u.credit + addedCredit u (e.num 7 4) }
    accountCredit e (popOrder rest s) =
      (.done [u32 u.id, u8 i.val, u32 (e.num 7 4), u32 (addedCredit u (e.num 7 4)).toNat,
        flagVal (decide (maxBalance < u.balance + e.num 7 4)), i32 w.balance, u32 w.hold, i32 w.available],
        warningTest i (setUser i (some w) (popOrder rest s))) := by
  unfold accountCredit
  rw [popOrder_restoring, restoring_of_none hrestore]
  exact withUser_popOrder rest hid hi hu _

/-- The balance after ACCOUNT CREDIT is the sum, or the largest balance (R126). -/
theorem balance_addedCredit (u : User) (n : Nat) :
    u.balance + addedCredit u n = min 2147483647 (u.balance + n) := by
  unfold addedCredit maxBalance
  split <;> omega

theorem accountSet_eq {s : State} {e : OrderEntry} {rest : List OrderEntry} {i : Fin 64} {u : User}
    (hid : e.num 3 4 ≠ 0) (hrestore : s.accounts.restore = none) (hi : s.userWithId (e.num 3 4) = some i)
    (hu : s.accounts.users[i] = some u) (hrange : accountSetInRange e = true) :
    let w := setAccount e u
    accountSet e (popOrder rest s) =
      (.done ([u32 u.id, u8 i.val] ++ settingVals u u.warned ++ settingVals w w.tested.warned),
        warningTest i (setUser i (some w) (popOrder rest s))) := by
  unfold accountSet
  rw [popOrder_restoring, restoring_of_none hrestore, hrange]
  refine (withUser_popOrder rest hid hi hu _).trans ?_
  dsimp only
  rw [isWarned_warningTest_setUser]

/-- Settles O51. -/
theorem accountCreditAndSet : Obligations.AccountCreditAndSet := by
  intro s e rest i u hid hrestore hi hu now
  constructor
  · intro h hmax balance
    have hbalance : u.credit - u.spent + addedCredit u (e.num 7 4) = balance := balance_addedCredit u _
    have hadded : addedCredit u (e.num 7 4) = balance - (u.credit - u.spent) := by omega
    have hcredit : u.credit + addedCredit u (e.num 7 4) = u.spent + balance := by omega
    have hb := accountCredit_eq (rest := rest) hid hrestore hi hu
    rw [hcredit, hadded] at hb
    have hw : User.balance { u with credit := u.spent + balance } = balance := add_sub_cancel_left _ _
    have htested : User.tested { u with credit := u.spent + balance } =
        { u with credit := u.spent + balance, warned := decide (balance - u.hold < u.warn) } := by
      unfold User.tested User.available
      rw [hw]
    dsimp only at hb
    rw [User.available, hw, flagVal_decide] at hb
    obtain ⟨t, ht, hanswer, hledger⟩ := done_of_body (c := .accountCredit) h rfl hb (warningTest_setUser_orders _ _ _)
      (warningTest_setUser_cartridges _ _ _) (warningTest_setUser_ledger _ _ _ _)
    exact ⟨t, _, ht, hanswer, hledger.trans (by rw [htested]), rfl⟩
  · intro h hlimits hflag set
    have hset : ∀ b : Int, accountSetInRange e = true → (setAccount e u).balance = b → set b := fun b hrange hbal => by
      have hcolour : e.flag 7 = decide (e.num 7 1 = 1) := e.flag_of_le hflag
      have hcredit : (setAccount e u).credit = u.spent + b := by
        rw [← hbal]
        exact (add_sub_cancel _ _).symm
      have htested : (setAccount e u).tested = { u with
          floor := e.int 8 4, warn := e.int 12 4, colour := decide (e.num 7 1 = 1), credit := u.spent + b
          warned := decide (b - u.hold < e.int 12 4) } := by
        unfold User.tested User.available
        rw [hbal, ← hcredit, ← hcolour]
        rfl
      have hflag7 : flagVal (e.flag 7) = u8 (e.num 7 1) := by
        rw [hcolour, flagVal_decide]
        congr 1
        split <;> omega
      have hb := accountSet_eq (rest := rest) hid hrestore hi hu hrange
      unfold settingVals at hb
      dsimp only at hb
      rw [hbal, show (setAccount e u).colour = e.flag 7 from rfl, hflag7] at hb
      obtain ⟨t, ht, hanswer, hledger⟩ := done_of_body (c := .accountSet) h rfl hb (warningTest_setUser_orders _ _ _)
        (warningTest_setUser_cartridges _ _ _) (warningTest_setUser_ledger _ _ _ _)
      exact ⟨t, _, ht, hanswer, hledger, htested⟩
    have hfloor := floorInRange_of hlimits
    have hwarn := levelInRange_of hlimits
    refine ⟨fun hgiven hlow => ?_, fun hnone => ?_⟩
    · have hbalance : e.givenBalance = some (e.int 17 4) := if_pos (OrderEntry.flag_of_one hgiven)
      refine hset _ ?_ ?_
      · unfold accountSetInRange
        rw [hfloor, hwarn, hbalance]
        have hhigh : e.int 17 4 ≤ 2147483647 := by
          have := BitVec.toInt_lt (x := e.bits 17 4)
          unfold OrderEntry.int
          omega
        simp [levelInRange, hlow, hhigh]
      · unfold setAccount User.balance
        rw [hbalance]
        exact add_sub_cancel_left _ _
    · have hbalance : e.givenBalance = none := if_neg (by rw [OrderEntry.flag_of_zero hnone]; exact Bool.false_ne_true)
      refine hset _ ?_ ?_
      · unfold accountSetInRange
        rw [hfloor, hwarn, hbalance]
        rfl
      · unfold setAccount User.balance
        rw [hbalance]

/-! ### ACCOUNT SUSPEND and ACCOUNT RESUME (R128) -/

section SetUserState

variable {s : State} {k : Byte} {e : OrderEntry} {rest : List OrderEntry} {c : Instr} {x : UserState}

theorem setUserState_busy (h : s.Executes k e rest) (hc : exec c s = runOrder (isKind k) (setUserState x) s)
    (hrestore : s.accounts.restore.isSome = true) : RefusedBy s c e rest .busy := by
  refine refusedBy_of_accepts h hc h.isKind ?_
  unfold setUserState
  rw [popOrder_restoring]
  exact if_pos hrestore

theorem setUserState_done (h : s.Executes k e rest) (hc : exec c s = runOrder (isKind k) (setUserState x) s)
    {i : Fin 64} {u : User} (hrestore : s.accounts.restore = none) (hid : e.num 3 4 ≠ 0)
    (hi : s.userWithId (e.num 3 4) = some i) (hu : s.accounts.users[i] = some u) :
    ∃ t, exec c s = .next t ∧ t.ledger = { s.ledger with
        accounts := { s.accounts with users := put s.accounts.users i (some { u with state := x }) } } ∧
      Answered s t e rest none [u32 u.id, u8 i.val, u8 u.state.code, u8 x.code] := by
  obtain ⟨t, ht, hanswer, hledger⟩ := done_of_body h hc
    (x := setUser i (some { u with state := x }) (popOrder rest s)) (by
      unfold setUserState
      rw [popOrder_restoring, restoring_of_none hrestore]
      exact withUser_popOrder rest hid hi hu _) rfl rfl
    (l := { s.ledger with accounts := { s.accounts with users := put s.accounts.users i (some { u with state := x }) } })
    (by rw [← popOrder_ledger rest s, ← popOrder_accounts rest s]; rfl)
  exact ⟨t, ht, hledger, hanswer⟩

end SetUserState

/-- Settles O52. -/
theorem suspendAndResumeSetTheState : Obligations.SuspendAndResumeSetTheState := by
  intro s e rest
  exact ⟨fun hrestore => ⟨fun h => setUserState_busy h rfl hrestore, fun h => setUserState_busy h rfl hrestore⟩,
    fun i u hrestore hid hi hu => ⟨fun h => setUserState_done h rfl hrestore hid hi hu,
      fun h => setUserState_done h rfl hrestore hid hi hu⟩⟩

/-! ### ACCOUNT REMOVE (R129) -/

theorem jobsOwned_pos {s : State} {i : Fin 64} : 0 < s.jobsOwned i ↔ ∃ k : Fin 16, ∃ j ∈ s.jobs[k], j.owner = i := by
  unfold State.jobsOwned
  rw [List.countP_pos_iff]
  constructor
  · rintro ⟨x, hx, hj⟩
    obtain ⟨k, hk, rfl⟩ := Vector.mem_iff_getElem.mp (Vector.mem_toList_iff.mp hx)
    refine ⟨⟨k, hk⟩, ?_⟩
    change ∃ j ∈ s.jobs[k], j.owner = i
    cases hjob : s.jobs[k] with
    | none => rw [hjob] at hj; cases hj
    | some j => rw [hjob] at hj; exact ⟨j, rfl, of_decide_eq_true hj⟩
  · rintro ⟨k, j, hj, howner⟩
    refine ⟨some j, Vector.mem_toList_iff.mpr ?_, decide_eq_true howner⟩
    exact Vector.mem_iff_getElem.mpr ⟨k.val, k.isLt, hj⟩

theorem retiredSaturates_iff (old more : Counters) :
    retiredSaturates old more = true ↔ ∃ k : Fin 8, 4294967295 < old[k] + more[k] := by
  unfold retiredSaturates addSat max32
  rw [List.any_eq_true]
  constructor
  · rintro ⟨k, -, hk⟩
    refine ⟨k, by_contra fun hle => ?_⟩
    rw [if_neg hle] at hk
    cases hk
  · rintro ⟨k, hk⟩
    exact ⟨k, List.mem_finRange k, by rw [if_pos hk]⟩

theorem retiredPlus_eq (old more : Counters) :
    retiredPlus old more = Vector.ofFn fun k => min 4294967295 (old[k] + more[k]) := by
  unfold retiredPlus addSat max32
  congr 1
  funext k
  split
  · exact (Nat.min_eq_left (Nat.le_of_lt ‹_›)).symm
  · exact (Nat.min_eq_right (Nat.le_of_not_lt ‹_›)).symm

/-- Settles O53. -/
theorem accountRemoveRetiresTheCounters : Obligations.AccountRemoveRetiresTheCounters := by
  intro s e rest i u h hrestore hid hi hu
  have howned : (popOrder rest s).jobsOwned i = s.jobsOwned i := by
    unfold State.jobsOwned
    rw [popOrder_jobs]
  have hbody : accountRemove e (popOrder rest s) =
      if 0 < s.jobsOwned i ∨ u.hold ≠ 0 then (.refused .busy (userNames i u.id), popOrder rest s)
      else (.done ([u8 i.val, u32 u.id, u8 u.state.code, flagVal u.colour, i32 u.balance, i32 u.floor, i32 u.warn] ++
          counterVals u.counters), removeUser i u (popOrder rest s)) := by
    unfold accountRemove
    rw [popOrder_restoring, restoring_of_none hrestore]
    refine (withUser_popOrder rest hid hi hu _).trans ?_
    rw [howned]
  refine ⟨fun hbusy => ?_, fun hjobs hhold => ?_⟩
  · refine refused_of_body (c := .accountRemove) h rfl (hbody.trans (if_pos ?_))
    exact hbusy.imp jobsOwned_pos.mpr id
  · have hfree : ¬(0 < s.jobsOwned i ∨ u.hold ≠ 0) := by
      rw [jobsOwned_pos]
      rintro (⟨k, j, hj, howner⟩ | hne)
      · exact hjobs k j hj howner
      · exact hne hhold
    rw [if_neg hfree] at hbody
    refine done_of_body (c := .accountRemove) h rfl hbody ?_ ?_ ?_
    · unfold removeUser State.raiseIf
      split <;> rfl
    · unfold removeUser State.raiseIf
      split <;> rfl
    · rw [← retiredPlus_eq, ← popOrder_ledger rest s, ← popOrder_accounts rest s, ← popOrder_writer rest s]
      unfold removeUser State.raiseIf
      by_cases hsat : ∃ k : Fin 8, 4294967295 < (popOrder rest s).accounts.retired[k] + u.counters[k]
      · rw [if_pos hsat, if_pos ((retiredSaturates_iff _ _).mpr hsat)]
        rfl
      · rw [if_neg hsat, if_neg (mt (retiredSaturates_iff _ _).mp hsat)]
        rfl

/-! ### NOTICES ACK and NOTICES ENABLE (R172, R173, R184) -/

/-- Attention is what the writer calls for at the end of the event (R184). -/
theorem concludeEvent_attention (b s : State) :
    (concludeEvent b s).writer.attention = (concludeEvent b s).writer.wantsAttention := by
  have hlast (s : State) : (evaluateAttention s).writer.attention = (evaluateAttention s).writer.wantsAttention := rfl
  unfold concludeEvent
  exact hlast _

/-- What attention looks at stands in the ledger. -/
theorem wantsAttention_of_ledger {s t : State} (h : s.ledger = t.ledger) :
    s.writer.wantsAttention = t.writer.wantsAttention := by
  unfold ReturnWriter.wantsAttention ReturnWriter.noticeBits ReturnWriter.unread
  rw [show s.writer.notices = t.writer.notices from congrArg Ledger.notices h,
    show s.writer.userMap = t.writer.userMap from congrArg Ledger.userMap h,
    show s.writer.enables = t.writer.enables from congrArg Ledger.enables h,
    show s.writer.writeIndex = t.writer.writeIndex from congrArg Ledger.writeIndex h,
    show s.writer.readIndex = t.writer.readIndex from congrArg Ledger.readIndex h]

/-- An order that changes the writer alone: result, ledger and attention. -/
theorem writer_of_body {s : State} {k : Byte} {e : OrderEntry} {rest : List OrderEntry} {c : Instr} {w : ReturnWriter}
    {values : List Val} {body : OrderEntry → State → OrderAnswer × State} (h : s.Executes k e rest)
    (hc : exec c s = runOrder (isKind k) body s)
    (hb : body e (popOrder rest s) = (.done values, { popOrder rest s with writer := w })) :
    ∃ t, exec c s = .next t ∧ Answered s t e rest none values ∧ t.ledger = { s with writer := w }.ledger ∧
      t.writer.attention = w.wantsAttention := by
  obtain ⟨t, ht, hanswer, hledger⟩ := done_of_body h hc hb rfl rfl (l := { s with writer := w }.ledger) (by
    change ({ (popOrder rest s).ledger with
      notices := w.notices, userMap := w.userMap, enables := w.enables, writeIndex := w.writeIndex
      readIndex := w.readIndex, epoch := w.epoch } : Ledger) = _
    rw [popOrder_ledger]
    rfl)
  refine ⟨t, ht, hanswer, hledger, ?_⟩
  have hrun := exec_of_done h hc h.isKind hb
  obtain rfl := Host.Outcome.next.inj (ht.symm.trans hrun)
  rw [concludeEvent_attention, wantsAttention_of_ledger hledger]

/-- Settles O58. -/
theorem noticeOrdersClearAndEnable : Obligations.NoticeOrdersClearAndEnable := by
  intro s e rest all bits map
  refine ⟨fun h => ⟨fun hbad => refusedBy_of_accepts h rfl h.isKind (if_pos hbad), fun hgood => ?_⟩,
    fun h => ⟨fun hbad => refusedBy_of_accepts h rfl h.isKind (if_pos hbad), fun hgood => ?_⟩⟩
  · refine writer_of_body (c := .noticesAck) (w := clearNotices (e.bits 3 4) (e.bits 7 8) s.writer) h rfl ?_
    refine (if_neg (not_not.mpr hgood)).trans ?_
    rw [popOrder_writer]
    rfl
  · refine writer_of_body (c := .noticesEnable) (w := { s.writer with enables := e.bits 3 4 }) h rfl ?_
    refine (if_neg (not_not.mpr hgood)).trans ?_
    rw [popOrder_writer]

end Sys2Proof.Machine
end

section

/-! PROOFS. ACCOUNTS EXPORT and the restore orders (R134 to R139). -/

namespace Sys2Proof.Machine

/-! ### The tag of a content -/

section Tags

variable (key : BitVec 256) {tagged : List Snapshot} {c : Snapshot} {tag : BitVec 256}

/-- A content has one issued tag. -/
theorem snapshotTagOf_of_issued (h : (tag, c) ∈ issuedTags key tagged) : snapshotTagOf key tagged c = tag := by
  have hc : c ∈ tagged := (mem_issuedTags key tagged c).mp (List.mem_map_of_mem h)
  exact congrArg Prod.fst (List.inj_on_of_nodup_map (issuedTags_contents_nodup key tagged) (snapshotTagOf_mem key hc) h rfl)

/-- What the tag function gives a tagged content is in use. -/
theorem snapshotTag_issued (h : c ∈ tagged) : snapshotTag key c ∈ (issuedTags key tagged).map Prod.fst := by
  induction tagged with
  | nil => cases h
  | cons d earlier ih =>
    rw [issuedTags]
    split
    case isTrue hd =>
      rcases List.mem_cons.mp h with rfl | h
      · exact ih hd
      · exact ih h
    case isFalse hd =>
      rw [List.map_cons, List.mem_cons]
      rcases List.mem_cons.mp h with rfl | h
      · by_cases hused : snapshotTag key c ∈ (issuedTags key earlier).map Prod.fst
        · exact .inr hused
        · exact .inl (freeTag_of_notMem hused).symm
      · exact .inr (ih h)

/-- A content's tag is what the tag function gives it, unless another content has that tag (R134). -/
theorem snapshotTagOf_eq (h : ∀ d ∈ tagged, d ≠ c → snapshotTagOf key tagged d ≠ snapshotTag key c) :
    snapshotTagOf key tagged c = snapshotTag key c := by
  by_cases hused : snapshotTag key c ∈ (issuedTags key tagged).map Prod.fst
  · obtain ⟨⟨tag, d⟩, hd, htag⟩ := List.mem_map.mp hused
    have hof := (snapshotTagOf_of_issued key hd).trans htag
    have hmem : d ∈ tagged := (mem_issuedTags key tagged d).mp (List.mem_map_of_mem hd)
    have hsame : d = c := by_contra fun hne => h d hmem hne hof
    rwa [hsame] at hof
  · have hnew : c ∉ tagged := fun hc => hused (snapshotTag_issued key hc)
    have hnone : (issuedTags key tagged).find? (fun x => decide (x.2 = c)) = none := by
      refine List.find?_eq_none.mpr fun x hx => ?_
      rw [decide_eq_true_eq]
      rintro rfl
      exact hnew ((mem_issuedTags key tagged x.2).mp (List.mem_map_of_mem hx))
    unfold snapshotTagOf
    rw [hnone]
    exact freeTag_of_notMem hused

theorem addTagged_length_le (tagged : List Snapshot) (c : Snapshot) : (addTagged tagged c).length ≤ tagged.length + 1 := by
  unfold addTagged
  split
  · exact Nat.le_succ _
  · exact Nat.le_refl _

theorem mem_addTagged_of_mem {d : Snapshot} (h : d ∈ tagged) : d ∈ addTagged tagged c := by
  unfold addTagged
  split
  · exact h
  · exact List.mem_cons_of_mem _ h

end Tags

/-! ### ACCOUNTS EXPORT (R134) -/

theorem accountsExport_parks {s : State} {e : OrderEntry} {rest : List OrderEntry} (h : s.Executes 0x48#8 e rest)
    (hsides : s.sides.records = []) (hbusy : s.accountsBusy = false)
    (hroom : s.orders.parked.length + s.orders.completed.length < 8) :
    ∃ t, exec .accountsExport s = .next t ∧
      Parked s t e rest (.snapshot (takeSnapshot s)
        (snapshotTagOf s.fuses.deviceKey s.accounts.tagged (takeSnapshot s)) 0) ∧
      t.ledger = { s.ledger with
        accounts := { s.accounts with tagged := addTagged s.accounts.tagged (takeSnapshot s) } } := by
  have hcopy : takeSnapshot (popOrder rest s) = takeSnapshot s := by
    unfold takeSnapshot
    rw [popOrder_accounts, popOrder_cartridges]
  have hfull : s.parkedFull = false := decide_eq_false (Nat.not_le.mpr hroom)
  have hb : accountsExport e (popOrder rest s) = (.parked, (tagContent (takeSnapshot s) (popOrder rest s)).park e
      (.snapshot (takeSnapshot s) (snapshotTagOf s.fuses.deviceKey s.accounts.tagged (takeSnapshot s)) 0)) := by
    unfold accountsExport
    rw [popOrder_sides, hsides, popOrder_accountsBusy, hbusy, popOrder_parkedFull, hfull, hcopy, popOrder_accounts,
      popOrder_fuses]
    rfl
  obtain ⟨t, ht, hparked, hledger, -⟩ := parked_of_body (c := .accountsExport) h rfl h.isKind hb rfl rfl (l := { s.ledger with
      accounts := { s.accounts with tagged := addTagged s.accounts.tagged (takeSnapshot s) } })
    (by rw [← popOrder_ledger rest s, ← popOrder_accounts rest s]; rfl)
  exact ⟨t, ht, hparked, hledger⟩

/-! ### The restore buffer (R136, R137, R139) -/

section Restore

variable {s : State} {k : Byte} {e : OrderEntry} {rest : List OrderEntry} {c : Instr} {b : RestoreBuffer}

theorem setRestore_popOrder_ledger (b : Option RestoreBuffer) (rest : List OrderEntry) (s : State) :
    (setRestore b (popOrder rest s)).ledger = { s.ledger with accounts := { s.accounts with restore := b } } := by
  rw [← popOrder_ledger rest s, ← popOrder_accounts rest s]
  rfl

/-- An order that answers DONE and replaces the restore buffer. -/
theorem restored_of_body {body : OrderEntry → State → OrderAnswer × State} (h : s.Executes k e rest)
    (hc : exec c s = runOrder (isKind k) body s) {x : Option RestoreBuffer} {values : List Val}
    (hb : body e (popOrder rest s) = (.done values, setRestore x (popOrder rest s))) :
    ∃ t, exec c s = .next t ∧ Answered s t e rest none values ∧
      t.ledger = { s.ledger with accounts := { s.accounts with restore := x } } :=
  done_of_body h hc hb rfl rfl (setRestore_popOrder_ledger x rest s)

theorem userInOrder_of {u : UserCopy} (hretired : b.retired = none) (hparts : b.parts = [])
    (hslots : ∀ x ∈ b.users, x.slot < u.slot) : userInOrder b u = true := by
  unfold userInOrder
  rw [hretired, hparts]
  cases hlast : b.users.getLast? with
  | none => rfl
  | some last => exact decide_eq_true (hslots last (List.mem_of_getLast? hlast))

theorem UserCopy.inRange_of {u : UserCopy} (hid : u.id ≠ 0) (hlimits : LimitsInRange u.floor u.warn)
    (hspent : u.spent ≤ 2 ^ 62) (hlow : -2147483648 ≤ u.credit - u.spent) (hhigh : u.credit - u.spent ≤ 2147483647) :
    u.inRange = true := by
  obtain ⟨hfloor, hfloor', hwarn, hwarn'⟩ := hlimits
  unfold UserCopy.inRange
  rw [decide_eq_true hid, decide_eq_true hfloor, decide_eq_true hfloor', decide_eq_true hwarn, decide_eq_true hwarn',
    decide_eq_true hspent, decide_eq_true hlow, decide_eq_true hhigh]
  rfl

end Restore

/-- Settles O54. -/
theorem exportCopiesAndRestoreBuffers : Obligations.ExportCopiesAndRestoreBuffers := by
  intro s e rest
  refine ⟨fun h hsides hbusy hroom hlength => ?_, fun h hbusy hjobs hsides => ?_, fun hnone => ?_, fun b hsome => ?_⟩
  · obtain ⟨t, ht, hparked, hledger⟩ := accountsExport_parks h hsides hbusy hroom
    have htagged : t.accounts.tagged = addTagged s.accounts.tagged (takeSnapshot s) :=
      congrArg (fun l : Ledger => l.accounts.tagged) hledger
    have hlength' : (addTagged s.accounts.tagged (takeSnapshot s)).length ≤ 2 ^ 256 :=
      (addTagged_length_le _ _).trans (Nat.succ_le_of_lt hlength)
    refine ⟨t, _, ht, hparked, by rw [htagged]; exact hledger, fun c => ?_, fun earlier hearlier c => ?_, fun hfree => ?_⟩
    · dsimp only
      rw [htagged, ← snapshotTagOf_addTagged]
      exact snapshotTagChecks_iff _ (mem_addTagged _ _) hlength'
    · dsimp only
      rw [htagged, ← snapshotTagOf_earlier _ (takeSnapshot s) hearlier]
      exact snapshotTagChecks_iff _ (mem_addTagged_of_mem hearlier) hlength'
    · exact snapshotTagOf_eq _ hfree
  · refine restored_of_body (c := .restoreBegin) h rfl ?_
    have hnojob : s.jobs.toList.any Option.isSome = false := by
      refine List.any_eq_false.mpr fun x hx => ?_
      obtain ⟨i, hi, rfl⟩ := Vector.mem_iff_getElem.mp (Vector.mem_toList_iff.mp hx)
      rw [show s.jobs[i] = none from hjobs ⟨i, hi⟩]
      exact Bool.false_ne_true
    unfold restoreBegin
    rw [popOrder_accountsBusy, hbusy, popOrder_jobs, hnojob, popOrder_sides, hsides]
    rfl
  · have hnone' : (popOrder rest s).accounts.restore = none := by rw [popOrder_accounts, hnone]
    refine ⟨fun h => refusedBy_of_accepts h rfl h.isKind ?_, fun h => refusedBy_of_accepts h rfl h.isKind ?_,
      fun h => refusedBy_of_accepts h rfl h.isKind ?_, fun h => refusedBy_of_accepts h rfl h.isKind ?_,
      fun h => refusedBy_of_accepts h rfl h.isKind ?_⟩
    · unfold restoreUser
      rw [hnone']
    · unfold restoreRetired
      rw [hnone']
    · unfold restoreMeters
      rw [hnone']
    · unfold restoreEnd
      rw [hnone']
    · unfold restoreAbandon
      rw [hnone']
  · have hsome' : (popOrder rest s).accounts.restore = some b := by rw [popOrder_accounts, hsome]
    intro joined u
    refine ⟨fun h hid hlimits hspent hlow hhigh hretired hparts husers => ?_, fun h hretired hparts => ?_,
      fun h hretired hplace hpart => ?_, fun h => ?_⟩
    · refine restored_of_body (c := .restoreAccountUser) h rfl ?_
      have hrange : e.userCopy.inRange = true := UserCopy.inRange_of hid hlimits hspent hlow hhigh
      have horder : userInOrder b e.userCopy = true := userInOrder_of hretired hparts fun x hx => (husers x hx).1
      have hnew : (b.users.any fun x => decide (x.id = e.userCopy.id)) = false :=
        List.any_eq_false.mpr fun x hx => by rw [decide_eq_true_eq]; exact (husers x hx).2
      unfold restoreUser checked RestoreBuffer.countVal RestoreBuffer.recordCount
      rw [hsome']
      dsimp only
      rw [hrange, horder, hnew, hretired, hparts, List.length_append]
      rfl
    · refine restored_of_body (c := .restoreAccountRetired) h rfl ?_
      unfold restoreRetired checked RestoreBuffer.countVal RestoreBuffer.recordCount
      rw [hsome']
      dsimp only
      rw [hretired, hparts]
      rfl
    · refine restored_of_body (c := .restoreMeters) h rfl ?_
      have hcount : (if 5 ≤ (b.parts ++ [e.metersPart]).length then 1 else 0) = if e.num 3 1 = 4 then 1 else 0 := by
        rw [List.length_append, List.length_singleton]
        exact if_congr (by omega) rfl rfl
      unfold restoreMeters checked RestoreBuffer.countVal RestoreBuffer.recordCount
      rw [hsome']
      dsimp only
      rw [hcount, hretired, Option.isNone_eq_false_iff.mpr hretired, decide_eq_false (Nat.not_lt.mpr hpart),
        decide_eq_false (not_not.mpr hplace)]
      rfl
    · refine restored_of_body (c := .restoreAbandon) h rfl ?_
      unfold restoreAbandon RestoreBuffer.discarded
      rw [hsome']
      dsimp only
      simp only [List.isEmpty_iff]

/-! ### RESTORE END (R138) -/

/-- A run of warning tests leaves every tested record with the warning that its balance calls for, and nothing else
changes but the user map (R124). -/
theorem foldl_warningTest (l : List (Fin 64)) (s : State) : ∃ users userMap,
    l.foldl (fun s i => warningTest i s) s =
      { s with accounts := { s.accounts with users }, writer := { s.writer with userMap } } ∧
    ∀ i : Fin 64, users[i] = if i ∈ l then s.accounts.users[i].map User.tested else s.accounts.users[i] := by
  induction l generalizing s with
  | nil => exact ⟨_, _, rfl, fun i => (if_neg List.not_mem_nil).symm⟩
  | cons k l ih =>
    obtain ⟨users, userMap, hrun, husers⟩ := ih (warningTest k s)
    rw [List.foldl_cons, hrun]
    cases hk : s.accounts.users[k] with
    | none =>
      rw [warningTest_of_none hk] at husers ⊢
      refine ⟨users, userMap, rfl, fun i => (husers i).trans ?_⟩
      by_cases hi : i = k
      · subst hi
        rw [hk, Option.map_none, ite_self, ite_self]
      · simp only [List.mem_cons, hi, false_or]
    | some u =>
      rw [warningTest_of_some hk] at husers ⊢
      refine ⟨users, userMap, rfl, fun i => (husers i).trans ?_⟩
      dsimp only
      by_cases hi : i = k
      · subst hi
        rw [put_same, if_pos List.mem_cons_self, hk]
        split <;> rfl
      · rw [put_other _ _ _ _ (Ne.symm hi)]
        simp only [List.mem_cons, hi, false_or]

theorem restoredUsers_foldl_other {us : List UserCopy} {i : Fin 64} (v : Vector (Option User) 64)
    (hi : ∀ u ∈ us, u.slot ≠ i) : (us.foldl (fun v u => put v u.slot (some (restoredUser u))) v)[i] = v[i] := by
  induction us generalizing v with
  | nil => rfl
  | cons u us ih =>
    obtain ⟨hu, hrest⟩ := List.forall_mem_cons.mp hi
    rw [List.foldl_cons, ih _ hrest, put_other _ _ _ _ hu]

theorem restoredUsers_foldl {us : List UserCopy} {u : UserCopy} (v : Vector (Option User) 64) (hu : u ∈ us)
    (hslots : (us.map UserCopy.slot).Nodup) :
    (us.foldl (fun v u => put v u.slot (some (restoredUser u))) v)[u.slot] = some (restoredUser u) := by
  induction us generalizing v with
  | nil => cases hu
  | cons x us ih =>
    rw [List.map_cons, List.nodup_cons] at hslots
    obtain ⟨hx, hslots⟩ := hslots
    rw [List.foldl_cons]
    rcases List.mem_cons.mp hu with rfl | hu
    · rw [restoredUsers_foldl_other _ fun y hy he => hx (List.mem_map.mpr ⟨y, hy, he⟩), put_same]
    · exact ih _ hu hslots

theorem installSnapshot_eq (c : Snapshot) (s : State) : ∃ users userMap,
    installSnapshot c s = { s with
      accounts := { s.accounts with users, retired := c.retired, meters := c.meters, restore := none }
      cartridges := { s.cartridges with totals := restoredTotals s.cartridges c.totals }
      writer := { s.writer with userMap } } ∧
    ∀ i : Fin 64, users[i] = (restoredUsers c.users)[i].map User.tested := by
  unfold installSnapshot
  obtain ⟨users, userMap, hrun, husers⟩ := foldl_warningTest (List.finRange 64) _
  refine ⟨users, userMap, hrun, fun i => ?_⟩
  rw [husers, if_pos (List.mem_finRange i)]

/-- The draw totals that a restore installs balance (R138 step 4, R157). -/
theorem restoredTotals_balance (c : Cartridges) (totals : Vector DrawTotals 4) (p : Plane) :
    (restoredTotals c totals)[p].drawn = (restoredTotals c totals)[p].confirmed + BitVec.ofNat 64 (c.owed p) +
      (restoredTotals c totals)[p].unproven + (restoredTotals c totals)[p].lost := by
  unfold restoredTotals
  rw [Fin.getElem_fin, Vector.getElem_ofFn]
  dsimp only
  ac_rfl

/-- The owed draw that the part holds stands in the ledger. -/
theorem owed_of_ledger {s t : State} (h : s.ledger.slots = t.ledger.slots) (ha : s.cartridges.absent = t.cartridges.absent)
    (p : Plane) : s.cartridges.owed p = t.cartridges.owed p := by
  have hv : s.cartridges.slots.map CartridgeSlot.standing = t.cartridges.slots.map CartridgeSlot.standing := h
  have hp : (s.cartridges.slots.map CartridgeSlot.standing)[p].owed =
      (t.cartridges.slots.map CartridgeSlot.standing)[p].owed := by rw [hv]
  rw [Fin.getElem_fin, Fin.getElem_fin, Vector.getElem_map, Vector.getElem_map] at hp
  unfold Cartridges.owed
  rw [ha, show s.cartridges.slots[p].owed = t.cartridges.slots[p].owed from hp]

/-- Settles O55. -/
theorem restoreEndInstallsOnlyUnderItsTag : Obligations.RestoreEndInstallsOnlyUnderItsTag := by
  intro s e rest b c h hb hc key checks
  have hbody : restoreEnd e (popOrder rest s) = if checks then
      (.done [u8 c.users.length], installSnapshot c (tagContent c (popOrder rest s)))
      else (.refused .badTag [], setRestore none (popOrder rest s)) := by
    unfold restoreEnd
    rw [popOrder_accounts, hb, popOrder_fuses]
    dsimp only
    rw [hc]
  refine ⟨fun exported hexported hlength htag => ?_, fun hunknown => ?_, fun hbad => ?_, fun hgood => ?_⟩
  · unfold checks
    rw [htag]
    exact snapshotTagChecks_iff key hexported hlength
  · refine snapshotTagChecks_unknown key fun hissued => ?_
    obtain ⟨⟨tag, d⟩, hd, htag⟩ := List.mem_map.mp hissued
    refine hunknown d ((mem_issuedTags key _ d).mp (List.mem_map_of_mem hd)) ?_
    rw [snapshotTagOf_of_issued key hd]
    exact htag.symm
  · rw [hbad] at hbody
    exact answered_of_body (c := .restoreEnd) h rfl hbody rfl rfl rfl (setRestore_popOrder_ledger none rest s)
  · rw [hgood] at hbody
    obtain ⟨users, userMap, hinstall, husers⟩ := installSnapshot_eq c (tagContent c (popOrder rest s))
    obtain ⟨t, ht, hanswer, hgrows⟩ := grows_of_body (c := .restoreEnd) h rfl h.isKind hbody rfl (by
      rw [hinstall]
      rfl)
    have htable : ∀ {α : Type} (f : Ledger → α) (a : α), f { (installSnapshot c (tagContent c (popOrder rest s))).ledger with
        notices := t.writer.notices } = a → f t.ledger = a := fun f a ha => by rw [hgrows.1, ha]
    rw [hinstall] at htable
    have haccounts : t.accounts = { s.accounts with
        users, retired := c.retired, meters := c.meters, restore := none, tagged := addTagged s.accounts.tagged c } := by
      refine htable Ledger.accounts _ ?_
      rw [← popOrder_accounts rest s]
      rfl
    have htotals : t.cartridges.totals = restoredTotals s.cartridges c.totals := by
      refine htable Ledger.totals _ ?_
      rw [← popOrder_cartridges rest s]
      rfl
    have habsent : t.cartridges.absent = s.cartridges.absent := by
      refine htable Ledger.absent _ ?_
      exact congrArg Cartridges.absent (popOrder_cartridges rest s)
    have hslots : t.ledger.slots = s.ledger.slots := by
      refine htable Ledger.slots _ ?_
      change (popOrder rest s).cartridges.slots.map CartridgeSlot.standing = _
      rw [popOrder_cartridges]
      rfl
    refine ⟨t, ht, hanswer, fun d => ?_, by rw [haccounts], by rw [haccounts], by rw [haccounts], fun u hu hnodup => ?_,
      fun i hi => ?_, fun p => ?_, fun p => ?_, habsent, ?_, ?_, ?_, ?_⟩
    · rw [haccounts]
      exact snapshotTagChecks_addTagged key hgood d
    · rw [haccounts]
      dsimp only
      rw [husers, restoredUsers, restoredUsers_foldl _ hu hnodup]
      unfold User.tested User.available User.balance restoredUser
      simp
    · rw [haccounts]
      dsimp only
      rw [husers, restoredUsers, restoredUsers_foldl_other _ hi, Fin.getElem_fin, Vector.getElem_replicate]
      rfl
    · rw [htotals, owed_of_ledger hslots habsent]
      exact restoredTotals_balance _ _ p
    · rw [htotals, restoredTotals, Fin.getElem_fin, Vector.getElem_ofFn]
      exact ⟨rfl, rfl, rfl⟩
    · exact htable Ledger.mem _ (popOrder_mem rest s)
    · exact htable Ledger.sides _ (popOrder_sides rest s)
    · exact htable Ledger.jobs _ (popOrder_jobs rest s)
    · exact htable Ledger.store _ (popOrder_store rest s)

end Sys2Proof.Machine
end

section

/-! PROOFS. CARTRIDGE PROBE, TONER POLICY and the notices of the toner (R158, R160, R162). -/

namespace Sys2Proof.Machine

variable {s t b : State} {p q : Plane}

/-! ### The cartridges at the end of an event -/

/-- The test of a slot's estimate finds the toner low (R158). -/
def lowTest (b s : State) (p : Plane) : Bool :=
  match s.cartridges.slots[p].estimate with
  | none => false
  | some e =>
    decide (e < s.cartridges.policy.lowMark) &&
        !(b.cartridges.slots[p].estimate.any fun o => decide (o < b.cartridges.policy.lowMark)) ||
      newlyProven b p s && s.cartridges.slots[p].remaining.any fun n => decide (n < s.cartridges.policy.lowMark)

/-- The test of a slot's estimate finds the toner out (R158). -/
def outTest (b s : State) (p : Plane) : Bool :=
  match s.cartridges.slots[p].estimate with
  | none => false
  | some e => decide (e = 0) && !(b.cartridges.slots[p].estimate.any fun o => decide (o = 0))

theorem testEstimate_eq (b : State) (p : Plane) (s : State) : testEstimate b p s =
    (s.raiseIf (lowTest b s p) (.tonerLow p)).raiseIf (outTest b s p) (.tonerOut p) := by
  unfold testEstimate lowTest outTest
  cases s.cartridges.slots[p].estimate with
  | none => rfl
  | some e => cases b.cartridges.slots[p].estimate <;> rfl

theorem raiseIf_cartridges (s : State) (c : Bool) (n : Notice) : (s.raiseIf c n).cartridges = s.cartridges := by
  cases c <;> rfl

theorem testEstimate_cartridges (b : State) (p : Plane) (s : State) : (testEstimate b p s).cartridges = s.cartridges := by
  rw [testEstimate_eq, raiseIf_cartridges, raiseIf_cartridges]

theorem testEstimates_cartridges (b s : State) : (testEstimates b s).cartridges = s.cartridges := by
  unfold testEstimates allPlanes
  simp only [List.foldl_cons, List.foldl_nil, testEstimate_cartridges]

theorem issueHeader_cartridges (b s : State) : (issueHeader b s).cartridges = s.cartridges := (issueHeader_kept b s).cartridges

theorem issueSummary_cartridges (b s : State) : (issueSummary b s).cartridges = s.cartridges :=
  (issueSummary_kept b s).cartridges

/-- Outside a reset wait, the end of an event gives a free cartridge line to the next work in turn (R147). -/
theorem concludeEvent_cartridges (b : State) (h : s.orders.resetWait = none) :
    (concludeEvent b s).cartridges = (arbitrate (testEstimates b s)).cartridges := by
  have hlast (s : State) : (evaluateAttention s).cartridges = s.cartridges := rfl
  have hmove (s : State) : (moveCompleted s).cartridges = s.cartridges := rfl
  unfold concludeEvent
  rw [noteDrain_of_no_wait s h, tryReset_of_no_wait s h, hlast, issueSummary_cartridges, issueHeader_cartridges,
    issueReturn_cartridges, hmove]

theorem arbitrate_of_taken (h : s.cartridges.line.isSome = true) : arbitrate s = s := if_pos h

/-- While the line is taken, the end of an event leaves the cartridges alone. -/
theorem concludeEvent_cartridges_taken (b : State) (h : s.orders.resetWait = none)
    (hline : s.cartridges.line.isSome = true) : (concludeEvent b s).cartridges = s.cartridges := by
  rw [concludeEvent_cartridges b h, arbitrate_of_taken (by rw [testEstimates_cartridges]; exact hline),
    testEstimates_cartridges]

theorem hold_resetWait (e : OrderEntry) (reason : Option Reason) (values : List Val) (s : State) :
    (s.hold e reason values).orders.resetWait = s.orders.resetWait := rfl

/-! ### An order that parks -/

section Parks

variable {e : OrderEntry} {rest : List OrderEntry} {x : State} {o : ParkObject}

/-- The order is parked at the end of the event of a body that parks it. -/
theorem parked_of_orders (b : State) (hwait : s.orders.resetWait = none)
    (ho : x.orders = ((popOrder rest s).park e o).orders) : Parked s (concludeEvent b x) e rest o := by
  have horders : (concludeEvent b x).orders = ((popOrder rest s).park e o).orders.moved := by
    rw [concludeEvent_orders b x (by rw [ho]; exact (popOrder_resetWait rest s).trans hwait), moveCompleted_orders, ho]
  refine ⟨leavesQueue_of_queue (by rw [horders]; rfl), ?_⟩
  rw [horders]
  exact congrArg (· ++ _) (popOrder_parked rest s)

end Parks

/-! ### CARTRIDGE PROBE (R160) -/

theorem requestProbe_ledger (p : Plane) (s : State) : (requestProbe p s).ledger = s.ledger := by
  unfold requestProbe
  dsimp only
  split
  · exact onSlot_ledger s p _ rfl
  · rfl

theorem requestProbe_orders (p : Plane) (s : State) : (requestProbe p s).orders = s.orders := by
  unfold requestProbe
  dsimp only
  split <;> rfl

/-- A request for a probe of a seated slot that is not REJECTED makes it due unless the proof is under way (R146). -/
theorem requestProbe_of_seated (hseated : s.cartridges.slots[p].seated = true)
    (hverdict : s.cartridges.slots[p].verdict ≠ .rejected) : (requestProbe p s).cartridges = { s.cartridges with
      slots := put s.cartridges.slots p { s.cartridges.slots[p] with
        probePending := s.cartridges.slots[p].probePending ||
          decide (s.cartridges.slots[p].exchange = .idle ∨ s.cartridges.slots[p].exchange = .debit) } } := by
  unfold requestProbe
  dsimp only
  by_cases hidle : s.cartridges.slots[p].exchange = .idle ∨ s.cartridges.slots[p].exchange = .debit
  · rw [if_pos ⟨hseated, hverdict, hidle⟩, decide_eq_true hidle, Bool.or_true]
    rfl
  · rw [if_neg fun h => hidle h.2.2, decide_eq_false hidle, Bool.or_false, put_self]

/-- Settles O56. -/
theorem cartridgeProbeParks : Obligations.CartridgeProbeParks := by
  intro s e rest p h hp c
  have hbody : cartridgeProbe e (popOrder rest s) = checked [(.noCartridge, !c.seated),
      (.slotState, decide (c.verdict = .rejected)), (.busy, s.hasParked (ParkObject.isCartridge p)), (.busy, s.parkedFull)]
      (popOrder rest s) (.parked, parkProbe e p (popOrder rest s)) := by
    unfold cartridgeProbe
    rw [hp, indexOf_val]
    dsimp only
    rw [popOrder_cartridges, popOrder_hasParked, popOrder_parkedFull]
  refine ⟨fun hempty => refusedBy_of_accepts h rfl h.isKind (hbody.trans ?_), fun hseated hrejected =>
    refusedBy_of_accepts h rfl h.isKind (hbody.trans ?_), fun hseated hverdict hnone hroom => ?_⟩
  · rw [hempty]
    rfl
  · rw [hseated, decide_eq_true hrejected]
    rfl
  · have hparked : s.hasParked (ParkObject.isCartridge p) = false := by
      refine List.any_eq_false.mpr fun q hq => ?_
      cases hobject : q.object with
      | cartridge k =>
        refine fun hk => hnone q hq ?_
        rw [hobject, of_decide_eq_true hk]
      | _ => exact Bool.false_ne_true
    have hfull : s.parkedFull = false := decide_eq_false (Nat.not_le.mpr hroom)
    rw [hseated, decide_eq_false hverdict, hparked, hfull] at hbody
    have hrun := exec_of_parked (c := .cartridgeProbe) h rfl h.isKind hbody
    have horders : (parkProbe e p (popOrder rest s)).orders = ((popOrder rest s).park e (.cartridge p)).orders :=
      requestProbe_orders _ _
    have hwait : (parkProbe e p (popOrder rest s)).orders.resetWait = none := by
      rw [horders]
      exact (popOrder_resetWait rest s).trans h.noWait
    have hledger : (parkProbe e p (popOrder rest s)).ledger = s.ledger :=
      (requestProbe_ledger _ _).trans (popOrder_ledger rest s)
    have hcart : (parkProbe e p (popOrder rest s)).cartridges = _ :=
      requestProbe_of_seated (s := (popOrder rest s).park e (.cartridge p))
        (by rw [show ((popOrder rest s).park e (.cartridge p)).cartridges = _ from popOrder_cartridges rest s]; exact hseated)
        (by rw [show ((popOrder rest s).park e (.cartridge p)).cartridges = _ from popOrder_cartridges rest s]; exact hverdict)
    rw [show ((popOrder rest s).park e (.cartridge p)).cartridges = _ from popOrder_cartridges rest s] at hcart
    refine ⟨_, hrun, parked_of_orders s h.noWait horders, ?_, fun hline => ?_⟩
    · rw [concludeEvent_ledger_same s _ hwait (fun p => (serial_of_ledger hledger p).symm)
        (fun p => (estimate_of_ledger hledger p).symm) (by rw [hcart])]
      exact hledger
    · rw [concludeEvent_cartridges_taken s hwait (by rw [hcart]; exact hline)]
      exact hcart

/-! ### The notices of the toner (R158) -/

theorem Notice.bit_lt (n : Notice) : n.bit < 32 := by
  cases n <;> simp only [Notice.bit] <;> omega

theorem raise_bits (s : State) (n : Notice) (i : Nat) :
    (s.raise n).writer.notices.getLsbD i = (s.writer.notices.getLsbD i || decide (i = n.bit)) := by
  have hlt := n.bit_lt
  unfold State.raise
  rw [BitVec.getLsbD_or, BitVec.getLsbD_shiftLeft, BitVec.getLsbD_one]
  congr 1
  by_cases hi : i = n.bit
  · subst hi
    simp [hlt]
  · rw [decide_eq_false hi]
    by_cases hle : i < n.bit
    · simp [hle]
    · rw [decide_eq_false (by omega : ¬ i - n.bit = 0), Bool.and_false, Bool.and_false]

theorem raiseIf_bits (s : State) (c : Bool) (n : Notice) (i : Nat) :
    (s.raiseIf c n).writer.notices.getLsbD i = (s.writer.notices.getLsbD i || c && decide (i = n.bit)) := by
  cases c
  · rw [Bool.false_and, Bool.or_false]
    rfl
  · exact raise_bits s n i

theorem lowTest_of_cartridges (b : State) (p : Plane) (h : t.cartridges = s.cartridges) :
    lowTest b t p = lowTest b s p := by
  unfold lowTest newlyProven
  rw [h]

theorem outTest_of_cartridges (b : State) (p : Plane) (h : t.cartridges = s.cartridges) :
    outTest b t p = outTest b s p := by
  unfold outTest
  rw [h]

/-- The tests raise the notices that they call for, and no others. -/
theorem testEstimates_bits (b s : State) (i : Nat) : (testEstimates b s).writer.notices.getLsbD i =
    (s.writer.notices.getLsbD i || allPlanes.any fun p =>
      lowTest b s p && decide (i = 8 + p.val) || outTest b s p && decide (i = 12 + p.val)) := by
  unfold testEstimates
  generalize allPlanes = l
  induction l generalizing s with
  | nil => exact (Bool.or_false _).symm
  | cons p l ih =>
    have hcart := testEstimate_cartridges b p s
    rw [List.foldl_cons, ih, testEstimate_eq, raiseIf_bits, raiseIf_bits, ← testEstimate_eq,
      List.any_cons]
    simp only [lowTest_of_cartridges b _ hcart, outTest_of_cartridges b _ hcart, Notice.bit, Bool.or_assoc]
    rfl

/-- The end of an event leaves the ledger that the tests of the estimates leave. -/
theorem concludeEvent_ledger_tests (b s : State) :
    (concludeEvent b s).ledger = (testEstimates b (tryReset (noteDrain s))).ledger := by
  unfold concludeEvent
  simp

theorem notices_of_ledger (h : s.ledger = t.ledger) : s.writer.notices = t.writer.notices := congrArg Ledger.notices h

theorem concludeEvent_notices (b : State) (h : s.orders.resetWait = none) :
    (concludeEvent b s).writer.notices = (testEstimates b s).writer.notices :=
  notices_of_ledger (concludeEvent_ledger b s h)

theorem lowTest_raised (b s : State) (p : Plane) (h : lowTest b s p = true) :
    (testEstimates b s).writer.notices.getLsbD (8 + p.val) = true := by
  rw [testEstimates_bits, Bool.or_eq_true, List.any_eq_true]
  exact .inr ⟨p, by fin_cases p <;> decide, by rw [h, decide_eq_true rfl]; rfl⟩

theorem outTest_raised (b s : State) (p : Plane) (h : outTest b s p = true) :
    (testEstimates b s).writer.notices.getLsbD (12 + p.val) = true := by
  rw [testEstimates_bits, Bool.or_eq_true, List.any_eq_true]
  exact .inr ⟨p, by fin_cases p <;> decide, by rw [h, decide_eq_true (rfl : 12 + p.val = 12 + p.val), Bool.true_and, Bool.or_true]⟩

/-- What the tests of the estimates, against those of `b`, raise for a plane (R158). -/
theorem toner_notices {n : Nat} (hl : t.ledger = (testEstimates b s).ledger)
    (hn : t.cartridges.slots[p].estimate = some n) :
    (n < t.cartridges.policy.lowMark →
      (∀ o, b.cartridges.slots[p].estimate = some o → b.cartridges.policy.lowMark ≤ o) →
        t.writer.notices.getLsbD (8 + p.val) = true) ∧
    (n = 0 → (∀ o, b.cartridges.slots[p].estimate = some o → 0 < o) → t.writer.notices.getLsbD (12 + p.val) = true) ∧
    (t.cartridges.slots[p].verdict = .genuine → t.cartridges.slots[p].serial ≠ b.cartridges.slots[p].serial →
      (∀ m, t.cartridges.slots[p].remaining = some m → m < t.cartridges.policy.lowMark) →
        t.writer.notices.getLsbD (8 + p.val) = true) := by
  have hnotices : t.writer.notices = (testEstimates b s).writer.notices := congrArg Ledger.notices hl
  have hpolicy : t.cartridges.policy = s.cartridges.policy :=
    (congrArg Ledger.policy hl).trans (congrArg Cartridges.policy (testEstimates_cartridges b s))
  have hstanding := standing_of_ledger hl p
  rw [testEstimates_cartridges] at hstanding
  have hserial : t.cartridges.slots[p].serial = s.cartridges.slots[p].serial := by
    have h := congrArg CartridgeSlot.serial hstanding
    exact h
  have hverdict : t.cartridges.slots[p].verdict = s.cartridges.slots[p].verdict := by
    have h := congrArg CartridgeSlot.verdict hstanding
    exact h
  have hremaining : t.cartridges.slots[p].remaining = s.cartridges.slots[p].remaining := by
    have h := congrArg CartridgeSlot.remaining hstanding
    exact h
  have hestimate : t.cartridges.slots[p].estimate = s.cartridges.slots[p].estimate := by
    have h := congrArg CartridgeSlot.estimate hstanding
    exact h
  rw [hestimate] at hn
  rw [hnotices, hpolicy, hverdict, hserial, hremaining]
  refine ⟨fun hlow hold => lowTest_raised b s p ?_, fun hzero hold => outTest_raised b s p ?_,
    fun hgenuine hnew hlow => lowTest_raised b s p ?_⟩
  · have hnot : (b.cartridges.slots[p].estimate.any fun o => decide (o < b.cartridges.policy.lowMark)) = false := by
      cases ho : b.cartridges.slots[p].estimate with
      | none => rfl
      | some o => exact decide_eq_false (Nat.not_lt.mpr (hold o ho))
    unfold lowTest
    rw [hn]
    dsimp only
    rw [decide_eq_true hlow, hnot]
    rfl
  · have hnot : (b.cartridges.slots[p].estimate.any fun o => decide (o = 0)) = false := by
      cases ho : b.cartridges.slots[p].estimate with
      | none => rfl
      | some o => exact decide_eq_false (Nat.ne_of_gt (hold o ho))
    unfold outTest
    rw [hn]
    dsimp only
    rw [decide_eq_true hzero, hnot]
    rfl
  · have hproven : newlyProven b p s = true := by
      unfold newlyProven
      rw [decide_eq_true hgenuine, decide_eq_true hnew.symm]
      rfl
    have hcount : (s.cartridges.slots[p].remaining.any fun n => decide (n < s.cartridges.policy.lowMark)) = true := by
      cases hm : s.cartridges.slots[p].remaining with
      | none =>
        unfold CartridgeSlot.estimate at hn
        rw [hm] at hn
        cases hn
      | some m => exact decide_eq_true (hlow m hm)
    unfold lowTest
    rw [hn]
    dsimp only
    rw [hproven, hcount, Bool.and_true, Bool.or_true]

/-- Every command but a cold reset raises the notices of the toner (R158). -/
theorem exec_toner_notices (c : Instr) (s : State) (hc : ∀ m p, c ≠ .coldReset m p) : ∃ t, exec c s = .next t ∧
    ∀ p : Plane, ∀ n, t.cartridges.slots[p].estimate = some n →
      (n < t.cartridges.policy.lowMark →
        (∀ o, s.cartridges.slots[p].estimate = some o → s.cartridges.policy.lowMark ≤ o) →
          t.writer.notices.getLsbD (8 + p.val) = true) ∧
      (n = 0 → (∀ o, s.cartridges.slots[p].estimate = some o → 0 < o) → t.writer.notices.getLsbD (12 + p.val) = true) ∧
      (t.cartridges.slots[p].verdict = .genuine → t.cartridges.slots[p].serial ≠ s.cartridges.slots[p].serial →
        (∀ m, t.cartridges.slots[p].remaining = some m → m < t.cartridges.policy.lowMark) →
          t.writer.notices.getLsbD (8 + p.val) = true) := by
  obtain hsame | ⟨x, -, hout⟩ := exec_takesPlace c s hc
  · exact ⟨s, hsame, fun p n hn => ⟨fun hlow hold => absurd hlow (Nat.not_lt.mpr (hold n hn)),
      fun hzero hold => absurd hzero (Nat.ne_of_gt (hold n hn)), fun _ hnew => absurd rfl hnew⟩⟩
  · exact ⟨_, hout, fun p n hn => toner_notices (concludeEvent_ledger_tests s x) hn⟩

/-! ### TONER POLICY (R162) -/

/-- The test of the debit threshold finds a debit due (R152). -/
def debitDue (policy : TonerPolicy) (c : CartridgeSlot) : Bool :=
  c.seated && decide (c.verdict = .genuine) && decide (c.uncertain = none) && decide (c.exchange ≠ .debit) &&
    decide (policy.threshold ≤ c.owed)

theorem debitDue_iff (policy : TonerPolicy) (c : CartridgeSlot) : debitDue policy c = true ↔
    c.seated = true ∧ c.verdict = .genuine ∧ c.uncertain = none ∧ c.exchange ≠ .debit ∧ policy.threshold ≤ c.owed := by
  unfold debitDue
  simp only [Bool.and_eq_true, decide_eq_true_eq, and_assoc]

/-- A slot whose debit is due when the test finds it so. -/
def CartridgeSlot.dueTested (policy : TonerPolicy) (c : CartridgeSlot) : CartridgeSlot :=
  { c with debitPending := c.debitPending || debitDue policy c }

theorem thresholdTest_eq (p : Plane) (s : State) :
    thresholdTest p s = s.onSlot p (CartridgeSlot.dueTested s.cartridges.policy) := by
  unfold thresholdTest State.onSlot CartridgeSlot.dueTested
  dsimp only
  by_cases h : s.cartridges.slots[p].seated = true ∧ s.cartridges.slots[p].verdict = .genuine ∧
      s.cartridges.slots[p].uncertain = none ∧ s.cartridges.slots[p].exchange ≠ .debit ∧
      s.cartridges.policy.threshold ≤ s.cartridges.slots[p].owed
  · rw [if_pos h, (debitDue_iff _ _).mpr h, Bool.or_true]
  · rw [if_neg h, Bool.eq_false_iff.mpr (mt (debitDue_iff _ _).mp h), Bool.or_false, put_self]

theorem foldl_thresholdTest (l : List Plane) (s : State) : l.foldl (fun s p => thresholdTest p s) s = { s with
    cartridges := { s.cartridges with
      slots := l.foldl (fun v p => put v p (CartridgeSlot.dueTested s.cartridges.policy v[p])) s.cartridges.slots } } := by
  induction l generalizing s with
  | nil => rfl
  | cons p l ih =>
    rw [List.foldl_cons, List.foldl_cons, ih, thresholdTest_eq]
    rfl

theorem foldl_put_map {α : Type} (f : α → α) (v : Vector α 4) :
    allPlanes.foldl (fun v p => put v p (f v[p])) v = v.map f := by
  refine Vector.ext fun i hi => ?_
  unfold allPlanes put
  interval_cases i <;> simp

/-- The policy replaced and every slot tested. -/
theorem setPolicy_eq (policy : TonerPolicy) (s : State) : setPolicy policy s = { s with
    cartridges := { s.cartridges with policy, slots := s.cartridges.slots.map (CartridgeSlot.dueTested policy) } } := by
  unfold setPolicy
  rw [foldl_thresholdTest]
  dsimp only
  rw [foldl_put_map]

theorem dueTested_standing (policy : TonerPolicy) (c : CartridgeSlot) : (c.dueTested policy).standing = c.standing := rfl

/-- The policy replaced: the ledger. -/
theorem setPolicy_ledger (policy : TonerPolicy) (s : State) : (setPolicy policy s).ledger = { s.ledger with policy } := by
  rw [setPolicy_eq]
  unfold State.ledger
  dsimp only
  rw [Vector.map_map]
  rfl

/-- The policy that an order gives, in numbers (R187). -/
theorem OrderEntry.policy_eq (e : OrderEntry) : e.policy =
    { requireGenuine := BitVec.ofNat 4 (e.num 3 1), interval := e.num 4 4, threshold := e.num 8 4
      lowMark := e.num 12 4 } := by
  have hplanes : e.planes 3 = BitVec.ofNat 4 (e.num 3 1) := by
    have hnum : e.num 3 1 = (e.byte 3).toNat := rfl
    rw [hnum]
    refine BitVec.eq_of_toNat_eq ?_
    unfold OrderEntry.planes
    simp
  unfold OrderEntry.policy
  rw [hplanes]

theorem planesVal_ofNat {n : Nat} (h : n < 16) : planesVal (BitVec.ofNat 4 n) = u8 n := by
  unfold planesVal
  rw [BitVec.toNat_ofNat, Nat.mod_eq_of_lt h]

/-- What the test of an estimate finds after a change of the policy alone. -/
theorem lowTest_of_policy (hserial : t.cartridges.slots[p].serial = s.cartridges.slots[p].serial)
    (hestimate : t.cartridges.slots[p].estimate = s.cartridges.slots[p].estimate) :
    lowTest s t p = s.cartridges.slots[p].estimate.any fun n =>
      decide (n < t.cartridges.policy.lowMark) && decide (s.cartridges.policy.lowMark ≤ n) := by
  have hproven : newlyProven s p t = false := by
    unfold newlyProven
    rw [hserial, decide_eq_false (not_not.mpr rfl), Bool.and_false]
  unfold lowTest
  rw [hestimate, hproven]
  cases s.cartridges.slots[p].estimate with
  | none => rfl
  | some n =>
    dsimp only [Option.any]
    rw [Bool.false_and, Bool.or_false, ← decide_not]
    simp only [Nat.not_lt]

theorem outTest_of_estimate (hestimate : t.cartridges.slots[p].estimate = s.cartridges.slots[p].estimate) :
    outTest s t p = false := by
  unfold outTest
  rw [hestimate]
  cases s.cartridges.slots[p].estimate with
  | none => rfl
  | some n => exact Bool.and_not_self _

/-- Of the planes, only `p` has the number of `p`. -/
theorem any_allPlanes (f : Plane → Bool) (p : Plane) :
    (allPlanes.any fun q => f q && decide (8 + p.val = 8 + q.val)) = f p := by
  fin_cases p <;> simp [allPlanes]

/-- Settles O57. -/
theorem tonerPolicyReplacesAndTests : Obligations.TonerPolicyReplacesAndTests := by
  refine ⟨fun s e rest h => ⟨fun hbad => ?_, ?_⟩, exec_toner_notices⟩
  · exact refusedBy_of_accepts h rfl h.isKind (if_pos hbad)
  · intro hinterval hthreshold hplanes old
    have hbody : tonerPolicy e (popOrder rest s) =
        (.done (policyVals old ++ policyVals e.policy), setPolicy e.policy (popOrder rest s)) := by
      refine (if_neg ?_).trans ?_
      · rintro (hlarge | hzero)
        · exact absurd hinterval (Nat.not_le.mpr hlarge)
        · exact hthreshold hzero
      · rw [popOrder_cartridges]
    have horders : (setPolicy e.policy (popOrder rest s)).orders = (popOrder rest s).orders := by
      rw [setPolicy_eq]
    obtain ⟨t, ht, hanswer, hgrows⟩ := grows_of_body (c := .tonerPolicy) h rfl h.isKind hbody rfl horders
    obtain ⟨x, hx, hrun⟩ : ∃ x, x = (setPolicy e.policy (popOrder rest s)).hold e none (policyVals old ++ policyVals e.policy) ∧
        exec .tonerPolicy s = .next (concludeEvent s x) := ⟨_, rfl, exec_of_done h rfl h.isKind hbody⟩
    have hcart : x.cartridges = { s.cartridges with
        policy := e.policy, slots := s.cartridges.slots.map (CartridgeSlot.dueTested e.policy) } := by
      rw [hx, State.hold_cartridges, setPolicy_eq, popOrder_cartridges]
    have hslot (p : Plane) : x.cartridges.slots[p] = s.cartridges.slots[p].dueTested e.policy := by
      rw [hcart]
      exact Vector.getElem_map _ _
    have hwait : x.orders.resetWait = none := by
      rw [hx, hold_resetWait, horders, popOrder_resetWait, h.noWait]
    have hnotices : x.writer.notices = s.writer.notices := by
      rw [hx, State.hold_writer, setPolicy_eq, popOrder_writer]
    obtain rfl := Host.Outcome.next.inj (ht.symm.trans hrun)
    have hpolicy : (concludeEvent s x).cartridges.policy = e.policy :=
      (congrArg Ledger.policy hgrows.1).trans (congrArg Ledger.policy (setPolicy_ledger _ _))
    have hestimate (p : Plane) : x.cartridges.slots[p].estimate = s.cartridges.slots[p].estimate := by
      rw [hslot]
      rfl
    have hserial (p : Plane) : x.cartridges.slots[p].serial = s.cartridges.slots[p].serial := by
      rw [hslot]
      rfl
    have hbits : ∀ i, (concludeEvent s x).writer.notices.getLsbD i = (s.writer.notices.getLsbD i ||
        allPlanes.any fun p => lowTest s x p && decide (i = 8 + p.val)) := fun i => by
      have hout (p : Plane) : outTest s x p = false := outTest_of_estimate (hestimate p)
      rw [concludeEvent_notices s hwait, testEstimates_bits, hnotices]
      simp only [hout, Bool.false_and, Bool.or_false]
    have hlow (p : Plane) : lowTest s x p = s.cartridges.slots[p].estimate.any fun n =>
        decide (n < e.num 12 4) && decide (old.lowMark ≤ n) := by
      rw [lowTest_of_policy (hserial p) (hestimate p), hcart]
      rfl
    refine ⟨_, ht, ?_, hpolicy.trans e.policy_eq, ?_, fun p => ⟨?_, fun hline => ?_⟩, fun i hi => ?_⟩
    · rw [e.policy_eq] at hanswer
      unfold policyVals at hanswer
      dsimp only at hanswer
      rw [planesVal_ofNat hplanes] at hanswer
      exact hanswer
    · rw [hgrows.1, setPolicy_ledger, hpolicy, popOrder_ledger]
    · rw [hbits, any_allPlanes (lowTest s x) p]
      exact congrArg (s.writer.notices.getLsbD (8 + p.val) || ·) (hlow p)
    · rw [concludeEvent_cartridges_taken s hwait (by rw [hcart]; exact hline), hslot, e.policy_eq]
      rfl
    · rw [hbits, List.any_eq_false.mpr, Bool.or_false]
      intro p _
      rw [Bool.and_eq_true, decide_eq_true_eq]
      omega

end Sys2Proof.Machine
end

section

/-! PROOFS. SIDE CANCEL and SIDE BEGIN: the void and the admission of a side (R97 to R99, R113, R114). -/

namespace Sys2Proof.Machine

variable {s t : State}

/-! ### A side leaves its job (R32, R37) -/

/-- No completion attempt succeeds while the job is ACTIVE or has work left. -/
theorem attemptClose_of_open {i : Fin 16} {j : Job} (hj : s.jobs[i] = some j)
    (h : ¬(j.state = .closing ∧ j.sides = 0 ∧ j.merges = 0 ∧ j.lines = 0)) : attemptClose i s = s := by
  unfold attemptClose
  rw [hj]
  exact if_neg h

theorem sideLeaves_of_keeps {i : Fin 16} {j : Job} (hj : s.jobs[i] = some j) (h : j.keepsSlot) :
    sideLeaves i s = { s with jobs := put s.jobs i (some { j with sides := j.sides - 1 }) } := by
  unfold sideLeaves
  rw [onJob_of_some hj]
  refine attemptClose_of_open (put_same _ _ _) fun hdone => ?_
  obtain ⟨hstate, hsides, hmerges, hlines⟩ := hdone
  rcases h with hactive | hmore | hmerge | hline
  · rw [show j.state = .closing from hstate] at hactive
    cases hactive
  · change j.sides - 1 = 0 at hsides
    omega
  · exact hmerge hmerges
  · exact hline hlines

/-! ### SIDE CANCEL (R113, R114) -/

/-- A void in the tables (R114). -/
theorem voidSide_of_keeps {r : Side} {j : Job} {u : User} (hj : s.jobs[r.jobSlot] = some j) (hkeeps : j.keepsSlot)
    (hu : s.accounts.users[r.userSlot] = some u) : voidSide r s = { s with
      sides := { s.sides with
        settledOrder := s.sides.settledOrder ++ [r.uid]
        records := s.sides.records.map fun x =>
          if x.uid = r.uid then { x with state := .settled, outcome := some .voided } else x }
      jobs := put s.jobs r.jobSlot (some { j with sides := j.sides - 1 })
      accounts := { s.accounts with users := put s.accounts.users r.userSlot (some (u.released r.reserve)) }
      writer := { s.writer with userMap := releasedMap r.userSlot r.reserve s } } := by
  rw [voidSide_eq, warningTest_releaseHold, hu]
  exact sideLeaves_of_keeps hj hkeeps

/-- A record that a reserve has left (R122, R124). -/
theorem released_eq (n : Nat) (u : User) : u.released n = { u with
    hold := u.hold - n, warned := decide (u.credit - u.spent - (u.hold - n : Nat) < u.warn) } := rfl

/-- Settles O47. -/
theorem sideCancelVoidsAnAdmittedSide : Obligations.SideCancelVoidsAnAdmittedSide := by
  intro s e rest r j u h _ hid hr hstate hj hkeeps hu
  have hvoid := voidSide_of_keeps (s := popOrder rest s) (r := r) (by rw [popOrder_jobs]; exact hj) hkeeps
    (by rw [popOrder_accounts]; exact hu)
  have hbody : sideCancel e (popOrder rest s) = (.done [u16 r.id, u16 r.reserve], voidSide r (popOrder rest s)) := by
    have hfound : (popOrder rest s).sideWithId (e.num 3 2) = some r := by
      unfold State.sideWithId
      rw [popOrder_sides]
      exact hr
    unfold sideCancel
    rw [if_neg hid, hfound]
    dsimp only
    rw [hstate]
  obtain ⟨t, ht, hanswer, hledger⟩ := done_of_body (c := .sideCancel) h rfl hbody (by rw [hvoid]) (by rw [hvoid]) rfl
  rw [hvoid] at hledger
  refine ⟨t, ht, hanswer, (congrArg Ledger.sides hledger).trans ?_, (congrArg Ledger.jobs hledger).trans ?_,
    (congrArg Ledger.accounts hledger).trans ?_, (congrArg Ledger.totals hledger).trans ?_,
    (congrArg Ledger.mem hledger).trans ?_, (congrArg Ledger.store hledger).trans ?_,
    (congrArg Ledger.classifier hledger).trans ?_⟩
  · rw [← popOrder_sides rest s]
    rfl
  · rw [← popOrder_jobs rest s]
    rfl
  · rw [← popOrder_accounts rest s]
    rfl
  · exact congrArg Cartridges.totals (popOrder_cartridges rest s)
  · exact popOrder_mem rest s
  · exact popOrder_store rest s
  · exact popOrder_classifier rest s

/-! ### The id of an admitted side (R96) -/

theorem freeId_first (used : List Nat) (fuel m : Nat) :
    ∃ n, freeId used fuel m = idAfter^[n] m ∧ ∀ k < n, idAfter^[k] m ∈ used := by
  induction fuel generalizing m with
  | zero => exact ⟨0, rfl, fun _ hk => absurd hk (Nat.not_lt_zero _)⟩
  | succ fuel ih =>
    unfold freeId
    split
    case isTrue hm =>
      obtain ⟨n, hn, hbefore⟩ := ih (idAfter m)
      refine ⟨n + 1, hn, fun k hk => ?_⟩
      cases k with
      | zero => exact hm
      | succ k => exact hbefore k (Nat.lt_of_succ_lt_succ hk)
    case isFalse => exact ⟨0, rfl, fun _ hk => absurd hk (Nat.not_lt_zero _)⟩

/-- The next id is the first from the counter on that no record holds (R96). -/
theorem nextSideId_first (hlow : 1 ≤ s.sides.nextId) (hhigh : s.sides.nextId ≤ 65535) (hroom : s.sides.records.length < 8) :
    ∃ n, s.nextSideId = (s.sides.nextId - 1 + n) % 65535 + 1 ∧ (∀ x ∈ s.sides.records, x.id ≠ s.nextSideId) ∧
      ∀ k < n, ∃ x ∈ s.sides.records, x.id = (s.sides.nextId - 1 + k) % 65535 + 1 := by
  obtain ⟨n, hn, hbefore⟩ := freeId_first (s.sides.records.map Side.id) (s.sides.records.map Side.id).length s.sides.nextId
  rw [idAfter_iterate ⟨hlow, hhigh⟩] at hn
  have hnew : s.nextSideId ∉ s.sides.records.map Side.id :=
    freeId_notMem ⟨hlow, hhigh⟩ (by rw [List.length_map]; omega)
  refine ⟨n, hn, fun x hx he => hnew (he ▸ List.mem_map_of_mem hx), fun k hk => ?_⟩
  have hmem := hbefore k hk
  rw [idAfter_iterate ⟨hlow, hhigh⟩] at hmem
  exact List.mem_map.mp hmem

/-! ### SIDE BEGIN (R97 to R99) -/

theorem firstPlane_none {set : PlaneSet} {f : Plane → Bool} (h : ∀ p, hasPlane set p = true → f p = false) :
    firstPlane set f = none := by
  refine List.find?_eq_none.mpr fun p _ => ?_
  cases hp : hasPlane set p with
  | false => exact Bool.false_ne_true
  | true =>
    rw [h p hp]
    exact Bool.false_ne_true

theorem bandRow_eq_some {i : Fin 16} {p : Plane} {r : Region} {n : Nat} : bandRow i p r = some n ↔
    ∃ d, r.state = .live ∧ r.kind = .band p d n ∧ (r.job = none ∨ r.job = some i) := by
  unfold bandRow
  split
  case h_1 q d m hlive hkind =>
    rw [hlive, hkind]
    split
    case isTrue hq =>
      obtain ⟨rfl, hjob⟩ := hq
      simp [hjob]
    case isFalse hq =>
      simp only [reduceCtorEq, RegionKind.band.injEq, true_and, false_iff, not_exists, not_and]
      rintro d' ⟨rfl, -, -⟩ hjob
      exact hq ⟨rfl, hjob⟩
  case h_2 hnot =>
    simp only [reduceCtorEq, false_iff, not_exists, not_and]
    exact fun d hlive hkind => absurd hkind (hnot p d n hlive)

/-- The row length of a plane whose bands for the job agree (R98). -/
theorem rowLength_eq {i : Fin 16} {p : Plane} {n : Nat}
    (hband : ∃ (k : Fin 32) (r : Region), s.classifier.regions[k] = some r ∧ bandRow i p r = some n)
    (hsame : ∀ (k : Fin 32) (r : Region) m, s.classifier.regions[k] = some r → bandRow i p r = some m → m = n) :
    s.rowLength i p = some n := by
  unfold State.rowLength
  cases hfound : s.classifier.regions.toList.findSome? fun x => x.bind (bandRow i p) with
  | none =>
    obtain ⟨k, r, hr, hn⟩ := hband
    rw [List.findSome?_eq_none_iff] at hfound
    have := hfound (some r) (Vector.mem_toList_iff.mpr (Vector.mem_iff_getElem.mpr ⟨k.val, k.isLt, hr⟩))
    rw [Option.bind_some, hn] at this
    cases this
  | some m =>
    obtain ⟨x, hx, hm⟩ := List.exists_of_findSome?_eq_some hfound
    obtain ⟨k, hk, rfl⟩ := Vector.mem_iff_getElem.mp (Vector.mem_toList_iff.mp hx)
    obtain ⟨r, hr, hm⟩ := Option.bind_eq_some_iff.mp hm
    rw [hsame ⟨k, hk⟩ r m hr hm]

/-- A reserve joins the owner's hold, with the warning test (R122, R124). -/
theorem warningTest_takeHold {i : Fin 64} {u : User} (n : Nat) (hu : s.accounts.users[i] = some u) :
    warningTest i (takeHold i n s) = { s with
      accounts := { s.accounts with users := put s.accounts.users i (some (User.tested { u with hold := u.hold + n })) }
      writer := { s.writer with
        userMap := warnedMap s.writer.userMap i u.warned (User.tested { u with hold := u.hold + n }).warned } } := by
  rw [warningTest_of_some (r := { u with hold := u.hold + n })
    (by simp only [takeHold, State.onUser, put_same, hu, Option.map_some])]
  simp only [takeHold, State.onUser, put_put]

/-- An admission in the tables (R99). -/
theorem admitSide_eq {r : Side} {j : Job} {u : User} (hj : s.jobs[r.jobSlot] = some j)
    (hu : s.accounts.users[r.userSlot] = some u) : admitSide r s = { s with
      sides := { s.sides with
        records := s.sides.records ++ [r], nextId := idAfter r.id, nextUid := s.sides.nextUid + 1 }
      jobs := put s.jobs r.jobSlot (some { j with sides := j.sides + 1 })
      accounts := { s.accounts with
        users := put s.accounts.users r.userSlot (some (User.tested { u with hold := u.hold + r.reserve })) }
      writer := { s.writer with
        userMap := warnedMap s.writer.userMap r.userSlot u.warned (User.tested { u with hold := u.hold + r.reserve }).warned } } := by
  unfold admitSide
  dsimp only
  rw [warningTest_takeHold (u := u) (s := { s with sides := { s.sides with
    records := s.sides.records ++ [r], nextId := idAfter r.id, nextUid := s.sides.nextUid + 1 } }) _ hu]
  unfold State.onJob
  dsimp only
  rw [hj]
  rfl

theorem SideMode.ofCode_code (m : SideMode) : SideMode.ofCode m.code = some m := by
  cases m <;> rfl

theorem Face.ofCode_code (f : Face) : Face.ofCode f.code = some f := by
  cases f <;> rfl

/-- The row lengths that the bands of a plane set give, as R98 reads them. -/
theorem rowLength_of_bands {i : Fin 16} {p : Plane} {row : Nat} (hband : ∃ (k : Fin 32) (r : Region) (d : Nat),
      s.classifier.regions[k] = some r ∧ r.state = .live ∧ r.kind = .band p d row ∧ (r.job = none ∨ r.job = some i))
    (hsame : ∀ n, (∃ (k : Fin 32) (r : Region) (d : Nat), s.classifier.regions[k] = some r ∧ r.state = .live ∧
      r.kind = .band p d n ∧ (r.job = none ∨ r.job = some i)) → n = row) : s.rowLength i p = some row := by
  obtain ⟨k, r, d, hr, hrow⟩ := hband
  refine rowLength_eq ⟨k, r, hr, bandRow_eq_some.mpr ⟨d, hrow⟩⟩ fun k r n hr hn => ?_
  obtain ⟨d, hn⟩ := bandRow_eq_some.mp hn
  exact hsame n ⟨k, r, d, hr, hn⟩

/-- SIDE BEGIN whose checks but the last pass (R97). -/
theorem beginSide_eq {f : SideForm} {i : Fin 16} {j : Job} {u : User} (hactive : j.state = .active) (hscan : j.kind ≠ .scan)
    (hrelease : j.kind = .print → j.release = .released)
    (hbands : ∀ p, hasPlane (newSide f i j u s).planes p = true → (s.rowLength i p).isNone = false)
    (hrows : 16 ≤ f.rows) (hrows' : f.rows ≤ 65535) (huser : u.state = .active)
    (hcolour : (newSide f i j u s).mode = .colour → u.colour = true)
    (htoner : ∀ p, hasPlane (newSide f i j u s).planes p = true → s.tonerRefuses p = false) :
    beginSide f i j u s = if u.available - (newSide f i j u s).reserve < u.floor then
        (.refused .quota [i32 u.balance, u32 u.hold, i32 u.floor, u16 (newSide f i j u s).reserve], s)
      else (.done (admissionVals (newSide f i j u s) (s.sides.records.length + 1)), admitSide (newSide f i j u s) s) := by
  unfold beginSide
  dsimp only
  rw [if_neg, if_neg, firstPlane_none hbands]
  · dsimp only
    rw [if_neg (by omega), if_neg (by rw [huser]; decide), if_neg, firstPlane_none htoner]
    rintro ⟨hmode, hdenied⟩
    rw [hcolour hmode] at hdenied
    cases hdenied
  · rintro ⟨hprint, hsealed⟩
    rw [hrelease hprint] at hsealed
    cases hsealed
  · rw [hactive]
    rintro (hclosing | hkind)
    · cases hclosing
    · exact hscan hkind

/-- Settles O46. -/
theorem sideBeginAdmitsOrRefusesQuota : Obligations.SideBeginAdmitsOrRefusesQuota := by
  intro s e rest mode face row i j u code h htag hmode hface hroom hbusy hi hj hu hactive hscan hrelease m planes band
    hband hrows hrows' huser hcolour hslots hnextLow hnextHigh price mono colour reserve expected idAt
  have hcode : code = SideMode.code := funext fun x => by cases x <;> rfl
  have hform : e.sideForm = some { tag := e.num 3 2, mode, face, rows := e.num 7 4 } := by
    have hface' : e.num 6 1 = face.code := by rw [hface]; cases face <;> rfl
    unfold OrderEntry.sideForm
    rw [hmode, hcode, SideMode.ofCode_code, hface', Face.ofCode_code]
    exact if_neg htag
  obtain ⟨n, hid, hnew, hbefore⟩ := nextSideId_first hnextLow hnextHigh hroom
  have hmodes : effectiveMode mode u.colour = (m, decide (mode = .auto) && !u.colour) := by
    unfold effectiveMode m
    cases mode <;> cases u.colour <;> rfl
  have hplanes : planesOfMode m = planes := by
    unfold planes
    cases m <;> rfl
  have hreserve : reserveOf s.store.live m = reserve := by
    unfold reserve
    cases m <;> rfl
  have hrowLength : ∀ p, hasPlane planes p = true → s.rowLength i p = some (row p) := fun p hp =>
    rowLength_of_bands (hband p hp).1 (hband p hp).2
  have hexpected : expectedLines planes (e.num 7 4) i s = expected := by
    refine congrArg Vector.ofFn (funext fun p => ?_)
    by_cases hp : hasPlane planes p = true
    · rw [if_pos hp, if_pos hp, hrowLength p hp]
      rfl
    · rw [if_neg hp, if_neg hp]
  have hside : newSide { tag := e.num 3 2, mode, face, rows := e.num 7 4 } i j u s =
      { uid := s.sides.nextUid, id := idAt n, jobSlot := i, jobTag := j.tag, userSlot := j.owner
        userId := u.id, mode := m, downgraded := decide (mode = .auto) && !u.colour, face
        rows := e.num 7 4, planes, expected, reserve, state := .admitted, generation := none
        serials := Vector.replicate 4 none, context := none, blanked := 0, figures := none, charge := none
        outcome := none, capped := false, unproven := 0, partsWritten := 0 } := by
    unfold newSide
    dsimp only
    rw [hmodes]
    dsimp only
    rw [hplanes, hreserve, hexpected, hid]
  have hpopped : newSide { tag := e.num 3 2, mode, face, rows := e.num 7 4 } i j u (popOrder rest s) =
      newSide { tag := e.num 3 2, mode, face, rows := e.num 7 4 } i j u s := by
    unfold newSide expectedLines State.rowLength State.nextSideId
    rw [popOrder_sides, popOrder_classifier, popOrder_store]
  have hbegin := beginSide_eq (s := popOrder rest s) (f := { tag := e.num 3 2, mode, face, rows := e.num 7 4 }) (i := i)
    hactive hscan hrelease (by
      rw [hpopped, hside]
      intro p hp
      unfold State.rowLength
      rw [popOrder_classifier]
      exact congrArg Option.isNone (hrowLength p hp)) hrows hrows' huser (by rw [hpopped, hside]; exact hcolour) (by
      rw [hpopped, hside]
      intro p hp
      obtain ⟨hverdict, hgenuine⟩ := hslots p hp
      unfold State.tonerRefuses
      rw [popOrder_cartridges]
      dsimp only
      rw [decide_eq_false hverdict, Bool.false_or]
      cases hrequired : hasPlane s.cartridges.policy.requireGenuine p with
      | false => rfl
      | true => exact decide_eq_false (not_not.mpr (hgenuine hrequired)))
  rw [hpopped] at hbegin
  have hbody : sideBegin e (popOrder rest s) = beginSide { tag := e.num 3 2, mode, face, rows := e.num 7 4 } i j u
      (popOrder rest s) := by
    have hjob : sideJob (e.num 3 2) (popOrder rest s) = some (i, j, u) := by
      unfold sideJob
      rw [popOrder_jobWithTag, hi]
      dsimp only
      rw [popOrder_jobs, hj]
      dsimp only
      rw [popOrder_accounts, hu]
      rfl
    unfold sideBegin
    rw [hform]
    dsimp only
    rw [popOrder_sides, if_neg (by omega), popOrder_accountsBusy, hbusy, hjob]
    rfl
  rw [hbegin, hside] at hbody
  refine ⟨fun hlow => ?_, fun henough => ?_⟩
  · obtain ⟨t, ht, hanswer, hledger⟩ := refused_of_body (c := .sideBegin) h rfl (hbody.trans (if_pos hlow))
    exact ⟨t, ht, hledger, hanswer⟩
  · have hbody := hbody.trans (if_neg (Int.not_lt.mpr henough))
    have hadmit : admitSide _ (popOrder rest s) = _ := admitSide_eq (s := popOrder rest s) (r :=
      { uid := s.sides.nextUid, id := idAt n, jobSlot := i, jobTag := j.tag, userSlot := j.owner
        userId := u.id, mode := m, downgraded := decide (mode = .auto) && !u.colour, face
        rows := e.num 7 4, planes, expected, reserve, state := .admitted, generation := none
        serials := Vector.replicate 4 none, context := none, blanked := 0, figures := none, charge := none
        outcome := none, capped := false, unproven := 0, partsWritten := 0 }) (by rw [popOrder_jobs]; exact hj)
      (by rw [popOrder_accounts]; exact hu)
    rw [hadmit] at hbody
    obtain ⟨t, ht, hanswer, hledger⟩ := done_of_body (c := .sideBegin) h rfl hbody rfl rfl rfl
    have hid' : ∀ x ∈ s.sides.records, x.id ≠ idAt n := fun x hx => by
      have := hnew x hx
      rwa [hid] at this
    refine ⟨t, n, ht, hid', hbefore, (congrArg Ledger.sides hledger).trans ?_, ?_, (congrArg Ledger.jobs hledger).trans ?_,
      (congrArg Ledger.accounts hledger).trans ?_, (congrArg Ledger.mem hledger).trans ?_,
      (congrArg Ledger.store hledger).trans ?_, (congrArg Ledger.classifier hledger).trans ?_,
      (congrArg Ledger.unattributed hledger).trans ?_, (congrArg Ledger.slots hledger).trans ?_,
      (congrArg Ledger.absent hledger).trans ?_, (congrArg Ledger.totals hledger).trans ?_⟩
    · rw [← popOrder_sides rest s]
      rfl
    · have hflag : flagVal (decide (mode = .auto) && !u.colour) = u8 (if mode = .auto ∧ u.colour = false then 1 else 0) := by
        cases mode <;> cases u.colour <;> rfl
      unfold admissionVals at hanswer
      dsimp only at hanswer
      rw [hflag, popOrder_sides] at hanswer
      rw [hcode]
      exact hanswer
    · rw [← popOrder_jobs rest s]
      rfl
    · rw [← popOrder_accounts rest s]
      rfl
    · exact popOrder_mem rest s
    · exact popOrder_store rest s
    · exact popOrder_classifier rest s
    · exact popOrder_unattributed rest s
    · change (popOrder rest s).cartridges.slots.map CartridgeSlot.standing = _
      rw [popOrder_cartridges]
      rfl
    · exact congrArg Cartridges.absent (popOrder_cartridges rest s)
    · exact congrArg Cartridges.totals (popOrder_cartridges rest s)

end Sys2Proof.Machine
end

section

/-! PROOFS. The close of a side with its settlement and its draw (R108 to R110). -/

namespace Sys2Proof.Machine

variable {s t : State} {p : Plane}

/-! ### The owner's record and the counters of sides -/

/-- A user record and the counters of sides replaced. -/
def State.account (s : State) (i : Fin 64) (u : User) (m : Counters) : State :=
  { s with accounts := { s.accounts with
      users := put s.accounts.users i (some u), meters := { s.accounts.meters with sides := m } } }

section Account

variable {i : Fin 64} {u : User} {m : Counters}

theorem account_users : (s.account i u m).accounts.users[i] = some u := put_same _ _ _

theorem onUser_account (f : User → User) : (s.account i u m).onUser i f = s.account i (f u) m := by
  unfold State.onUser
  rw [account_users]
  unfold State.account
  dsimp only
  rw [put_put]
  rfl

theorem releaseHold_account (n : Nat) (hu : s.accounts.users[i] = some u) :
    releaseHold i n s = s.account i { u with hold := u.hold - n } s.accounts.meters.sides := by
  unfold releaseHold State.onUser
  rw [hu]
  rfl

theorem chargeUser_account {n : Nat} (h : u.spent + n ≤ 2 ^ 62) :
    chargeUser i n (s.account i u m) = s.account i { u with spent := u.spent + n } m := by
  unfold chargeUser
  rw [account_users]
  dsimp only
  rw [if_neg (not_lt.mpr (show u.spent + n ≤ maxSpent from h)), onUser_account]

theorem addSat_of_lt {a : Nat} (h : a < 4294967295) : addSat max32 a 1 = (a + 1, false) :=
  if_neg (not_lt.mpr (show a + 1 ≤ max32 from h))

theorem countUser_account {k : Fin 8} (h : u.counters[k] < 4294967295) : countUser i k (s.account i u m) =
    s.account i { u with counters := put u.counters k (u.counters[k] + 1) } m := by
  unfold countUser meterUp
  rw [account_users]
  dsimp only
  rw [addSat_of_lt h, onUser_account]
  rfl

theorem countSideMeter_account {k : Fin 8} (h : m[k] < 4294967295) : countSideMeter k (s.account i u m) =
    s.account i u (put m k (m[k] + 1)) := by
  unfold countSideMeter meterUp
  rw [show (s.account i u m).accounts.meters.sides[k] = m[k] from rfl, addSat_of_lt h]
  rfl

theorem countBoth_account {k : Fin 8} (hu : u.counters[k] < 4294967295) (hm : m[k] < 4294967295) :
    countBoth i k (s.account i u m) =
      s.account i { u with counters := put u.counters k (u.counters[k] + 1) } (put m k (m[k] + 1)) := by
  unfold countBoth
  rw [countUser_account hu, countSideMeter_account hm]

theorem warningTest_account : warningTest i (s.account i u m) = { s.account i u.tested m with
    writer := { s.writer with userMap := warnedMap s.writer.userMap i u.warned u.tested.warned } } := by
  rw [warningTest_of_some account_users]
  unfold State.account
  dsimp only
  rw [put_put]

end Account

/-- The settlement of a JAMMED side in its owner's record (R115, R131). -/
theorem settleAccount_jammed {r : Side} {u : User} (f : CloseFigures) (n : Nat) (hu : s.accounts.users[r.userSlot] = some u)
    (hcount : u.counters[7] < 4294967295) (hmeter : s.accounts.meters.sides[7] < 4294967295) :
    let w := User.tested { u with hold := u.hold - r.reserve, counters := put u.counters 7 (u.counters[7] + 1) }
    settleAccount r .jammed f n s = { s.account r.userSlot w (put s.accounts.meters.sides 7 (s.accounts.meters.sides[7] + 1)) with
      writer := { s.writer with userMap := warnedMap s.writer.userMap r.userSlot u.warned w.warned } } := by
  unfold settleAccount
  dsimp only
  rw [if_pos rfl, releaseHold_account _ hu, show spoiledIndex = 7 from rfl,
    countBoth_account (u := { u with hold := u.hold - r.reserve }) hcount hmeter, warningTest_account]
  rfl

/-- The counters of sides once a side with the given figures is counted (R109, R131). -/
theorem countedSide_eq (s : State) (r : Side) (old : Counters) : countedSide s r old =
    let f := closeFigures s.store.live r
    let tiered := put old (counterIndex f.cls f.tier) (old[counterIndex f.cls f.tier] + 1)
    if r.face = .back then put tiered 6 (tiered[6] + 1) else tiered := rfl

theorem counterIndex_ne_duplex (c : SideClass) (t : Tier) : counterIndex c t ≠ 6 := by
  cases c <;> cases t <;> decide

/-- The settlement of a COMPLETE or SHORT side in its owner's record (R91, R109, R131). -/
theorem settleAccount_charged {r : Side} {o : SideOutcome} {u : User} (ho : o ≠ .jammed)
    (hu : s.accounts.users[r.userSlot] = some u) (hcounts : ∀ k : Fin 8, u.counters[k] < 4294967295)
    (hmeters : ∀ k : Fin 8, s.accounts.meters.sides[k] < 4294967295) (hspent : u.spent + r.reserve ≤ 2 ^ 62) :
    settleAccount r o (closeFigures s.store.live r) (min r.reserve (livePrice s r)) s =
      { s.account r.userSlot (settledUser s r u) (countedSide s r s.accounts.meters.sides) with
        writer := { s.writer with
          userMap := warnedMap s.writer.userMap r.userSlot u.warned (settledUser s r u).warned } } := by
  have hcharge : u.spent + min r.reserve (livePrice s r) ≤ 2 ^ 62 := le_trans (Nat.add_le_add_left (Nat.min_le_left _ _) _) hspent
  unfold settleAccount
  dsimp only
  rw [if_neg ho, releaseHold_account _ hu, chargeUser_account (u := { u with hold := u.hold - r.reserve }) hcharge,
    countBoth_account (u := { u with hold := u.hold - r.reserve, spent := u.spent + min r.reserve (livePrice s r) })
      (hcounts _) (hmeters _), show duplexIndex = 6 from rfl]
  have hne := counterIndex_ne_duplex (closeFigures s.store.live r).cls (closeFigures s.store.live r).tier
  by_cases hback : r.face = .back
  · rw [if_pos hback, countBoth_account (by dsimp only; rw [put_other _ _ _ _ hne]; exact hcounts 6)
      (by rw [put_other _ _ _ _ hne]; exact hmeters 6), warningTest_account]
    unfold settledUser
    simp only [countedSide_eq, if_pos hback]
    rfl
  · rw [if_neg hback, warningTest_account]
    unfold settledUser
    simp only [countedSide_eq, if_neg hback]
    rfl

/-! ### The job's totals and counts (R33, R37, R109) -/

theorem countSettled_of_room {i : Fin 16} {j : Job} (hj : s.jobs[i] = some j) (h : j.settled < 4294967295) :
    countSettled i s = { s with jobs := put s.jobs i (some { j with settled := j.settled + 1 }) } := by
  unfold countSettled
  rw [hj]
  dsimp only
  rw [addSat_of_lt h, onJob_of_some hj]
  rfl

/-- The job keeps its slot when the side leaves it. -/
theorem jobCounts_of_keeps {i : Fin 16} {j : Job} (hj : s.jobs[i] = some j) (hkeeps : j.keepsSlot)
    (h : j.settled < 4294967295) : sideLeaves i (countSettled i s) =
      { s with jobs := put s.jobs i (some { j with sides := j.sides - 1, settled := j.settled + 1 }) } := by
  rw [countSettled_of_room hj h, sideLeaves_of_keeps (j := { j with settled := j.settled + 1 }) (put_same _ _ _) hkeeps]
  dsimp only
  rw [put_put]

/-! ### The draw of the planes (R110) -/

/-- A side's record with the planes of a set added to those whose draw is unproven. -/
def Side.withUnproven (uid : Nat) (set : PlaneSet) (x : Side) : Side :=
  if x.uid = uid then { x with unproven := x.unproven ||| set } else x

theorem Side.withUnproven_zero (uid : Nat) (x : Side) : x.withUnproven uid 0 = x := by
  unfold Side.withUnproven
  split
  · rw [show x.unproven ||| 0 = x.unproven from BitVec.or_zero]
  · rfl

theorem Side.withUnproven_withUnproven (uid : Nat) (a b : PlaneSet) (x : Side) :
    (x.withUnproven uid a).withUnproven uid b = x.withUnproven uid (a ||| b) := by
  unfold Side.withUnproven
  by_cases h : x.uid = uid
  · rw [if_pos h, if_pos h, if_pos h, BitVec.or_assoc]
  · rw [if_neg h, if_neg h, if_neg h]

/-- What the hand-over of draws changes: the prover, and in the side's record the planes whose draw is unproven. -/
def HandsDraw (uid : Nat) (set : PlaneSet) (s t : State) : Prop :=
  ∃ draws cartridges notices, t = { s with
    draws, cartridges, writer := { s.writer with notices }
    sides := { s.sides with records := s.sides.records.map (Side.withUnproven uid set) } }

theorem HandsDraw.refl (uid : Nat) (s : State) : HandsDraw uid 0 s s :=
  ⟨_, _, _, by rw [show Side.withUnproven uid 0 = id from funext (Side.withUnproven_zero uid), List.map_id]⟩

theorem HandsDraw.trans {uid : Nat} {a b : PlaneSet} {u : State} (hst : HandsDraw uid a s t) (htu : HandsDraw uid b t u) :
    HandsDraw uid (a ||| b) s u := by
  obtain ⟨_, _, _, rfl⟩ := hst
  obtain ⟨draws, cartridges, notices, rfl⟩ := htu
  refine ⟨draws, cartridges, notices, ?_⟩
  dsimp only
  rw [List.map_map]
  simp only [Function.comp_def, Side.withUnproven_withUnproven]

theorem ProverOnly.handsDraw (uid : Nat) (h : ProverOnly s t) : HandsDraw uid 0 s t := by
  obtain ⟨draws, cartridges, notices, rfl⟩ := h
  exact ⟨draws, cartridges, notices, by
    rw [show Side.withUnproven uid 0 = id from funext (Side.withUnproven_zero uid), List.map_id]⟩

/-- The draw of a side's plane is unproven when it goes to the unproven total (R110, R155). -/
theorem routeSideDraw_unproven {draws : Draws} {counted : Plane → Bool} (h : Routing s draws counted t) (p : Plane) (d : Nat)
    (serial : Option Serial) : (routeSideDraw p d serial t).2 = true ↔ sidePlace s p serial = .unproven := by
  obtain ⟨hverdict, hserial, -, -, -⟩ := h.slot_verdict p
  unfold sidePlace routeSideDraw
  dsimp only
  cases serial with
  | none => exact iff_of_true rfl rfl
  | some v =>
    dsimp only
    rw [hverdict, hserial]
    by_cases hslot : s.cartridges.slots[p].verdict = .genuine ∧ s.cartridges.slots[p].serial = some v
    · rw [if_pos hslot, if_pos hslot]
      exact iff_of_false Bool.false_ne_true nofun
    · rw [if_neg hslot, if_neg hslot]
      cases hk : s.cartridges.absent.findIdx? fun a => decide (a.serial = v) && decide (a.plane = p) with
      | some k =>
        obtain ⟨a, hentry, -⟩ := h.toEntry d hk
        rw [hentry]
        exact iff_of_false Bool.false_ne_true nofun
      | none =>
        have hnone : t.absentEntry v p = none := by
          have hidx := (h.findIdx?_eq v p).trans hk
          rw [List.findIdx?_eq_none_iff] at hidx
          exact List.find?_eq_none.mpr fun a ha => by rw [hidx a ha]; exact Bool.false_ne_true
        rw [hnone]
        exact iff_of_true rfl rfl

/-- The planes of a side whose draw goes to the unproven total, as one plane's part of their set. -/
def unprovenPart (s : State) (r : Side) (p : Plane) : PlaneSet :=
  if hasPlane r.planes p = true ∧ sidePlace s p r.serials[p] = .unproven then 1#4 <<< p.val else 0

/-- The draw of a side's plane with its place (R155). -/
def sideRun (s : State) (r : Side) (f : CloseFigures) (p : Plane) : List (DrawPlace × Nat) :=
  if hasPlane r.planes p then [(sidePlace s p r.serials[p], f.draw[p])] else []

theorem countReproof_proverOnly (p : Plane) (s : State) : ProverOnly s (countReproof p s) := by
  unfold countReproof
  dsimp only
  split
  · split
    · exact (onSlot_proverOnly _ _ _).trans (requestProbe_proverOnly _ _)
    · exact onSlot_proverOnly _ _ _
  · exact .refl s

theorem onSide_handsDraw (uid : Nat) (p : Plane) (s : State) :
    HandsDraw uid (1#4 <<< p.val) s (s.onSide uid fun x => { x with unproven := addPlane x.unproven p }) :=
  ⟨_, _, _, rfl⟩

section HandOver

variable {draws : Draws} {counted : Plane → Bool}

/-- The hand-over of one plane's draw. -/
theorem handPlaneDraw_routes (r : Side) (f : CloseFigures) (h : Routing s draws counted t) (hp : counted p = false) :
    Routing s (fun q => draws q ++ if q = p then sideRun s r f p else [])
      (fun q => counted q || decide (q = p) && hasPlane r.planes p) (handPlaneDraw r f t p) ∧
    HandsDraw r.uid (unprovenPart s r p) t (handPlaneDraw r f t p) := by
  unfold handPlaneDraw sideRun unprovenPart
  cases hplane : hasPlane r.planes p with
  | false =>
    rw [if_neg Bool.false_ne_true, if_neg Bool.false_ne_true, if_neg fun hc => Bool.false_ne_true hc.1]
    refine ⟨?_, .refl r.uid t⟩
    simp only [ite_self, List.append_nil, Bool.and_false, Bool.or_false]
    exact h
  | true =>
    have hrouted := h.sideDraw p f.draw[p] r.serials[p]
    have honly := (routeSideDraw_proverOnly p f.draw[p] r.serials[p] t).handsDraw r.uid
    have hunproven := routeSideDraw_unproven h p f.draw[p] r.serials[p]
    have hdraws : (draws.add p (sidePlace s p r.serials[p]) f.draw[p]) =
        fun q => draws q ++ if q = p then [(sidePlace s p r.serials[p], f.draw[p])] else [] := by
      funext q
      unfold Draws.add
      by_cases hq : q = p
      · rw [if_pos hq, if_pos hq, hq]
      · rw [if_neg hq, if_neg hq, List.append_nil]
    have hcounts : (fun q => decide (q = p) || counted q) = fun q => counted q || decide (q = p) && true :=
      funext fun q => by rw [Bool.and_true, Bool.or_comm]
    rw [if_pos rfl, if_pos rfl, ← hdraws, ← hcounts]
    dsimp only
    by_cases hflag : (routeSideDraw p f.draw[p] r.serials[p] t).2 = true
    · rw [if_pos hflag, if_pos ⟨rfl, hunproven.mp hflag⟩]
      have hflagged := (honly.trans (onSide_handsDraw r.uid p (routeSideDraw p f.draw[p] r.serials[p] t).1)).trans
        ((countReproof_proverOnly p _).handsDraw r.uid)
      have hkept : Routing s (draws.add p (sidePlace s p r.serials[p]) f.draw[p]) counted
          ((routeSideDraw p f.draw[p] r.serials[p] t).1.onSide r.uid fun x => { x with unproven := addPlane x.unproven p }) :=
        hrouted.kept rfl id
      rw [show (0 ||| 1#4 <<< p.val ||| 0 : PlaneSet) = 1#4 <<< p.val from
        (BitVec.or_zero).trans (BitVec.zero_or)] at hflagged
      exact ⟨hkept.count hp, hflagged⟩
    · rw [if_neg hflag, if_neg fun hc => hflag (hunproven.mpr hc.2)]
      exact ⟨hrouted.count hp, honly.trans ((countReproof_proverOnly p _).handsDraw r.uid)⟩

/-- The hand-over of the draws of some planes. -/
theorem foldl_handPlaneDraw (r : Side) (f : CloseFigures) (l : List Plane) (hl : l.Nodup) (h : Routing s draws counted t)
    (hcounted : ∀ p ∈ l, counted p = false) :
    Routing s (fun q => draws q ++ if q ∈ l then sideRun s r f q else [])
      (fun q => counted q || decide (q ∈ l) && hasPlane r.planes q) (l.foldl (handPlaneDraw r f) t) ∧
    HandsDraw r.uid ((l.map (unprovenPart s r)).foldr (· ||| ·) 0) t (l.foldl (handPlaneDraw r f) t) := by
  induction l generalizing t draws counted with
  | nil =>
    refine ⟨?_, .refl r.uid t⟩
    simp only [List.not_mem_nil, if_false, List.append_nil, decide_false, Bool.false_and, Bool.or_false]
    exact h
  | cons p l ih =>
    obtain ⟨hnot, hnodup⟩ := List.nodup_cons.mp hl
    obtain ⟨hp, hrest⟩ := List.forall_mem_cons.mp hcounted
    obtain ⟨hfirst, hhand⟩ := handPlaneDraw_routes r f h hp
    obtain ⟨hrun, hhands⟩ := ih hnodup hfirst fun q hq => by
      rw [hrest q hq, decide_eq_false (fun he : q = p => hnot (he ▸ hq))]
      rfl
    refine ⟨?_, hhand.trans hhands⟩
    have hdraws : (fun q => draws q ++ if q ∈ p :: l then sideRun s r f q else []) = fun q =>
        (draws q ++ if q = p then sideRun s r f p else []) ++ if q ∈ l then sideRun s r f q else [] := by
      funext q
      by_cases hq : q = p
      · subst hq
        rw [if_pos List.mem_cons_self, if_pos rfl, if_neg hnot, List.append_nil]
      · rw [if_neg hq, List.append_nil]
        simp only [List.mem_cons, hq, false_or]
    have hcounts : (fun q => counted q || decide (q ∈ p :: l) && hasPlane r.planes q) = fun q =>
        (counted q || decide (q = p) && hasPlane r.planes p) || decide (q ∈ l) && hasPlane r.planes q := by
      funext q
      by_cases hq : q = p
      · subst hq
        simp [hnot]
      · simp [hq]
    rw [hdraws, hcounts]
    exact hrun

end HandOver

theorem planesWhere_eq (f : Plane → Bool) :
    planesWhere f = (allPlanes.map fun p => if f p then 1#4 <<< p.val else 0).foldr (· ||| ·) 0 := by
  unfold planesWhere allPlanes addPlane
  simp only [List.foldl_cons, List.foldl_nil, List.map_cons, List.map_nil, List.foldr_cons, List.foldr_nil]
  generalize f 0 = a
  generalize f 1 = b
  generalize f 2 = c
  generalize f 3 = d
  revert a b c d
  decide

/-- The planes of a side whose draw goes to the unproven total (R155). -/
theorem unprovenPlanes_eq (s : State) (r : Side) :
    unprovenPlanes s r = (allPlanes.map (unprovenPart s r)).foldr (· ||| ·) 0 := by
  unfold unprovenPlanes
  rw [planesWhere_eq]
  refine congrArg (fun f => (allPlanes.map f).foldr (· ||| ·) 0) (funext fun p => if_congr ?_ rfl rfl)
  rw [Bool.and_eq_true]
  refine and_congr_right fun _ => ?_
  unfold sidePlace
  cases r.serials[p] with
  | none => exact iff_of_true rfl rfl
  | some v =>
    dsimp only
    by_cases hslot : s.cartridges.slots[p].verdict = .genuine ∧ s.cartridges.slots[p].serial = some v
    · rw [if_pos hslot, decide_eq_true hslot.1, decide_eq_true hslot.2]
      exact iff_of_false Bool.false_ne_true nofun
    · have hnot : (!(decide (s.cartridges.slots[p].verdict = .genuine) && decide (s.cartridges.slots[p].serial = some v))) =
          true := by
        rw [Bool.not_eq_true', ← Bool.not_eq_true, Bool.and_eq_true, decide_eq_true_eq, decide_eq_true_eq]
        exact hslot
      rw [if_neg hslot, hnot, Bool.true_and, List.all_eq_true]
      cases hk : s.cartridges.absent.findIdx? fun a => decide (a.serial = v) && decide (a.plane = p) with
      | some k =>
        refine iff_of_false (fun hall => ?_) nofun
        obtain ⟨hlt, hat, -⟩ := List.findIdx?_eq_some_iff_getElem.mp hk
        have := hall _ (List.getElem_mem hlt)
        rw [hat] at this
        cases this
      | none =>
        refine iff_of_true (fun a ha => ?_) rfl
        rw [List.findIdx?_eq_none_iff.mp hk a ha]
        rfl

/-- The draw of a closed side handed over (R110). -/
theorem handDraw_routes {draws : Draws} {counted : Plane → Bool} (r : Side) (f : CloseFigures) (h : Routing s draws counted t)
    (hcounted : ∀ p, counted p = false) :
    Routing s (fun q => draws q ++ sideRun s r f q) (fun q => hasPlane r.planes q) (handDraw r f t) ∧
    HandsDraw r.uid (unprovenPlanes s r) t (handDraw r f t) := by
  obtain ⟨hrun, hhands⟩ := foldl_handPlaneDraw r f allPlanes (by decide) h fun p _ => hcounted p
  have hmem : ∀ q : Plane, q ∈ allPlanes := by decide
  simp only [hmem, if_true, decide_true, Bool.true_and, hcounted, Bool.false_or] at hrun
  rw [unprovenPlanes_eq]
  exact ⟨hrun, hhands⟩

/-! ### The close (R108 to R110) -/

/-- The side list once the record of a side is marked as closed, before its draw is handed over. -/
def SideList.marked (l : SideList) (s : State) (r : Side) (o : SideOutcome) (charge : Nat) (capped : Bool) : SideList :=
  { l with
    settledOrder := l.settledOrder ++ [r.uid]
    records := l.records.map fun x =>
      if x.uid = r.uid then { x with
        state := .settled, outcome := some o, figures := some (closeFigures s.store.live r), charge := some charge, capped }
      else x }

/-- The side list once the record of a side is closed and settled. -/
def SideList.closed (l : SideList) (s : State) (r : Side) (o : SideOutcome) (charge : Nat) (capped : Bool) : SideList :=
  { l with
    settledOrder := l.settledOrder ++ [r.uid]
    records := l.records.map fun x => if x.uid = r.uid then closedRecord s r o charge capped x else x }

/-- The record of a closed side gains the planes whose draw is unproven. -/
theorem marked_withUnproven (s : State) (r : Side) (o : SideOutcome) (charge : Nat) (capped : Bool) (l : SideList) :
    { l.marked s r o charge capped with
      records := (l.marked s r o charge capped).records.map (Side.withUnproven r.uid (unprovenPlanes s r)) } =
      l.closed s r o charge capped := by
  unfold SideList.marked SideList.closed
  dsimp only
  rw [List.map_map]
  congr 1
  refine List.map_congr_left fun x _ => ?_
  unfold Side.withUnproven closedRecord
  by_cases hx : x.uid = r.uid
  · simp [hx]
  · simp [hx]

theorem chargeOf_eq (s : State) (r : Side) : chargeOf s.store.live r.reserve (closeFigures s.store.live r) =
    (min r.reserve (livePrice s r), decide (r.reserve < livePrice s r)) := by
  have hprice : s.store.live.prices[priceIndex (closeFigures s.store.live r).cls (closeFigures s.store.live r).tier] =
      livePrice s r := rfl
  unfold chargeOf
  dsimp only
  rw [hprice]
  by_cases h : r.reserve < livePrice s r
  · rw [if_pos h, decide_eq_true h, Nat.min_eq_left (Nat.le_of_lt h)]
  · rw [if_neg h, decide_eq_false h, Nat.min_eq_right (Nat.le_of_not_lt h)]

/-- A state with the settlement of a side in its record and its owner's account. -/
def State.settledWith (s : State) (r : Side) (sides : SideList) (u w : User) (m : Counters) : State :=
  { s with
    sides
    accounts := { s.accounts with
      users := put s.accounts.users r.userSlot (some w), meters := { s.accounts.meters with sides := m } }
    writer := { s.writer with userMap := warnedMap s.writer.userMap r.userSlot u.warned w.warned } }

theorem settleSide_charged {r : Side} {o : SideOutcome} {u : User} (ho : o ≠ .jammed)
    (hu : s.accounts.users[r.userSlot] = some u) (hcounts : ∀ k : Fin 8, u.counters[k] < 4294967295)
    (hmeters : ∀ k : Fin 8, s.accounts.meters.sides[k] < 4294967295) (hspent : u.spent + r.reserve ≤ 2 ^ 62) :
    settleSide r o s = s.settledWith r
      (s.sides.marked s r o (min r.reserve (livePrice s r)) (decide (r.reserve < livePrice s r))) u (settledUser s r u)
      (countedSide s r s.accounts.meters.sides) := by
  unfold settleSide
  dsimp only
  rw [if_neg ho, chargeOf_eq]
  exact settleAccount_charged (s := markSettled r.uid _ s) ho hu hcounts hmeters hspent

/-- The owner's record once a side is closed JAMMED (R115, R131). -/
def jammedUser (r : Side) (u : User) : User :=
  User.tested { u with hold := u.hold - r.reserve, counters := put u.counters 7 (u.counters[7] + 1) }

theorem settleSide_jammed {r : Side} {u : User} (hu : s.accounts.users[r.userSlot] = some u)
    (hcount : u.counters[7] < 4294967295) (hmeter : s.accounts.meters.sides[7] < 4294967295) :
    settleSide r .jammed s = s.settledWith r (s.sides.marked s r .jammed 0 false) u (jammedUser r u)
      (put s.accounts.meters.sides 7 (s.accounts.meters.sides[7] + 1)) := by
  unfold settleSide
  dsimp only
  rw [if_pos rfl]
  exact settleAccount_jammed (s := markSettled r.uid _ s) _ _ hu hcount hmeter

/-- The draw of a closed side leaves the settled state but for the prover and the planes whose draw is unproven. -/
theorem handDraw_closed {r : Side} {o : SideOutcome} {charge : Nat} {capped : Bool} (hcart : t.cartridges = s.cartridges)
    (hsides : t.sides = s.sides.marked s r o charge capped) :
    ∃ draws cartridges notices, handDraw r (closeFigures s.store.live r) t = { t with
      draws, cartridges, writer := { t.writer with notices }, sides := s.sides.closed s r o charge capped } ∧
    Routing s (sideRun s r (closeFigures s.store.live r)) (hasPlane r.planes)
      (handDraw r (closeFigures s.store.live r) t) := by
  obtain ⟨hrouting, draws, cartridges, notices, hstate⟩ := handDraw_routes r (closeFigures s.store.live r)
    (Routing.start hcart) fun _ => rfl
  rw [hsides, marked_withUnproven] at hstate
  exact ⟨draws, cartridges, notices, hstate, hrouting⟩

/-- A close whose job keeps its slot, from what its settlement leaves. -/
theorem closeSide_of_keeps {r : Side} {o : SideOutcome} {charge : Nat} {capped : Bool} {j : Job} {u w : User} {m : Counters}
    (hsettle : settleSide r o s = s.settledWith r (s.sides.marked s r o charge capped) u w m)
    (hj : s.jobs[r.jobSlot] = some j) (hkeeps : j.keepsSlot) (hroom : j.settled < 4294967295) :
    ∃ draws cartridges notices, closeSide r o s = { s.settledWith r (s.sides.closed s r o charge capped) u w m with
      draws, cartridges
      jobs := put s.jobs r.jobSlot (some { j with sides := j.sides - 1, settled := j.settled + 1 })
      writer := { s.writer with notices, userMap := warnedMap s.writer.userMap r.userSlot u.warned w.warned } } ∧
    Routing s (sideRun s r (closeFigures s.store.live r)) (hasPlane r.planes) (closeSide r o s) := by
  rw [closeSide_eq, hsettle]
  unfold afterSettlement
  rw [jobCounts_of_keeps (s := s.settledWith r (s.sides.marked s r o charge capped) u w m) hj hkeeps hroom]
  obtain ⟨draws, cartridges, notices, hstate, hrouting⟩ := handDraw_closed (s := s) (r := r) (o := o) (charge := charge)
    (capped := capped) (t := { s.settledWith r (s.sides.marked s r o charge capped) u w m with
      jobs := put s.jobs r.jobSlot (some { j with sides := j.sides - 1, settled := j.settled + 1 }) }) rfl rfl
  exact ⟨draws, cartridges, notices, hstate, hrouting⟩

end Sys2Proof.Machine
end

section

/-! PROOFS. SIDE JAM (R115), and what a close routes. -/

namespace Sys2Proof.Machine

variable {s t u : State} {p : Plane}

/-- The routing of draws sees of the state before it the cartridges alone. -/
theorem Routing.transfer {draws : Draws} {counted : Plane → Bool} (h : u.cartridges = s.cartridges)
    (hr : Routing u draws counted t) : Routing s draws counted t := by
  have hexcess : ∀ p, draws.excess u p = draws.excess s p := fun p => by
    unfold Draws.excess
    rw [h]
  have hreproof : ∀ p, reproofAfter u p = reproofAfter s p := fun p => by
    unfold reproofAfter
    rw [h]
  obtain ⟨hlength, hentry, hslot, htotals, hpolicy, hline, hpins, hnotice⟩ := hr
  simp only [h, hexcess, hreproof] at *
  exact ⟨hlength, hentry, hslot, htotals, hpolicy, hline, hpins, hnotice⟩

theorem sideRun_of_cartridges (h : u.cartridges = s.cartridges) (r : Side) (f : CloseFigures) :
    sideRun u r f = sideRun s r f := by
  unfold sideRun sidePlace
  rw [h]

theorem unprovenPlanes_of_cartridges (h : u.cartridges = s.cartridges) (r : Side) :
    unprovenPlanes u r = unprovenPlanes s r := by
  unfold unprovenPlanes
  rw [h]

/-- The draws of a closed side, as the statement of an event has them. -/
theorem sideDraws_run (s : State) (r : Side) (p : Plane) :
    ((sideDraws s r p).map fun x => (sidePlace s p x.2, x.1)).toList = sideRun s r (closeFigures s.store.live r) p := by
  unfold sideDraws sideRun
  cases hasPlane r.planes p <;> rfl

theorem sideDraws_isSome (s : State) (r : Side) (p : Plane) : (sideDraws s r p).isSome = hasPlane r.planes p := by
  unfold sideDraws
  cases hasPlane r.planes p <;> rfl

/-- Settles O48. -/
theorem sideJamChargesOnlyTheCartridges : Obligations.SideJamChargesOnlyTheCartridges := by
  intro s e rest r j w h _ hid hr hrid hj hkeeps hroom hu hcount hmeter
  obtain ⟨draws, cartridges, notices, hstate, hrouting⟩ := closeSide_of_keeps (s := popOrder rest s) (j := j)
    (settleSide_jammed (r := r) (u := w) (by rw [popOrder_accounts]; exact hu) hcount (by rw [popOrder_accounts]; exact hmeter))
    (by rw [popOrder_jobs]; exact hj) hkeeps hroom
  have hbody : sideJam e (popOrder rest s) = (.done (u16 r.id :: (closeFigures s.store.live r).coverage.toList.map u16),
      closeSide r .jammed (popOrder rest s)) := by
    unfold sideJam
    rw [if_neg hid, popOrder_meteringSide, hr]
    dsimp only
    rw [if_pos hrid, popOrder_store]
  obtain ⟨t, ht, hanswer, hgrows⟩ := grows_of_body (c := .sideJam) h rfl h.isKind hbody rfl (by rw [hstate]; rfl)
  have hrouted := hrouting.transfer (popOrder_cartridges rest s)
  rw [sideRun_of_cartridges (popOrder_cartridges rest s), popOrder_store] at hrouted
  have hclosed : (popOrder rest s).sides.closed (popOrder rest s) r .jammed 0 false = s.sides.closed s r .jammed 0 false := by
    unfold SideList.closed closedRecord
    rw [popOrder_sides, popOrder_store, unprovenPlanes_of_cartridges (popOrder_cartridges rest s)]
  have htable : ∀ {α : Type} (f : Ledger → α) (a : α), f { (closeSide r .jammed (popOrder rest s)).ledger with
      notices := t.writer.notices } = a → f t.ledger = a := fun f a ha => by rw [hgrows.1, ha]
  rw [hstate, hclosed] at htable
  refine ⟨t, ht, hanswer, htable Ledger.sides _ rfl, htable Ledger.jobs _ ?_, htable Ledger.accounts _ ?_,
    hrouted.drawRouted (fun p => ?_) (fun p => (sideDraws_isSome s r p).symm) hgrows, htable Ledger.mem _ (popOrder_mem rest s),
    htable Ledger.store _ (popOrder_store rest s), htable Ledger.classifier _ (popOrder_classifier rest s)⟩
  · rw [← popOrder_jobs rest s]
    rfl
  · rw [← popOrder_accounts rest s]
    rfl
  · rw [sideDraws_run]
    exact (List.append_nil _).symm

end Sys2Proof.Machine
end

section

/-! PROOFS. The side mark and the switch of a pending parameter set (R88, R89, R100 to R102). -/

namespace Sys2Proof.Machine

variable {s t z : State} {p : Plane}

/-! ### The switch (R89) -/

/-- The store once a pending copy is live. -/
def MeterStore.switched (m : MeterStore) : MeterStore :=
  match m.pending with
  | none => m
  | some c => { m with live := c.set, liveGen := m.stagedGen, pending := none }

/-- The completion of a parked order leaves the reset wait and everything but the taker's lists alone. -/
theorem completeParked_only (f : ParkObject → Bool) (r : Option Reason) (v : List Val) (s : State) :
    ∃ orders, s.completeParked f r v = { s with orders } ∧ orders.resetWait = s.orders.resetWait := by
  unfold State.completeParked
  split
  · exact ⟨_, rfl, rfl⟩
  · exact ⟨_, rfl, rfl⟩

/-- A pending METERS APPLY that the switch completes. -/
def SwitchesOrder (m : MeterStore) (o o' : OrderTaker) : Prop :=
  o'.resetWait = o.resetWait ∧
  ∀ (p : ParkedOrder) (before after : List ParkedOrder), m.pending.isSome → o.parked = before ++ p :: after →
    p.object = .switch → (∀ q ∈ before, q.object.isSwitch = false) →
    o' = { o with parked := before ++ after, completed := o.completed ++ [p.result none (switchVals m)] }

theorem switchPending_eq (s : State) : ∃ orders, switchPending s = { s with store := s.store.switched, orders } ∧
    SwitchesOrder s.store s.orders orders := by
  unfold switchPending MeterStore.switched
  cases hpending : s.store.pending with
  | none => exact ⟨_, rfl, rfl, fun _ _ _ hsome => by rw [hpending] at hsome; cases hsome⟩
  | some c =>
    dsimp only
    obtain ⟨orders, heq, hwait⟩ := completeParked_only ParkObject.isSwitch none (switchVals s.store)
      { s with store := { s.store with live := c.set, liveGen := s.store.stagedGen, pending := none } }
    refine ⟨orders, heq, hwait, fun p before after _ hparked hp hfirst => ?_⟩
    have hdone := completeParked_of_first
      (s := { s with store := { s.store with live := c.set, liveGen := s.store.stagedGen, pending := none } })
      (f := ParkObject.isSwitch) none (switchVals s.store) hparked (by rw [hp]; rfl) hfirst
    exact congrArg State.orders (heq.symm.trans hdone)

/-- The holding list once the pending METERS APPLY has completed at a switch. -/
theorem SwitchesOrder.moved {m : MeterStore} {o o' : OrderTaker} (h : SwitchesOrder m o o') {p : ParkedOrder}
    {before after : List ParkedOrder} (hsome : m.pending.isSome = true) (hparked : o.parked = before ++ p :: after)
    (hp : p.object = .switch) (hfirst : ∀ q ∈ before, q.object.isSwitch = false) (hroom : o.holding.length < 8)
    (hcompleted : o.completed = []) : o'.moved.parked = before ++ after ∧
      o'.moved.holding = o.holding ++ [p.result none (switchVals m)] := by
  rw [h.2 p before after hsome hparked hp hfirst, hcompleted, OrderTaker.moved_of_one
    (o := { o with parked := before ++ after, completed := [] ++ [p.result none (switchVals m)] }) rfl hroom]
  exact ⟨rfl, rfl⟩

/-- Settles O27. -/
theorem switchMakesThePendingCopyLive : Obligations.SwitchMakesThePendingCopyLive := by
  intro s c p before after hwait hpending hmetering hparked hp hfirst hroom hcompleted new
  obtain ⟨orders, hswitch, horders⟩ := switchPending_eq s
  have hrun : exec .metersSwitch s = .next (concludeEvent s (switchPending s)) := by
    change eventIf _ _ _ = _
    rw [hpending, hmetering]
    rfl
  obtain ⟨t, ht, hledger, ho⟩ := ends_of_state hrun (by rw [hswitch]) (horders.1.trans hwait) (by rw [hswitch]) rfl
  obtain ⟨hparked', hholding'⟩ := horders.moved (by rw [hpending]; rfl) hparked hp hfirst hroom hcompleted
  refine ⟨t, ht, ?_, by rw [ho]; exact hparked', by rw [ho]; exact hholding'⟩
  rw [hledger, hswitch, show s.store.switched = { live := c.set, liveGen := new, staged := s.store.staged, pending := none } by
    unfold MeterStore.switched
    rw [hpending]
    rfl]
  rfl

/-! ### The mark (R100) -/

/-- The mark once the side that was METERING is closed: the conversion, the switch, and the start. -/
def markEnd (z : State) : State :=
  let y := switchPending (convertUnattributed z)
  match y.oldestAdmitted with
  | some r => startSide r y
  | none => (countUnaccounted y).raise .unaccounted

theorem takeMark_markEnd (s : State) : takeMark s = markEnd (match s.meteringSide with
    | some r => closeSide r .short s
    | none => s) := rfl

/-- The record of a side as a mark starts it: `r` is the side it starts, in the state before the mark (R101). -/
def markStarted (s : State) (r : Side) (x : Side) : Side :=
  if x.uid = r.uid then
    { x with
      state := .metering
      generation := some s.store.switched.liveGen
      serials := Vector.ofFn fun p => if hasPlane r.planes p then s.cartridges.slots[p].serial else none
      context := some
        { planes := Vector.ofFn fun p => if hasPlane r.planes p then some { sum := 0, pixels := 0, lines := 0 } else none
          signature := 0xFFFFFFFF#32, saturated := false } }
  else x

/-- What a mark leaves of the state `z` in which its METERING side is closed. -/
structure MarkEnds (s z : State) (x : State) : Prop where
  state : ∃ draws cartridges notices orders sides unaccounted, x = { z with
    draws, cartridges, orders, sides
    unattributed := Vector.replicate 4 .reset
    store := s.store.switched
    accounts := { z.accounts with meters := { z.accounts.meters with unaccounted } }
    writer := { z.writer with notices } } ∧
    SwitchesOrder s.store s.orders orders ∧
    sides = { z.sides with records := match s.oldestAdmitted with
      | some r => z.sides.records.map (markStarted s r)
      | none => z.sides.records } ∧
    unaccounted = (if s.oldestAdmitted = none then min 4294967295 (z.accounts.meters.unaccounted + 1)
      else z.accounts.meters.unaccounted)
  unaccounted : s.oldestAdmitted = none → x.writer.notices.getLsbD 1 = true

/-- The conversion and the switch of a mark. -/
theorem convertedAndSwitched (z : State) : ∃ draws cartridges notices orders, switchPending (convertUnattributed z) =
    { z with
      draws, cartridges, orders
      unattributed := Vector.replicate 4 .reset
      store := z.store.switched
      writer := { z.writer with notices } } ∧ SwitchesOrder z.store z.orders orders := by
  obtain ⟨draws, cartridges, notices, hconvert⟩ := convertUnattributed_only z
  obtain ⟨orders, hswitch, hcompletes⟩ := switchPending_eq (convertUnattributed z)
  rw [hconvert] at hswitch hcompletes
  rw [hconvert]
  exact ⟨draws, cartridges, notices, orders, hswitch, hcompletes⟩

theorem switchPending_routing {draws : Draws} {counted : Plane → Bool} (h : Routing s draws counted z) :
    Routing s draws counted (switchPending z) := by
  obtain ⟨orders, hswitch, -⟩ := switchPending_eq z
  rw [hswitch]
  exact h.kept rfl id

theorem countUnaccounted_eq (s : State) : ∃ notices, (countUnaccounted s).raise .unaccounted = { s with
      accounts := { s.accounts with meters := { s.accounts.meters with
        unaccounted := min 4294967295 (s.accounts.meters.unaccounted + 1) } }
      writer := { s.writer with notices } } ∧ notices.getLsbD 1 = true ∧
    (s.writer.notices.getLsbD 3 = true → notices.getLsbD 3 = true) := by
  have hsat (n : Nat) : (addSat max32 n 1).1 = min 4294967295 (n + 1) := by
    unfold addSat max32
    split
    · exact (Nat.min_eq_left (Nat.le_of_lt ‹_›)).symm
    · exact (Nat.min_eq_right (Nat.le_of_not_lt ‹_›)).symm
  unfold countUnaccounted meterUp
  dsimp only
  rw [hsat]
  cases (addSat max32 s.accounts.meters.unaccounted 1).2 with
  | false => exact ⟨_, rfl, raise_getLsbD s .unaccounted, getLsbD_raise .unaccounted 3⟩
  | true =>
    exact ⟨_, rfl, raise_getLsbD (s.raise .saturation) .unaccounted, fun h =>
      getLsbD_raise (s := s.raise .saturation) .unaccounted 3 (getLsbD_raise .saturation 3 h)⟩

theorem markEnd_ends {draws : Draws} {counted : Plane → Bool} (h : Routing s draws counted z)
    (hrecords : z.unattributed = s.unattributed) (hstore : z.store = s.store) (horders : z.orders = s.orders)
    (holdest : z.oldestAdmitted = s.oldestAdmitted) : MarkEnds s z (markEnd z) ∧
      Routing s (fun p => draws p ++ [(unattributedPlace s p, conversionDraw s p)]) counted (markEnd z) := by
  have hrouted := switchPending_routing (convertUnattributed_routes h)
  have hdraw : ∀ p, unattributedDraw z p = conversionDraw s p := fun p => by
    unfold unattributedDraw
    rw [hrecords, hstore]
    rfl
  simp only [hdraw] at hrouted
  obtain ⟨draws', cartridges, notices, orders, hy, hcompletes⟩ := convertedAndSwitched z
  rw [hstore] at hy hcompletes
  rw [horders] at hcompletes
  unfold markEnd
  generalize switchPending (convertUnattributed z) = y at hy hrouted ⊢
  have hfound : y.oldestAdmitted = s.oldestAdmitted := by
    rw [hy, ← holdest]
    rfl
  dsimp only
  rw [hfound]
  cases hadmitted : s.oldestAdmitted with
  | some r =>
    dsimp only
    have hserials : recordSerials r.planes y =
        Vector.ofFn fun p => if hasPlane r.planes p then s.cartridges.slots[p].serial else none := by
      unfold recordSerials
      simp only [(hrouted.slot_verdict _).2.1]
    have hstart : startSide r y = { y with sides := { y.sides with records := y.sides.records.map (markStarted s r) } } := by
      unfold startSide State.onSide markStarted newContext
      rw [hserials, hy]
    refine ⟨⟨⟨draws', cartridges, notices, orders, { z.sides with records := z.sides.records.map (markStarted s r) },
      z.accounts.meters.unaccounted, hstart.trans ?_, hcompletes, by rw [hadmitted], by rw [hadmitted]; rfl⟩,
      fun hn => ?_⟩, ?_⟩
    · rw [hy]
    · rw [hadmitted] at hn
      cases hn
    · rw [hstart]
      exact hrouted.kept rfl id
  | none =>
    dsimp only
    obtain ⟨notices', hcount, hset, hkept⟩ := countUnaccounted_eq y
    refine ⟨⟨⟨draws', cartridges, notices', orders, z.sides, min 4294967295 (z.accounts.meters.unaccounted + 1),
      hcount.trans ?_, hcompletes, by rw [hadmitted], by rw [hadmitted]; rfl⟩, fun _ => ?_⟩, ?_⟩
    · rw [hy]
    · rw [hcount]
      exact hset
    · rw [hcount]
      exact hrouted.kept rfl hkept

/-- The live generation after a mark. -/
def markGeneration (s : State) : Nat := if s.store.pending.isSome then (s.store.liveGen + 1) % 65536 else s.store.liveGen

/-- What every mark leaves, whether or not it closes a side. -/
def Marked (s t : State) : Prop :=
  exec .sideMark s = .next t ∧
  (∀ p : Plane, t.unattributed[p] = { sum := 0, tally := 0, saturated := false }) ∧
  t.mem = s.mem ∧ t.classifier = s.classifier ∧ t.accounts.retired = s.accounts.retired ∧
  t.accounts.restore = s.accounts.restore ∧
  t.store = (match s.store.pending with
    | some c => { live := c.set, liveGen := markGeneration s, staged := s.store.staged, pending := none }
    | none => s.store) ∧
  t.accounts.meters = { s.accounts.meters with
    sides := t.accounts.meters.sides
    unaccounted := if s.oldestAdmitted = none then min 4294967295 (s.accounts.meters.unaccounted + 1)
      else s.accounts.meters.unaccounted } ∧
  (s.oldestAdmitted = none → t.writer.notices.getLsbD 1 = true) ∧
  (∀ (p : ParkedOrder) (before after : List ParkedOrder), s.store.pending.isSome →
    s.orders.parked = before ++ p :: after → p.object = .switch → (∀ q ∈ before, q.object.isSwitch = false) →
    s.orders.holding.length < 8 → s.orders.completed = [] →
    t.orders.parked = before ++ after ∧
    t.orders.holding = s.orders.holding ++
      [{ serial := p.serial, kind := p.kind, window := p.window, reason := none,
         values := [u16 s.store.liveGen, u16 (markGeneration s)] }])

theorem switched_eq (s : State) : s.store.switched = (match s.store.pending with
    | some c => { live := c.set, liveGen := markGeneration s, staged := s.store.staged, pending := none }
    | none => s.store) := by
  unfold MeterStore.switched markGeneration
  cases s.store.pending <;> rfl

theorem switched_liveGen (s : State) : s.store.switched.liveGen = markGeneration s := by
  unfold MeterStore.switched markGeneration
  cases s.store.pending <;> rfl

/-- The mark's event, from the state `z` in which its METERING side is closed. -/
theorem marked_of_ends {x : State} (hends : MarkEnds s z x) (hrun : takeMark s = x) (hwait : s.orders.resetWait = none)
    (hmem : z.mem = s.mem) (hclassifier : z.classifier = s.classifier) (hretired : z.accounts.retired = s.accounts.retired)
    (hrestore : z.accounts.restore = s.accounts.restore)
    (hmeters : z.accounts.meters = { s.accounts.meters with sides := z.accounts.meters.sides }) :
    ∃ t, Marked s t ∧ LedgerGrows x t := by
  obtain ⟨⟨draws, cartridges, notices, orders, sides, unaccounted, hx, hcompletes, -, hcount⟩, hnotice⟩ := hends
  have horders : x.orders = orders := by rw [hx]
  have hxwait : x.orders.resetWait = none := by rw [horders, hcompletes.1, hwait]
  have hexec : exec .sideMark s = .next (concludeEvent s x) := by
    rw [← hrun]
    rfl
  have hgrows := concludeEvent_ledgerGrows s hxwait
  have hafter : (concludeEvent s x).orders = orders.moved := by
    rw [concludeEvent_orders s x hxwait, moveCompleted_orders, horders]
  generalize concludeEvent s x = t at hexec hgrows hafter
  have htable : ∀ {α : Type} (f : Ledger → α) (a : α), f { x.ledger with notices := t.writer.notices } = a → f t.ledger = a :=
    fun f a ha => by rw [hgrows.1, ha]
  have haccounts : t.accounts = { z.accounts with meters := { z.accounts.meters with unaccounted } } :=
    htable Ledger.accounts _ (by rw [hx]; rfl)
  refine ⟨t, ⟨hexec, fun p => ?_, htable Ledger.mem _ (by rw [hx]; exact hmem),
    htable Ledger.classifier _ (by rw [hx]; exact hclassifier), by rw [haccounts]; exact hretired,
    by rw [haccounts]; exact hrestore, htable Ledger.store _ (by rw [hx]; exact switched_eq s), ?_,
    fun hn => hgrows.2 1 (hnotice hn), fun p before after hsome hparked hp hfirst hroom hcompleted => ?_⟩, hgrows⟩
  · rw [show t.unattributed = Vector.replicate 4 .reset from htable Ledger.unattributed _ (by rw [hx]; rfl)]
    fin_cases p <;> rfl
  · rw [haccounts, hcount, hmeters]
  · obtain ⟨hparked', hholding⟩ := hcompletes.moved hsome hparked hp hfirst hroom hcompleted
    rw [hafter, hparked', hholding]
    refine ⟨rfl, ?_⟩
    have hgen : s.store.stagedGen = markGeneration s := by
      unfold markGeneration
      rw [if_pos hsome]
      rfl
    rw [← hgen]
    rfl

/-- The side a mark starts is another than the one it closes. -/
theorem oldestAdmitted_ne_metering {r : Side} (h : SidesNumbered s.sides) (hr : s.meteringSide = some r) (a : Side)
    (ha : s.oldestAdmitted = some a) : a.uid ≠ r.uid := by
  intro he
  have hsame : a = r := List.inj_on_of_nodup_map h.distinct (List.mem_of_find?_eq_some ha) (meteringSide_mem hr) he
  have hadmitted : a.state = .admitted := by
    unfold State.oldestAdmitted at ha
    exact of_decide_eq_true (List.find?_some (p := fun r : Side => decide (r.state = .admitted)) ha)
  rw [hsame, meteringSide_state hr] at hadmitted
  cases hadmitted

/-- The close of the METERING side leaves the oldest ADMITTED side as it was. -/
theorem oldestAdmitted_closed {r : Side} {o : SideOutcome} {charge : Nat} {capped : Bool} (h : SidesNumbered s.sides)
    (hr : s.meteringSide = some r) (hz : z.sides = s.sides.closed s r o charge capped) :
    z.oldestAdmitted = s.oldestAdmitted := by
  have hstate : ∀ x ∈ s.sides.records, decide ((if x.uid = r.uid then closedRecord s r o charge capped x else x).state =
      .admitted) = decide (x.state = .admitted) := fun x hx => by
    by_cases he : x.uid = r.uid
    · have hsame : x = r := List.inj_on_of_nodup_map h.distinct hx (meteringSide_mem hr) he
      rw [if_pos he, hsame, meteringSide_state hr]
      rfl
    · rw [if_neg he]
  have hfind : z.oldestAdmitted = s.oldestAdmitted.map fun x =>
      if x.uid = r.uid then closedRecord s r o charge capped x else x := by
    unfold State.oldestAdmitted SideList.closed at *
    rw [hz]
    dsimp only
    rw [List.find?_map]
    exact congrArg _ (List.find?_congr hstate)
  rw [hfind]
  cases ha : s.oldestAdmitted with
  | none => rfl
  | some a =>
    rw [Option.map_some, if_neg (oldestAdmitted_ne_metering h hr a ha)]

/-- Settles O26. -/
theorem sideMarkStartsTheOldestSide : Obligations.SideMarkStartsTheOldestSide := by
  intro s hwait meters generation start marked
  have hgen : generation = markGeneration s := rfl
  have hstart : ∀ l : List Side, (match s.oldestAdmitted with
      | some r => l.map (markStarted s r)
      | none => l) = l.map start := fun l => by
    unfold start
    cases s.oldestAdmitted with
    | none => exact (List.map_id' l).symm
    | some r =>
      refine List.map_congr_left fun x _ => ?_
      unfold markStarted
      rw [switched_liveGen]
      rfl
  refine ⟨fun hnone => ?_, fun r j u hr hnumbered hj hkeeps hu hroom => ?_⟩
  · have hrun : takeMark s = markEnd s := by rw [takeMark_markEnd, hnone]
    obtain ⟨hends, hrouting⟩ := markEnd_ends (Routing.start (t := s) rfl) rfl rfl rfl rfl
    obtain ⟨t, ht, hgrows⟩ := marked_of_ends hends hrun hwait rfl rfl rfl rfl rfl
    obtain ⟨⟨draws, cartridges, notices, orders, sides, unaccounted, hx, -, hsides, -⟩, -⟩ := hends
    have htable : ∀ {α : Type} (f : Ledger → α) (a : α), f { (markEnd s).ledger with notices := t.writer.notices } = a →
        f t.ledger = a := fun f a ha => by rw [hgrows.1, ha]
    rw [hx] at htable
    refine ⟨t, ht, htable Ledger.jobs _ rfl, htable (fun l => l.accounts.users) _ rfl,
      htable (fun l => l.accounts.meters.sides) _ rfl, hrouting.drawRouted (fun _ => rfl) (fun _ => rfl) hgrows,
      htable Ledger.sides _ (hsides.trans ?_)⟩
    rw [hstart]
  · have hne : ∀ a, s.oldestAdmitted = some a → a.uid ≠ r.uid := oldestAdmitted_ne_metering hnumbered hr
    obtain ⟨draws, cartridges, notices, hz, hclosed⟩ := closeSide_of_keeps (j := j) (settleSide_charged (o := .short) nofun hu
      hroom.user hroom.meters hroom.spent) hj hkeeps hroom.settled
    have hrun : takeMark s = markEnd (closeSide r .short s) := by rw [takeMark_markEnd, hr]
    generalize closeSide r .short s = z at hz hclosed hrun
    have hzsides : z.sides = s.sides.closed s r .short (min r.reserve (livePrice s r)) (decide (r.reserve < livePrice s r)) := by
      rw [hz]
      rfl
    obtain ⟨hends, hrouting⟩ := markEnd_ends hclosed (by rw [hz]; rfl) (by rw [hz]; rfl) (by rw [hz]; rfl)
      (oldestAdmitted_closed hnumbered hr hzsides)
    obtain ⟨t, ht, hgrows⟩ := marked_of_ends hends hrun hwait (by rw [hz]; rfl) (by rw [hz]; rfl) (by rw [hz]; rfl)
      (by rw [hz]; rfl) (by rw [hz]; rfl)
    obtain ⟨⟨draws', cartridges', notices', orders, sides, unaccounted, hx, -, hsides, -⟩, -⟩ := hends
    have htable : ∀ {α : Type} (f : Ledger → α) (a : α), f { (markEnd z).ledger with notices := t.writer.notices } = a →
        f t.ledger = a := fun f a ha => by rw [hgrows.1, ha]
    rw [hx, hz] at htable
    have hrouted := hrouting.drawRouted (side := sideDraws s r) (rest := fun p => some (conversionDraw s p))
      (fun p => by rw [sideDraws_run]; rfl) (fun p => (sideDraws_isSome s r p).symm) hgrows
    refine ⟨t, ht, ⟨⟨htable (fun l => l.accounts.users) _ rfl, htable (fun l => l.accounts.meters.sides) _ rfl,
      htable Ledger.userMap _ rfl, hrouted⟩, htable Ledger.jobs _ rfl⟩, htable Ledger.sides _ (hsides.trans ?_)⟩
    rw [hstart, hzsides]
    unfold SideList.closed
    dsimp only
    rw [List.map_map]
    congr 1
    refine List.map_congr_left fun x _ => ?_
    dsimp only [Function.comp]
    by_cases hx : x.uid = r.uid
    · rw [if_pos hx, if_pos hx]
      unfold start
      cases ha : s.oldestAdmitted with
      | none => rfl
      | some a => exact if_neg fun he : x.uid = a.uid => hne a ha (he.symm.trans hx)
    · rw [if_neg hx, if_neg hx]

end Sys2Proof.Machine
end

section

/-! PROOFS. Orders that complete in the event that parks them, the removal of a region (R11), and the definition of one
(R10). -/

namespace Sys2Proof.Machine

variable {s x : State} {k : Byte} {e : OrderEntry} {rest : List OrderEntry} {c : Instr}

/-! ### Orders that complete at once -/

/-- The entry that an order parks. -/
def OrderEntry.parkedOn (e : OrderEntry) (o : ParkObject) : ParkedOrder :=
  { kind := e.kind, serial := e.serial, window := e.window, object := o }

/-- A body that parks its order and completes it in the same event. -/
theorem answered_of_completed {body : OrderEntry → State → OrderAnswer × State} {l : Ledger} (h : s.Executes k e rest)
    (hc : exec c s = runOrder (isKind k) body s) (hb : body e (popOrder rest s) = (.parked, x)) {o : ParkObject}
    {reason : Option Reason} {values : List Val} (ho : x.orders = { (popOrder rest s).orders with
      completed := [(e.parkedOn o).result reason values] })
    (hk : x.cartridges = (popOrder rest s).cartridges) (hl : x.ledger = l) :
    ∃ t, exec c s = .next t ∧ Answered s t e rest reason values ∧ t.ledger = l := by
  rw [popOrder_cartridges] at hk
  obtain ⟨t, ht, hledger, horders⟩ := ends_of_state (exec_of_parked h hc h.isKind hb) ho
    ((popOrder_resetWait rest s).trans h.noWait) hk hl
  have hroom : (popOrder rest s).orders.holding.length < 8 := by rw [popOrder_holding]; exact h.room
  replace horders := horders.trans (OrderTaker.moved_of_one (r := (e.parkedOn o).result reason values) rfl hroom)
  refine ⟨t, ht, ⟨leavesQueue_of_queue (by rw [horders]), ?_, [], ?_⟩, hledger⟩
  · rw [horders]
    exact popOrder_parked rest s
  · rw [horders, ← popOrder_holding rest s]
    rfl

theorem parkedFull_of_room (hcomp : s.orders.completed = []) (hroom : s.orders.parked.length < 8) : s.parkedFull = false :=
  decide_eq_false (by simp [OrderTaker.parkedCount, hcomp, hroom])

theorem hasParked_of_place {f : ParkObject → Bool} {before after : List ParkedOrder} {p : ParkedOrder}
    (hparked : s.orders.parked = before ++ p :: after) (hp : f p.object = true) : s.hasParked f = true := by
  unfold State.hasParked
  rw [hparked]
  exact List.any_eq_true.mpr ⟨p, by simp, hp⟩

theorem hasParked_of_none {f : ParkObject → Bool} (h : ∀ q ∈ s.orders.parked, f q.object = false) :
    s.hasParked f = false :=
  List.any_eq_false.mpr fun q hq => by rw [h q hq]; exact Bool.false_ne_true

/-! ### The removal of a region (R11) -/

theorem popOrder_planeMetering (rest : List OrderEntry) (s : State) (k : RegionKind) :
    (popOrder rest s).planeMetering k = s.planeMetering k := by
  unfold State.planeMetering
  rw [popOrder_meteringSide]

theorem popOrder_mergesOn (rest : List OrderEntry) (s : State) (uid : Nat) :
    (popOrder rest s).mergesOn uid = s.mergesOn uid := by
  unfold State.mergesOn
  rw [popOrder_merges]

/-- The job table once a region has left its binding (R11, R32). -/
def jobsWithout (s : State) (r : Region) : Vector (Option Job) 16 :=
  match r.state, r.job with
  | .live, some j => put s.jobs j (s.jobs[j].map fun x => { x with regions := x.regions - 1 })
  | _, _ => s.jobs

theorem isRegion_iff {i : Fin 32} {o : ParkObject} : ParkObject.isRegion i o = true ↔ o = .region i := by
  unfold ParkObject.isRegion
  split
  case h_1 j => simp
  case h_2 h => exact iff_of_false Bool.false_ne_true (h i)

theorem isRegion_false {i : Fin 32} {o : ParkObject} (h : o ≠ .region i) : ParkObject.isRegion i o = false :=
  Bool.eq_false_iff.mpr fun hi => h (isRegion_iff.mp hi)

theorem ledger_withTables (y : State) (classifier : Classifier) (jobs : Vector (Option Job) 16) (orders : OrderTaker) :
    State.ledger { y with classifier, jobs, orders } = { y.ledger with classifier, jobs } := rfl

/-- A removal whose region has no merge in flight frees the slot and completes its order (R11). -/
theorem attemptRemove_frees {i : Fin 32} {r : Region} (hr : s.classifier.regions[i] = some r)
    (hmerges : s.mergesOn r.uid = 0) (hplane : s.planeMetering r.kind = false) {before after : List ParkedOrder}
    {p : ParkedOrder} (hparked : s.orders.parked = before ++ p :: after) (hp : p.object = .region i)
    (hfirst : ∀ q ∈ before, q.object ≠ .region i) : attemptRemove i s = { s with
      classifier := { s.classifier with regions := put s.classifier.regions i none }
      jobs := jobsWithout s r
      orders := { s.orders with
        parked := before ++ after, completed := s.orders.completed ++ [p.result none (regionVals i r)] } } := by
  have hhas : s.hasParked (ParkObject.isRegion i) = true := hasParked_of_place hparked (isRegion_iff.mpr hp)
  have hcompletes := fun jobs => completeParked_of_first
    (s := { s with classifier := { s.classifier with regions := put s.classifier.regions i none }, jobs := jobs })
    (f := ParkObject.isRegion i) none (regionVals i r) hparked (isRegion_iff.mpr hp)
    fun q hq => isRegion_false (hfirst q hq)
  unfold attemptRemove
  rw [hr]
  dsimp only
  rw [if_pos ⟨hhas, hmerges⟩, hplane, if_neg Bool.false_ne_true]
  unfold jobsWithout
  cases r.state <;> cases r.job
  all_goals exact hcompletes _

theorem regionVals_eq (i : Fin 32) (r : Region) : regionVals i r =
    [u8 i.val, u8 (match r.state with | .live => 1 | .orphan => 2), u32 r.base, u32 r.size,
        u8 (match r.kind with | .priv => 0 | .band _ _ _ => 1)] ++
      (match r.job with
        | some k => [u8 1, u8 k.val]
        | none => [u8 0, u8 0]) ++
      [u16 r.refusals] ++
      (match r.kind with
        | .priv => [u8 0, u8 0, u16 0]
        | .band p d n => [u8 p.val, u8 d, u16 n]) := by
  unfold regionVals RegionKind.vals
  cases r.state <;> cases r.kind <;> cases r.job <;> rfl

/-- Settles O35. -/
theorem regionRemovalFreesTheSlot : Obligations.RegionRemovalFreesTheSlot := by
  intro s i r hr hmerges hplane hcomp hroom hwait freed values
  have hfreed : ∀ y : State, y.ledger = s.ledger → y.classifier = s.classifier → y.jobs = s.jobs → ∀ orders : OrderTaker,
      State.ledger { y with
        classifier := { y.classifier with regions := put y.classifier.regions i none }
        jobs := jobsWithout y r, orders := orders } = freed := fun y hy hcl hj orders => by
    have hjobs : jobsWithout y r = jobsWithout s r := by
      unfold jobsWithout
      rw [hj]
    rw [hjobs, hcl, ledger_withTables, hy]
    rfl
  have hvalues : regionVals i r = values := regionVals_eq i r
  refine ⟨fun e rest h hslot hnone hless => ?_, fun p before after hparked hp hfirst => ?_⟩
  · have hremove := attemptRemove_frees (s := (popOrder rest s).park e (.region i)) (i := i) (r := r)
      (p := e.parkedOn (.region i)) (before := s.orders.parked) (after := []) ((popOrder_classifier rest s) ▸ hr)
      ((popOrder_mergesOn rest s r.uid).trans hmerges)
      ((popOrder_planeMetering rest s r.kind).trans hplane)
      (congrArg (· ++ _) (popOrder_parked rest s)) rfl hnone
    rw [hvalues] at hremove
    have hbody : regionRemove e (popOrder rest s) = (.parked, attemptRemove i ((popOrder rest s).park e (.region i))) := by
      unfold regionRemove
      rw [hslot, indexOf_val]
      dsimp only
      rw [popOrder_classifier, hr]
      dsimp only
      rw [popOrder_hasParked, hasParked_of_none fun q hq => isRegion_false (hnone q hq),
        popOrder_parkedFull, parkedFull_of_room hcomp hless, popOrder_planeMetering, hplane]
      rfl
    rw [hremove] at hbody
    refine answered_of_completed (o := .region i) (c := .regionRemove) h rfl hbody ?_ rfl
      (hfreed _ (popOrder_ledger rest s) (popOrder_classifier rest s) (popOrder_jobs rest s) _)
    simp [State.park, hcomp, OrderEntry.parkedOn]
  · have hremove := attemptRemove_frees hr hmerges hplane hparked hp hfirst
    rw [hvalues, hcomp, List.nil_append] at hremove
    obtain ⟨t, ht, hledger, horders⟩ := ends_of_state (c := .regionRemoveAttempt i) (s := s)
      (x := attemptRemove i s) rfl (congrArg State.orders hremove) hwait ((congrArg State.cartridges hremove).trans rfl)
      ((congrArg State.ledger hremove).trans (hfreed s rfl rfl rfl _))
    replace horders := horders.trans (OrderTaker.moved_of_one (r := p.result none values) rfl hroom)
    exact ⟨t, ht, hledger, congrArg OrderTaker.parked horders, congrArg OrderTaker.holding horders⟩

end Sys2Proof.Machine
end

section

/-! PROOFS. REGION DEFINE: the eight checks in their order, and the record that it installs (R10). -/

namespace Sys2Proof.Machine

variable {s : State} {e : OrderEntry}

/-! ### Checks that decide conditions -/

/-- A check decides a condition, under the same reason. -/
def Decides (check : Reason × Bool) (fault : Reason × Prop) : Prop := check.1 = fault.1 ∧ (check.2 = true ↔ fault.2)

theorem firstFailure_of_fault {checks : List (Reason × Bool)} {before after : List (Reason × Prop)} {reason : Reason}
    {fails : Prop} (h : List.Forall₂ Decides checks (before ++ (reason, fails) :: after)) (hbefore : ∀ x ∈ before, ¬x.2)
    (hfails : fails) : firstFailure checks = some reason := by
  induction before generalizing checks with
  | nil =>
    cases h with
    | @cons x _ l _ hx _ => exact (if_pos (hx.2.mpr hfails)).trans (congrArg some hx.1)
  | cons y before ih =>
    obtain ⟨hy, hbefore⟩ := List.forall_mem_cons.mp hbefore
    cases h with
    | @cons x _ l _ hx hl =>
      exact (if_neg fun hx2 => hy (hx.2.mp hx2)).trans (ih hl hbefore)

theorem firstFailure_of_none {checks : List (Reason × Bool)} {faults : List (Reason × Prop)}
    (h : List.Forall₂ Decides checks faults) (hnone : ∀ x ∈ faults, ¬x.2) : firstFailure checks = none := by
  induction h with
  | nil => rfl
  | cons hx _ ih =>
    obtain ⟨hy, hnone⟩ := List.forall_mem_cons.mp hnone
    exact (if_neg fun hx2 => hy (hx.2.mp hx2)).trans (ih hnone)

/-! ### Tables of slots -/

theorem any_slots {α : Type} {n : Nat} (v : Vector (Option α) n) (f : Option α → Bool) (hf : f none = false) :
    v.toList.any f = true ↔ ∃ i : Fin n, ∃ a ∈ v[i], f (some a) = true := by
  rw [List.any_eq_true]
  constructor
  · rintro ⟨x, hx, hfx⟩
    obtain ⟨i, hi, rfl⟩ := Vector.mem_iff_getElem.mp (Vector.mem_toList_iff.mp hx)
    cases hv : v[i] with
    | none => rw [hv, hf] at hfx; cases hfx
    | some a => exact ⟨⟨i, hi⟩, a, hv, hv ▸ hfx⟩
  · rintro ⟨i, a, ha, hfa⟩
    exact ⟨some a, mem_toList_of_slot ha, hfa⟩

theorem jobWithTag_none {tag : Nat} : s.jobWithTag tag = none ↔ ∀ k : Fin 16, ∀ j ∈ s.jobs[k], j.tag ≠ tag := by
  unfold State.jobWithTag firstIndex
  rw [List.find?_eq_none]
  constructor
  · intro h k j hj
    have := h k (List.mem_finRange k)
    rw [show s.jobs[k] = some j from hj] at this
    exact fun ht => this (decide_eq_true ht)
  · intro h k _
    cases hj : s.jobs[k] with
    | none => exact Bool.false_ne_true
    | some j => exact fun ht => h k j hj (of_decide_eq_true ht)

/-! ### The eight checks (R10) -/

theorem rangesMeet_iff (a n b m : Nat) : rangesMeet a n b m = true ↔ a < b + m ∧ b < a + n := by
  simp [rangesMeet]

theorem slotInUse_iff (f : RegionForm) (c : Classifier) :
    (match indexOf 32 f.slot with | some i => c.regions[i].isSome | none => false) = true ↔
      ∃ i : Fin 32, f.slot = i.val ∧ c.regions[i] ≠ none := by
  by_cases h : f.slot < 32
  · obtain ⟨i, hi⟩ : ∃ i : Fin 32, f.slot = i.val := ⟨⟨f.slot, h⟩, rfl⟩
    rw [hi, indexOf_val]
    refine Option.isSome_iff_ne_none.trans ⟨fun hne => ⟨i, rfl, hne⟩, ?_⟩
    rintro ⟨k, hk, hne⟩
    rwa [Fin.ext hk]
  · rw [indexOf_none (Nat.le_of_not_lt h)]
    exact iff_of_false Bool.false_ne_true fun ⟨i, hi, _⟩ => h (hi ▸ i.isLt)

theorem overlaps_iff (f : RegionForm) (c : Classifier) : f.overlaps c = true ↔
    (f.base < c.controlBase + 512 ∧ c.controlBase < f.base + f.size) ∨
      ∃ i : Fin 32, ∃ r ∈ c.regions[i], f.base < r.base + r.size ∧ r.base < f.base + f.size := by
  unfold RegionForm.overlaps
  rw [Bool.or_eq_true, rangesMeet_iff, any_slots _ _ rfl]
  simp only [rangesMeet_iff]

theorem jobMissing_iff (f : RegionForm) (s : State) : (f.tag.isSome && (f.jobSlot s).isNone) = true ↔
    ∃ n, f.tag = some n ∧ ∀ k : Fin 16, ∀ j ∈ s.jobs[k], j.tag ≠ n := by
  unfold RegionForm.jobSlot
  cases f.tag with
  | none => simp
  | some n => simp [jobWithTag_none]

theorem jobNotActive_iff (f : RegionForm) (s : State) : f.jobNotActive s = true ↔
    ∃ n k j, f.tag = some n ∧ s.jobWithTag n = some k ∧ s.jobs[k] = some j ∧ j.state ≠ .active := by
  unfold RegionForm.jobNotActive RegionForm.jobSlot
  cases f.tag with
  | none => simp
  | some n =>
    rw [Option.bind_some]
    cases hk : s.jobWithTag n with
    | none => simp [hk]
    | some k =>
      obtain ⟨j, hj, -⟩ := jobWithTag_some hk
      dsimp only
      rw [hj]
      refine decide_eq_true_iff.trans ⟨fun hstate => ⟨n, k, j, rfl, hk, hj, hstate⟩, ?_⟩
      rintro ⟨n', k', j', hn, hk', hj', hstate⟩
      cases hn
      cases hk.symm.trans hk'
      cases hj.symm.trans hj'
      exact hstate

theorem goodGeometry_false (d n size : Nat) : (!goodGeometry d n size) = true ↔
    (d ≠ 1 ∧ d ≠ 2 ∧ d ≠ 4 ∧ d ≠ 8) ∨ n * (512 / d) < 2048 ∨ 65536 < n * (512 / d) ∨ size % n ≠ 0 ∨ size < 8 * n := by
  simp [goodGeometry, or_assoc]

theorem mismatches_iff (f : RegionForm) (c : Classifier) : f.mismatches c = true ↔
    ∃ i : Fin 32, ∃ r ∈ c.regions[i], ∃ p d n, r.kind = .band p d n ∧
      p.val = f.plane ∧ (d ≠ f.depth ∨ n ≠ f.rowLength) := by
  unfold RegionForm.mismatches
  rw [any_slots _ _ rfl]
  refine exists_congr fun i => exists_congr fun r => and_congr_right fun _ => ?_
  obtain ⟨uid, state, base, size, kind, job, refusals⟩ := r
  cases kind <;> simp

/-- The checks of REGION DEFINE decide the faults of R10, in their order. -/
theorem checks_decide (s : State) (e : OrderEntry) :
    List.Forall₂ Decides (e.regionForm.checks s) (regionFaults s e e.regionForm.tag) := by
  unfold RegionForm.checks regionFaults
  refine .cons ⟨rfl, ?_⟩ (.cons ⟨rfl, slotInUse_iff _ _⟩ (.cons ⟨rfl, decide_eq_true_iff⟩ (.cons ⟨rfl, overlaps_iff _ _⟩
    (.cons ⟨rfl, jobMissing_iff _ _⟩ (.cons ⟨rfl, jobNotActive_iff _ _⟩ (.cons ⟨rfl, ?_⟩ (.cons ⟨rfl, ?_⟩ .nil)))))))
  · simp only [RegionForm.badArg, OrderEntry.regionForm, Bool.or_eq_true, Bool.and_eq_true, or_assoc]
    exact or_congr decide_eq_true_iff (or_congr decide_eq_true_iff (or_congr decide_eq_true_iff
      (or_congr decide_eq_true_iff (and_congr decide_eq_true_iff (or_congr decide_eq_true_iff decide_eq_true_iff)))))
  · rw [Bool.and_eq_true, goodGeometry_false, decide_eq_true_iff]
    rfl
  · rw [Bool.and_eq_true, mismatches_iff, decide_eq_true_iff]
    rfl

theorem checks_popOrder (f : RegionForm) (rest : List OrderEntry) (s : State) :
    f.checks (popOrder rest s) = f.checks s := by
  unfold RegionForm.checks RegionForm.jobNotActive RegionForm.jobSlot
  simp only [popOrder_classifier, popOrder_jobs, funext (popOrder_jobWithTag rest s)]

/-! ### The record -/

theorem regionForm_tag {tag : Option Nat}
    (h : (e.byte 13 = 0#8 ∧ tag = none) ∨ (e.byte 13 = 1#8 ∧ tag = some (e.num 14 2))) : e.regionForm.tag = tag := by
  rcases h with ⟨hflag, rfl⟩ | ⟨hflag, rfl⟩
  · exact if_neg (by rw [OrderEntry.flag_of_zero hflag]; exact Bool.false_ne_true)
  · exact if_pos (OrderEntry.flag_of_one hflag)

theorem installRegion_eq (i : Fin 32) (r : Region) (s : State) : installRegion i r s = { s with
    classifier := { s.classifier with
      regions := put s.classifier.regions i (some r), nextUid := s.classifier.nextUid + 1 }
    jobs := match r.job with
      | some k => put s.jobs k (s.jobs[k].map fun j => { j with regions := j.regions + 1 })
      | none => s.jobs } := by
  unfold installRegion
  cases r.job <;> rfl

/-- Settles O34. -/
theorem regionDefineInstallsOrRefuses : Obligations.RegionDefineInstallsOrRefuses := by
  intro s e rest tag h htag
  rw [← regionForm_tag htag]
  have hdecide := checks_decide s e
  refine ⟨fun before reason fails after hsplit hbefore hfails => ?_, fun slot hslot hnone => ?_⟩
  · have hfirst := firstFailure_of_fault (hsplit ▸ hdecide) hbefore hfails
    refine refusedBy_of_refused h rfl ?_
    unfold regionDefine
    dsimp only
    by_cases hslot : e.regionForm.slot < 32
    · unfold indexOf
      rw [dif_pos hslot]
      dsimp only
      unfold checked
      rw [checks_popOrder, hfirst]
    · have hbad : firstFailure (e.regionForm.checks s) = some .badArg := by
        refine if_pos ?_
        have : 31 < e.regionForm.slot := by omega
        simp [RegionForm.badArg, this]
      rw [hfirst] at hbad
      cases hbad
      unfold indexOf
      rw [dif_neg hslot]
  · have hchecks := firstFailure_of_none hdecide hnone
    have hbody : regionDefine e (popOrder rest s) =
        (.done [u8 slot.val], installRegion slot (e.regionForm.record (popOrder rest s)) (popOrder rest s)) := by
      unfold regionDefine
      dsimp only
      rw [show e.regionForm.slot = slot.val from hslot, indexOf_val]
      dsimp only
      unfold checked
      rw [checks_popOrder, hchecks]
    have hrecord : e.regionForm.record (popOrder rest s) = e.regionForm.record s := by
      unfold RegionForm.record RegionForm.jobSlot
      rw [popOrder_classifier, funext (popOrder_jobWithTag rest s)]
    rw [hrecord, installRegion_eq] at hbody
    refine done_of_body (c := .regionDefine) h rfl hbody rfl rfl ?_
    refine (ledger_withTables (popOrder rest s) _ _ (popOrder rest s).orders).trans ?_
    rw [popOrder_ledger, popOrder_classifier, popOrder_jobs]
    rfl

end Sys2Proof.Machine
end

section

/-! PROOFS. JOB CLOSE: the completion of a close (R38) and the sides that it voids (R36). -/

namespace Sys2Proof.Machine

variable {s : State} {i : Fin 16} {j : Job}

/-! ### The completion of a close (R37, R38) -/

/-- The job's work is done and its close waits for nothing (R37). -/
def Job.finished (j : Job) : Prop := j.state = .closing ∧ j.sides = 0 ∧ j.merges = 0 ∧ j.lines = 0

theorem attemptClose_of_finished (hj : s.jobs[i] = some j) (hdone : j.finished) :
    attemptClose i s = completeClose i j s := by
  unfold attemptClose
  rw [hj]
  exact if_pos hdone

/-- What the completion of a close leaves, but for its result (R38). -/
def closedBy (i : Fin 16) (s : State) (orders : OrderTaker) : State :=
  { s with
    classifier := { s.classifier with
      regions := s.classifier.regions.map fun (x : Option Region) => x.map (orphanRegion i) }
    jobs := put s.jobs i none
    orders }

theorem isJob_iff {i : Fin 16} {o : ParkObject} : ParkObject.isJob i o = true ↔ ∃ n, o = .job i n := by
  unfold ParkObject.isJob
  split
  case h_1 k n => simp [eq_comm]
  case h_2 h => exact iff_of_false Bool.false_ne_true fun ⟨n, hn⟩ => h i n hn

theorem voidedByClose_of_first {o : OrderTaker} {before after : List ParkedOrder} {p : ParkedOrder} {voided : Nat}
    (hparked : o.parked = before ++ p :: after) (hp : p.object = .job i voided)
    (hfirst : ∀ q ∈ before, q.object.isJob i = false) : voidedByClose i o = voided := by
  obtain ⟨kind, serial, window, object⟩ := p
  cases hp
  unfold voidedByClose
  rw [hparked, find?_first (f := fun q : ParkedOrder => q.object.isJob i) (isJob_iff.mpr ⟨voided, rfl⟩) hfirst]

/-- A completion attempt that succeeds, with the JOB CLOSE that waits for it (R38). -/
theorem attemptClose_completes (hj : s.jobs[i] = some j) (hdone : j.finished) {before after : List ParkedOrder}
    {p : ParkedOrder} {voided : Nat} (hparked : s.orders.parked = before ++ p :: after)
    (hp : p.object = .job i voided) (hfirst : ∀ q ∈ before, q.object.isJob i = false) :
    attemptClose i s = closedBy i s { s.orders with
      parked := before ++ after
      completed := s.orders.completed ++ [p.result none
        [u8 i.val, u16 j.tag, u8 j.kind.code, u32 (s.userId j.owner), u32 j.enciphered, u32 j.settled, u8 voided,
          u8 (boundRegions i s.classifier.regions)]] } := by
  have hvals : closeVals i j s =
      [u8 i.val, u16 j.tag, u8 j.kind.code, u32 (s.userId j.owner), u32 j.enciphered, u32 j.settled, u8 voided,
        u8 (boundRegions i s.classifier.regions)] := by
    unfold closeVals
    rw [voidedByClose_of_first hparked hp hfirst]
  have hcompletes := completeParked_of_first (s := closedBy i s s.orders) (f := ParkObject.isJob i) none (closeVals i j s)
    hparked (isJob_iff.mpr ⟨voided, hp⟩) hfirst
  rw [attemptClose_of_finished hj hdone]
  exact hcompletes.trans (by rw [hvals]; rfl)

/-- After an attempt a further one does nothing. -/
theorem attemptClose_attemptClose (i : Fin 16) (s : State) : attemptClose i (attemptClose i s) = attemptClose i s := by
  by_cases hdone : ∃ j, s.jobs[i] = some j ∧ j.finished
  · obtain ⟨j, hj, hdone⟩ := hdone
    have hnone : (attemptClose i s).jobs[i] = none := by
      rw [attemptClose_of_finished hj hdone]
      unfold completeClose State.completeParked
      split <;> exact put_same _ _ _
    generalize attemptClose i s = t at hnone ⊢
    unfold attemptClose
    rw [hnone]
  · have hsame : attemptClose i s = s := by
      cases hj : s.jobs[i] with
      | none =>
        unfold attemptClose
        rw [hj]
      | some j => exact attemptClose_of_open hj fun h => hdone ⟨j, hj, h⟩
    rw [hsame, hsame]

/-! ### Several sides are voided (R36, R114) -/

/-- A side is voided, but for the completion attempt of its job. -/
def voidOnly (s : State) (r : Side) : State :=
  markSettled r.uid (fun x => { x with outcome := some .voided }) (resetSide s r)

theorem voidSide_attempt {r : Side} (h : r.state ≠ .settled) (s : State) :
    voidSide r s = attemptClose r.jobSlot (voidOnly s r) := by
  rw [voidSide_eq]
  unfold voidOnly resetSide sideLeaves
  rw [if_neg h]
  rfl

theorem resetSide_jobs {r : Side} (h : r.state ≠ .settled) (hslot : r.jobSlot = i) (hj : s.jobs[i] = some j) :
    (resetSide s r).jobs = put s.jobs i (some { j with sides := j.sides - 1 }) := by
  unfold resetSide
  rw [if_neg h, warningTest_releaseHold, hslot]
  change put s.jobs i (s.jobs[i].map _) = _
  rw [hj]
  rfl

theorem voidOnly_jobs {r : Side} (h : r.state ≠ .settled) (hslot : r.jobSlot = i) (hj : s.jobs[i] = some j) :
    (voidOnly s r).jobs = put s.jobs i (some { j with sides := j.sides - 1 }) := resetSide_jobs h hslot hj

/-- Between two voids of a job's sides the job has work left, so that one attempt after the last void is as good as one
after each. -/
theorem foldl_voidSide {l : List Side} (hstate : ∀ r ∈ l, r.state ≠ .settled) (hslot : ∀ r ∈ l, r.jobSlot = i)
    (hj : s.jobs[i] = some j) (hcount : l.length ≤ j.sides) :
    attemptClose i (l.foldl (fun s r => voidSide r s) s) = attemptClose i (l.foldl voidOnly s) := by
  induction l generalizing s j with
  | nil => rfl
  | cons r l ih =>
    obtain ⟨hr, hstate⟩ := List.forall_mem_cons.mp hstate
    obtain ⟨hri, hslot⟩ := List.forall_mem_cons.mp hslot
    rw [List.length_cons] at hcount
    have hvoid := voidSide_attempt hr s
    rw [hri] at hvoid
    have hj' : (voidOnly s r).jobs[i] = some { j with sides := j.sides - 1 } := by
      rw [voidOnly_jobs hr hri hj]
      exact put_same _ _ _
    cases l with
    | nil => exact (congrArg (attemptClose i) hvoid).trans (attemptClose_attemptClose i _)
    | cons r' l =>
      rw [List.length_cons] at hcount
      rw [attemptClose_of_open hj' fun ⟨_, hsides, _⟩ => absurd hsides (by change j.sides - 1 ≠ 0; omega)] at hvoid
      rw [List.foldl_cons, hvoid]
      exact ih hstate hslot hj' (by rw [List.length_cons]; change _ ≤ j.sides - 1; omega)

/-- The side list in which the sides of a list are marked VOIDED, in their order. -/
def SideList.voided (x : SideList) (l : List Side) : SideList :=
  { x with
    settledOrder := x.settledOrder ++ l.map Side.uid
    records := x.records.map fun r =>
      if r.uid ∈ l.map Side.uid then { r with state := .settled, outcome := some .voided } else r }

theorem SideList.voided_cons (x : SideList) (r : Side) (l : List Side) :
    x.voided (r :: l) = ({ x with
      settledOrder := x.settledOrder ++ [r.uid]
      records := x.records.map fun y =>
        if y.uid = r.uid then { y with state := .settled, outcome := some .voided } else y } : SideList).voided l := by
  unfold SideList.voided
  rw [List.map_cons, List.append_assoc, List.singleton_append, List.map_map]
  congr 1
  refine List.map_congr_left fun y _ => ?_
  by_cases hy : y.uid = r.uid
  · by_cases hl : r.uid ∈ l.map Side.uid
    · simp [hy, hl]
    · simp [hy, hl]
  · simp [hy]

theorem resetSide_withSides (x : SideList) (r : Side) (s : State) :
    resetSide { s with sides := x } r = { resetSide s r with sides := x } := by
  unfold resetSide
  split
  · rfl
  · rw [warningTest_releaseHold, warningTest_releaseHold]
    rfl

theorem foldl_voidOnly (l : List Side) (x : SideList) (s : State) :
    l.foldl voidOnly { s with sides := x } = { l.foldl resetSide s with sides := x.voided l } := by
  induction l generalizing x s with
  | nil => simp [SideList.voided]
  | cons r l ih =>
    rw [List.foldl_cons, List.foldl_cons, SideList.voided_cons, ← ih]
    congr 1
    unfold voidOnly markSettled State.onSide
    rw [resetSide_withSides]

theorem foldl_resetSide_jobs {l : List Side} (hstate : ∀ r ∈ l, r.state ≠ .settled) (hslot : ∀ r ∈ l, r.jobSlot = i)
    (hj : s.jobs[i] = some j) :
    (l.foldl resetSide s).jobs = put s.jobs i (some { j with sides := j.sides - l.length }) := by
  induction l generalizing s j with
  | nil =>
    have := put_self s.jobs i
    rw [hj] at this
    exact this.symm
  | cons r l ih =>
    obtain ⟨hr, hstate⟩ := List.forall_mem_cons.mp hstate
    obtain ⟨hri, hslot⟩ := List.forall_mem_cons.mp hslot
    have hjobs := resetSide_jobs hr hri hj
    rw [List.foldl_cons, ih hstate hslot (j := { j with sides := j.sides - 1 }) (by rw [hjobs]; exact put_same _ _ _), hjobs,
      put_put, List.length_cons, Nat.sub_sub, Nat.add_comm 1]

/-- The account table once the sides of a list have left their owners' holds (R114). -/
def AccountTable.released (a : AccountTable) (l : List Side) : AccountTable :=
  { a with users := Vector.ofFn fun k => (a.users[k]).map (releasedUser l k) }

/-- What the voids of a job's sides leave, while every user below the warn level is WARNED (R36, R114). -/
theorem foldl_voidOnly_eq {l : List Side} (hstate : ∀ r ∈ l, r.state ≠ .settled) (hslot : ∀ r ∈ l, r.jobSlot = i)
    (hj : s.jobs[i] = some j) (hwarn : WarningsSet s) : l.foldl voidOnly s = { s with
      sides := s.sides.voided l, accounts := s.accounts.released l
      jobs := put s.jobs i (some { j with sides := j.sides - l.length }) } := by
  have hfilter : (l.filter fun r => decide (r.state ≠ .settled)) = l :=
    List.filter_eq_self.mpr fun r hr => decide_eq_true (hstate r hr)
  have hjobs := foldl_resetSide_jobs hstate hslot hj
  obtain ⟨jobs, users, map, hfold, -, husers, ⟨-, hmap⟩, -⟩ := foldl_resetSide l s
  rw [hfilter] at husers
  rw [hmap hwarn] at hfold
  rw [hfold] at hjobs
  cases hjobs
  have husers' : users = (s.accounts.released l).users :=
    Vector.ext fun n hn => (husers ⟨n, hn⟩).trans (by simp [AccountTable.released])
  rw [husers'] at hfold
  refine (foldl_voidOnly l s.sides s).trans ?_
  rw [hfold]
  rfl

/-- The records that a JOB CLOSE voids are told apart from the others by their numbers. -/
theorem voided_admitted (h : SidesNumbered s.sides) (i : Fin 16) : s.sides.voided (s.admittedOf i) = { s.sides with
    settledOrder := s.sides.settledOrder ++ (s.admittedOf i).map Side.uid
    records := s.sides.records.map fun r =>
      if r.state = .admitted ∧ r.jobSlot = i then { r with state := .settled, outcome := some .voided } else r } := by
  unfold SideList.voided
  congr 1
  refine List.map_congr_left fun r hr => ?_
  refine if_congr ?_ rfl rfl
  constructor
  · intro hmem
    obtain ⟨x, hx, huid⟩ := List.mem_map.mp hmem
    obtain ⟨hx, htest⟩ := List.mem_filter.mp hx
    obtain rfl := List.inj_on_of_nodup_map h.distinct hx hr huid
    simpa using htest
  · intro htest
    exact List.mem_map_of_mem (List.mem_filter.mpr ⟨hr, by simpa using htest⟩)

/-! ### JOB CLOSE (R34) -/

@[simp] theorem SideList.voided_nil (x : SideList) : x.voided [] = x := by
  simp [SideList.voided]

@[simp] theorem AccountTable.released_nil (a : AccountTable) : a.released [] = a := by
  have husers : (Vector.ofFn fun k : Fin 64 => (a.users[k]).map (releasedUser [] k)) = a.users :=
    Vector.ext fun n hn => by simp [funext (releasedUser_nil _)]
  unfold AccountTable.released
  rw [husers]

theorem releasedUser_id (l : List Side) (k : Fin 64) (r : User) : (releasedUser l k r).id = r.id := by
  unfold releasedUser
  split <;> rfl

theorem userId_released {t : State} {l : List Side} (h : t.accounts = s.accounts.released l) (u : Fin 64) :
    t.userId u = s.userId u := by
  have husers : t.accounts.users[u] = (s.accounts.users[u]).map (releasedUser l u) := by
    rw [h]
    simp [AccountTable.released]
  unfold State.userId
  rw [husers]
  cases s.accounts.users[u] with
  | none => rfl
  | some r => exact releasedUser_id l u r

/-- The record of a job whose JOB CLOSE is parked, once `n` of its sides are voided (R34). -/
def Job.closing (j : Job) (void : Bool) (n : Nat) : Job :=
  { j with state := .closing, closePending := true, voidRequested := void, sides := j.sides - n }

/-- What JOB CLOSE leaves before its completion attempt (R34). -/
def closingBy (e : OrderEntry) (i : Fin 16) (j : Job) (l : List Side) (s : State) : State :=
  { s.park e (.job i l.length) with
    sides := s.sides.voided l, accounts := s.accounts.released l
    jobs := put s.jobs i (some (j.closing (e.flag 5) l.length)) }

/-- JOB CLOSE is one completion attempt, behind the voids. -/
theorem closeJob_eq (e : OrderEntry) (hj : s.jobs[i] = some j)
    (hwarn : sidesToVoid i (e.flag 5) s = [] ∨ WarningsSet s)
    (hcount : (sidesToVoid i (e.flag 5) s).length ≤ j.sides) :
    closeJob e i s = attemptClose i (closingBy e i j (sidesToVoid i (e.flag 5) s) s) := by
  have hmem : ∀ r ∈ sidesToVoid i (e.flag 5) s, r.state = .admitted ∧ r.jobSlot = i := fun r hr => by
    unfold sidesToVoid at hr
    cases hf : e.flag 5 with
    | false => rw [hf] at hr; cases hr
    | true =>
      rw [hf] at hr
      simpa using (List.mem_filter.mp hr).2
  unfold closeJob
  dsimp only
  generalize sidesToVoid i (e.flag 5) s = l at hwarn hcount hmem ⊢
  have hpark : (s.park e (.job i l.length)).jobs[i] = some j := hj
  rw [onJob_of_some hpark]
  have hfold := foldl_voidSide (s := { s.park e (.job i l.length) with
      jobs := put s.jobs i (some (j.closing (e.flag 5) 0)) }) (fun r hr => by rw [(hmem r hr).1]; decide)
    (fun r hr => (hmem r hr).2) (put_same _ _ _) (j := j.closing (e.flag 5) 0) hcount
  refine hfold.trans (congrArg (attemptClose i) ?_)
  rcases hwarn with rfl | hwarn
  · unfold closingBy
    rw [SideList.voided_nil, AccountTable.released_nil]
    rfl
  · refine (foldl_voidOnly_eq (s := { s.park e (.job i l.length) with
      jobs := put s.jobs i (some (j.closing (e.flag 5) 0)) }) (fun r hr => by rw [(hmem r hr).1]; decide)
      (fun r hr => (hmem r hr).2) (put_same _ _ _) hwarn).trans ?_
    dsimp only
    rw [put_put]
    rfl

theorem closingBy_userId (e : OrderEntry) (i : Fin 16) (j : Job) (l : List Side) (s : State) (u : Fin 64) :
    (closingBy e i j l s).userId u = s.userId u :=
  userId_released (t := closingBy e i j l s) (s := s) rfl u

theorem closingBy_classifier (e : OrderEntry) (i : Fin 16) (j : Job) (l : List Side) (s : State) :
    (closingBy e i j l s).classifier = s.classifier := rfl

theorem closingBy_jobs (e : OrderEntry) (i : Fin 16) (j : Job) (l : List Side) (s : State) :
    (closingBy e i j l s).jobs[i] = some (j.closing (e.flag 5) l.length) := put_same _ _ _

/-- The tables once JOB CLOSE has ended its voids and completed. -/
theorem closedBy_closingBy_ledger (e : OrderEntry) (i : Fin 16) (j : Job) (l : List Side) (s : State)
    (orders : OrderTaker) : (closedBy i (closingBy e i j l s) orders).ledger = { s.ledger with
      sides := s.sides.voided l, accounts := s.accounts.released l
      jobs := put s.jobs i none
      classifier := { s.classifier with
        regions := s.classifier.regions.map fun (x : Option Region) => x.map (orphanRegion i) } } := by
  rw [← put_put s.jobs i (some (j.closing (e.flag 5) l.length)) none]
  rfl

theorem closingBy_orders {e : OrderEntry} {l : List Side} {parked : List ParkedOrder} {r : Result}
    (hcomp : s.orders.completed = []) (hparked : s.orders.parked = parked) :
    { (closingBy e i j l s).orders with
      parked := parked ++ [], completed := (closingBy e i j l s).orders.completed ++ [r] } =
    { s.orders with completed := [r] } := by
  rw [← hparked, List.append_nil, show (closingBy e i j l s).orders.completed = s.orders.completed from rfl, hcomp]
  rfl

section Order

variable {e : OrderEntry} {rest : List OrderEntry} {l : List Side}

/-- What JOB CLOSE asks for before it closes (R34). -/
structure Closes (s : State) (e : OrderEntry) (rest : List OrderEntry) (i : Fin 16) (j : Job) (l : List Side) : Prop where
  executes : s.Executes 0x15#8 e rest
  job : s.jobs[i] = some j
  active : j.state = .active
  tag : e.num 3 2 ≠ 0
  slot : s.jobWithTag (e.num 3 2) = some i
  room : s.orders.parked.length < 8
  completed : s.orders.completed = []
  sides : sidesToVoid i (e.flag 5) s = l
  warn : l = [] ∨ WarningsSet s
  count : l.length ≤ j.sides

theorem Closes.body (h : Closes s e rest i j l) : jobClose e (popOrder rest s) =
    (.parked, attemptClose i (closingBy e i j l (popOrder rest s))) := by
  have hadmitted : (popOrder rest s).admittedOf i = s.admittedOf i := by
    unfold State.admittedOf
    rw [popOrder_sides]
  have hsides : sidesToVoid i (e.flag 5) (popOrder rest s) = l := by
    rw [← h.sides]
    unfold sidesToVoid
    rw [hadmitted]
  have hwarn : l = [] ∨ WarningsSet (popOrder rest s) :=
    h.warn.imp_right fun hw k u hu => hw k u (popOrder_accounts rest s ▸ hu)
  have hclose := closeJob_eq e (s := popOrder rest s) (i := i) (j := j) (by rw [popOrder_jobs]; exact h.job)
    (by rw [hsides]; exact hwarn) (by rw [hsides]; exact h.count)
  rw [hsides] at hclose
  unfold jobClose
  rw [withJob_popOrder rest h.tag h.slot h.job, if_neg (by rw [h.active]; decide), popOrder_parkedFull,
    parkedFull_of_room h.completed h.room, ← hclose]
  rfl

/-- JOB CLOSE of a job with no work left but sides that it voids. -/
theorem Closes.answered (h : Closes s e rest i j l) (hsides : j.sides = l.length) (hmerges : j.merges = 0)
    (hlines : j.lines = 0) (hnone : ∀ p ∈ s.orders.parked, p.object.isJob i = false) :
    ∃ t, exec .jobClose s = .next t ∧ Answered s t e rest none
        [u8 i.val, u16 j.tag, u8 j.kind.code, u32 (s.userId j.owner), u32 j.enciphered, u32 j.settled, u8 l.length,
          u8 (boundRegions i s.classifier.regions)] ∧
      t.ledger = { s.ledger with
        sides := s.sides.voided l, accounts := s.accounts.released l
        jobs := put s.jobs i none
        classifier := { s.classifier with
          regions := s.classifier.regions.map fun (x : Option Region) => x.map (orphanRegion i) } } := by
  have hclose := attemptClose_completes (s := closingBy e i j l (popOrder rest s)) (closingBy_jobs e i j l _)
    ⟨rfl, Nat.sub_eq_zero_of_le hsides.le, hmerges, hlines⟩ (p := e.parkedOn (.job i l.length)) (after := [])
    (congrArg (· ++ _) (popOrder_parked rest s)) rfl hnone
  rw [closingBy_userId, closingBy_classifier, popOrder_classifier, popOrder_userId,
    closingBy_orders ((popOrder_completed rest s).trans h.completed) (popOrder_parked rest s)] at hclose
  have hbody := h.body
  rw [hclose] at hbody
  refine answered_of_completed (o := .job i l.length) (c := .jobClose) h.executes rfl hbody rfl rfl
    ((closedBy_closingBy_ledger e i j l _ _).trans ?_)
  rw [popOrder_ledger, popOrder_sides, popOrder_accounts, popOrder_jobs, popOrder_classifier]

/-- JOB CLOSE of a job with work left. -/
theorem Closes.parked (h : Closes s e rest i j l)
    (hwork : ¬(j.sides = l.length ∧ j.merges = 0 ∧ j.lines = 0)) :
    ∃ t, exec .jobClose s = .next t ∧ Parked s t e rest (.job i l.length) ∧
      t.ledger = { s.ledger with
        sides := s.sides.voided l, accounts := s.accounts.released l
        jobs := put s.jobs i (some (j.closing (e.flag 5) l.length)) } := by
  have hbody := h.body
  have hopen : ¬(j.closing (e.flag 5) l.length).finished := fun ⟨_, hs, hm, hl⟩ =>
    hwork ⟨Nat.le_antisymm (Nat.le_of_sub_eq_zero hs) h.count, hm, hl⟩
  rw [attemptClose_of_open (closingBy_jobs e i j l _) hopen] at hbody
  obtain ⟨t, ht, hpark, hledger, -⟩ := parked_of_body (c := .jobClose) h.executes rfl h.executes.isKind hbody rfl rfl rfl
  refine ⟨t, ht, hpark, hledger.trans ?_⟩
  rw [← popOrder_ledger rest s, ← popOrder_sides rest s, ← popOrder_accounts rest s, ← popOrder_jobs rest s]
  rfl

end Order

/-- Settles O38. -/
theorem jobCloseWaitsForItsCounts : Obligations.JobCloseWaitsForItsCounts := by
  intro s i j hj hwait hcomp hroom closed vals
  refine ⟨fun e rest h hactive htag hslot hless hflag => ?_,
    fun e rest h hactive htag hslot hless hflag hnumbered hwarn => ?_,
    fun p voided before after hparked hp hfirst hstate hsides hmerges hlines => ?_⟩
  · have hf := OrderEntry.flag_of_zero hflag
    have hcloses : Closes s e rest i j [] := ⟨h, hj, hactive, htag, hslot, hless, hcomp,
      by unfold sidesToVoid; rw [hf]; rfl, .inl rfl, Nat.zero_le _⟩
    refine ⟨fun hsides hmerges hlines hnone => ?_, fun hwork => ?_⟩
    · obtain ⟨t, ht, hanswer, hledger⟩ := hcloses.answered hsides hmerges hlines hnone
      rw [SideList.voided_nil, AccountTable.released_nil] at hledger
      exact ⟨t, ht, hanswer, hledger⟩
    · obtain ⟨t, ht, hpark, hledger⟩ := hcloses.parked hwork
      rw [SideList.voided_nil, AccountTable.released_nil, hf] at hledger
      exact ⟨t, ht, hpark, hledger⟩
  · have hf := OrderEntry.flag_of_one hflag
    have hcloses : (s.admittedOf i).length ≤ j.sides → Closes s e rest i j (s.admittedOf i) := fun hcount =>
      ⟨h, hj, hactive, htag, hslot, hless, hcomp, by unfold sidesToVoid; rw [hf]; rfl, .inr hwarn, hcount⟩
    intro voided sides accounts
    have hvoided : s.sides.voided (s.admittedOf i) = sides := voided_admitted hnumbered i
    refine ⟨fun hsides hmerges hlines hnone => ?_, fun hcount hwork => ?_⟩
    · obtain ⟨t, ht, hanswer, hledger⟩ := (hcloses hsides.ge).answered hsides hmerges hlines hnone
      rw [hvoided] at hledger
      exact ⟨t, ht, hanswer, hledger⟩
    · obtain ⟨t, ht, hpark, hledger⟩ := (hcloses hcount).parked hwork
      rw [hvoided, hf] at hledger
      exact ⟨t, ht, hpark, hledger⟩
  · have hclose := attemptClose_completes hj ⟨hstate, hsides, hmerges, hlines⟩ hparked hp hfirst
    rw [hcomp, List.nil_append] at hclose
    obtain ⟨t, ht, hledger, horders⟩ := ends_of_state (c := .jobCloseCompletion i) (s := s) (x := attemptClose i s) rfl
      (congrArg State.orders hclose) hwait ((congrArg State.cartridges hclose).trans rfl) (congrArg State.ledger hclose)
    replace horders := horders.trans (OrderTaker.moved_of_one (r := p.result none (vals voided)) rfl hroom)
    exact ⟨t, ht, hledger, congrArg OrderTaker.parked horders, congrArg OrderTaker.holding horders⟩

end Sys2Proof.Machine
end

section

/-! PROOFS. The queries, and an order whose kind names no order (R12, R31, R92, R130, R133, R161, R168). -/

namespace Sys2Proof.Machine

variable {s : State} {e : OrderEntry} {rest : List OrderEntry}

/-! ### REGION QUERY (R12) -/

theorem isRegion_eq (i : Fin 32) : ParkObject.isRegion i = fun o => decide (o = .region i) :=
  funext fun _ => Bool.eq_iff_iff.mpr (isRegion_iff.trans decide_eq_true_iff.symm)

theorem regionReport_popOrder (rest : List OrderEntry) (i : Fin 32) (s : State) :
    regionReport i (popOrder rest s) = regionReport i s := by
  unfold regionReport bindingVals
  simp only [popOrder_classifier, popOrder_jobs, popOrder_mergesOn, popOrder_hasParked]

theorem sizeVals_popOrder (rest : List OrderEntry) (s : State) : sizeVals (popOrder rest s) = sizeVals s := by
  unfold sizeVals
  rw [popOrder_classifier]

theorem regionReport_of_none {i : Fin 32} (h : s.classifier.regions[i] = none) : regionReport i s = [u8 0] := by
  unfold regionReport
  rw [h]

theorem regionReport_of_some {i : Fin 32} {r : Region} (h : s.classifier.regions[i] = some r) : regionReport i s =
    [u8 r.state.code, u32 r.base, u32 r.size, u8 r.kind.code] ++ bindingVals r s ++ [u16 r.refusals] ++ r.kind.vals ++
      [u8 (s.mergesOn r.uid), flagVal (s.orders.parked.any fun p => decide (p.object = .region i))] := by
  unfold regionReport State.hasParked
  rw [h, isRegion_eq]

/-- The region map once the refusal counter of a slot is cleared, when that is asked (R12). -/
def countCleared (clear : Bool) (i : Fin 32) (c : Classifier) : Classifier :=
  if clear then
    { c with regions := put c.regions i (c.regions[i].map fun r => { r with refusals := 0 }) }
  else c

theorem countCleared_of_none {clear : Bool} {i : Fin 32} {c : Classifier} (h : c.regions[i] = none) :
    countCleared clear i c = c := by
  unfold countCleared
  split
  · have := put_self c.regions i
    rw [h] at this
    rw [h, Option.map_none, this]
  · rfl

/-- REGION QUERY of a slot, with or without the clear of its refusal counter. -/
theorem regionQuery_reports (h : s.Executes 0x04#8 e rest) {i : Fin 32} (hi : e.num 3 1 = i.val) :
    ∃ t, exec .regionQuery s = .next t ∧ Answered s t e rest none (regionReport i s ++ sizeVals s) ∧
      t.ledger = { s.ledger with classifier := countCleared (e.flag 4) i s.classifier } := by
  have hbody : regionQuery e (popOrder rest s) = (.done (regionReport i s ++ sizeVals s),
      { popOrder rest s with classifier := countCleared (e.flag 4) i s.classifier }) := by
    unfold regionQuery countCleared
    rw [hi, indexOf_val]
    dsimp only
    rw [regionReport_popOrder, sizeVals_popOrder, ← popOrder_classifier rest s]
    cases e.flag 4 <;> rfl
  refine done_of_body h rfl hbody rfl rfl ?_
  rw [← popOrder_ledger rest s]
  rfl

/-! ### JOB QUERY (R31) -/

theorem jobReport_popOrder (rest : List OrderEntry) (i : Fin 16) (j : Job) (s : State) :
    jobReport i j (popOrder rest s) = jobReport i j s := by
  unfold jobReport
  rw [popOrder_userId]

theorem jobQuery_free (h : s.Executes 0x14#8 e rest) {i : Fin 16} (hhow : e.num 3 1 = 1) (hi : e.num 4 1 = i.val)
    (hj : s.jobs[i] = none) : ∃ t, exec .jobQuery s = .next t ∧ Answered s t e rest none [u8 0, u8 0] ∧
      t.ledger = s.ledger := by
  refine reported_of_body h rfl ?_
  unfold jobQuery queryJobSlot
  rw [hhow, hi, indexOf_val]
  dsimp only
  rw [popOrder_jobs, hj]
  rfl

theorem jobQuery_reports (h : s.Executes 0x14#8 e rest) {i : Fin 16} {j : Job} (hj : s.jobs[i] = some j)
    (hhow : (e.num 3 1 = 1 ∧ e.num 4 1 = i.val) ∨
      (e.num 3 1 = 0 ∧ e.num 4 2 ≠ 0 ∧ s.jobWithTag (e.num 4 2) = some i)) :
    ∃ t, exec .jobQuery s = .next t ∧ Answered s t e rest none (jobReport i j s) ∧ t.ledger = s.ledger := by
  refine reported_of_body h rfl ?_
  unfold jobQuery queryJobSlot
  rcases hhow with ⟨hhow, hi⟩ | ⟨hhow, htag, hi⟩
  · rw [hhow, hi, indexOf_val]
    dsimp only
    rw [popOrder_jobs, hj]
    dsimp only
    rw [jobReport_popOrder]
    rfl
  · rw [hhow, withJob_popOrder rest htag hi hj, jobReport_popOrder]
    rfl

/-! ### METERS QUERY (R92) -/

theorem metersQuery_missing (hsel : e.num 3 1 ≤ 2) (hpart : e.num 4 1 ≤ 4) (hset : selectSet s.store (e.num 3 1) = none) :
    metersQuery e (popOrder rest s) = (.refused .noPending [], popOrder rest s) := by
  unfold metersQuery
  dsimp only
  rw [if_neg (by omega), popOrder_store, hset]

theorem metersQuery_reports (h : s.Executes 0x26#8 e rest) (hsel : e.num 3 1 ≤ 2) (hpart : e.num 4 1 ≤ 4)
    {set : ParamSet} (hset : selectSet s.store (e.num 3 1) = some set) :
    (∀ p : Plane, e.num 4 1 = p.val → ∃ t, exec .metersQuery s = .next t ∧
      Answered s t e rest none (curveReport s.store set.curves[p]) ∧ t.ledger = s.ledger) ∧
    (e.num 4 1 = 4 → ∃ t, exec .metersQuery s = .next t ∧
      Answered s t e rest none (setReport s.store set) ∧ t.ledger = s.ledger) := by
  refine ⟨fun p hp => reported_of_body h rfl ?_, fun hp => reported_of_body h rfl ?_⟩
  · unfold metersQuery
    dsimp only
    rw [if_neg (by omega), popOrder_store, hset, hp]
    dsimp only
    rw [indexOf_val]
  · unfold metersQuery
    dsimp only
    rw [if_neg (by omega), popOrder_store, hset, hp]
    dsimp only
    rw [indexOf_none (Nat.le_refl 4)]

theorem curveReport_eq (m : MeterStore) (c : Vector Nat 17) : curveReport m c =
    [u16 m.liveGen, u16 ((m.liveGen + 1) % 65536), flagVal m.pending.isSome] ++ c.toList.map u16 := rfl

theorem setReport_eq (m : MeterStore) (p : ParamSet) : setReport m p =
    p.factors.toList.map u32 ++ [u16 p.colourThreshold, u16 p.bound1, u16 p.bound2] ++ p.prices.toList.map u32 ++
      [u8 p.mask.toNat, flagVal (decide (m.staged ≠ m.live))] ++
      [flagVal (m.pending.map fun c => c.serial.toNat).isSome,
        { width := 2, value := (m.pending.map fun c => c.serial.toNat).getD 0 }] := rfl

/-! ### ACCOUNT QUERY (R130) -/

theorem userReport_popOrder (rest : List OrderEntry) (i : Fin 64) (u : User) (part : Nat) (s : State) :
    userReport i u part (popOrder rest s) = userReport i u part s := by
  unfold userReport State.sidesOwned State.jobsOwned
  rw [popOrder_sides, popOrder_jobs]

theorem jobsOwned_eq (s : State) (i : Fin 64) :
    s.jobsOwned i = s.jobs.toList.countP fun x => x.any fun j => decide (j.owner = i) := by
  unfold State.jobsOwned
  refine congrArg (fun f => s.jobs.toList.countP f) (funext fun x => ?_)
  cases x <;> rfl

theorem userReport_record (i : Fin 64) (u : User) (s : State) : userReport i u 0 s =
    [u8 i.val, u32 u.id, u8 u.state.code, flagVal u.colour, i64 u.credit, u64 u.spent, u32 u.hold, i32 u.floor,
      i32 u.warn, flagVal u.warned, i32 (u.credit - u.spent), i32 (u.credit - u.spent - u.hold), u8 (s.sidesOwned i),
      u8 (s.jobsOwned i)] := rfl

theorem accountQuery_free (h : s.Executes 0x46#8 e rest) (hpart : e.num 8 1 ≤ 1) {i : Fin 64} (hhow : e.num 3 1 = 1)
    (hi : e.num 4 1 = i.val) (hu : s.accounts.users[i] = none) :
    ∃ t, exec .accountQuery s = .next t ∧ Answered s t e rest none [u8 i.val] ∧ t.ledger = s.ledger := by
  refine reported_of_body h rfl ?_
  unfold accountQuery queryUserSlot
  dsimp only
  rw [if_neg (Nat.not_lt.mpr hpart), hhow, hi, indexOf_val]
  dsimp only
  rw [popOrder_accounts, hu]
  rfl

theorem accountQuery_reports (h : s.Executes 0x46#8 e rest) (hpart : e.num 8 1 ≤ 1) {i : Fin 64} {u : User}
    (hu : s.accounts.users[i] = some u)
    (hhow : (e.num 3 1 = 1 ∧ e.num 4 1 = i.val) ∨
      (e.num 3 1 = 0 ∧ e.num 4 4 ≠ 0 ∧ s.userWithId (e.num 4 4) = some i)) :
    ∃ t, exec .accountQuery s = .next t ∧ Answered s t e rest none (userReport i u (e.num 8 1) s) ∧
      t.ledger = s.ledger := by
  refine reported_of_body h rfl ?_
  unfold accountQuery queryUserSlot
  dsimp only
  rw [if_neg (Nat.not_lt.mpr hpart)]
  rcases hhow with ⟨hhow, hi⟩ | ⟨hhow, hid, hi⟩
  · rw [hhow, hi, indexOf_val]
    dsimp only
    rw [popOrder_accounts, hu]
    dsimp only
    rw [userReport_popOrder]
    rfl
  · rw [hhow, withUser_popOrder rest hid hi hu, userReport_popOrder]
    rfl

/-! ### CARTRIDGE QUERY (R161) and COUNTERS QUERY (R133) -/

theorem historyByte_testBit (l : List Bool) (n : Nat) : (historyByte l).testBit n = l.getD n false := by
  induction l generalizing n with
  | nil => simp [historyByte]
  | cons b l ih =>
    cases n with
    | zero => cases b <;> simp [historyByte, Nat.testBit_zero]
    | succ n =>
      rw [Nat.testBit_succ, List.getD_cons_succ, ← ih]
      congr 1
      cases b
      · simp [historyByte]
      · simp [historyByte]
        omega

theorem historyByte_lt (l : List Bool) : historyByte l < 2 ^ l.length := by
  induction l with
  | nil => exact Nat.one_pos
  | cons b l ih =>
    rw [List.length_cons, Nat.pow_succ]
    cases b <;> simp [historyByte] <;> omega

theorem cartridgeQuery_reports (h : s.Executes 0x51#8 e rest) {p : Plane} (hp : e.num 3 1 = p.val)
    (hpart : e.num 4 1 ≤ 9) : ∃ t, exec .cartridgeQuery s = .next t ∧
      Answered s t e rest none (cartridgeReport p s.cartridges (e.num 4 1)) ∧ t.ledger = s.ledger := by
  refine reported_of_body h rfl ?_
  unfold cartridgeQuery
  rw [hp, indexOf_val]
  dsimp only
  rw [if_neg (Nat.not_lt.mpr hpart), popOrder_cartridges]

theorem countersReport_none (a : AccountTable) {n : Nat} (h : 2 < n) : countersReport a n = none := by
  match n, h with
  | _ + 3, _ => rfl

theorem countersQuery_reports (h : s.Executes 0x47#8 e rest) {values : List Val}
    (hvals : countersReport s.accounts (e.num 3 1) = some values) : ∃ t, exec .countersQuery s = .next t ∧
      Answered s t e rest none values ∧ t.ledger = s.ledger := by
  refine reported_of_body h rfl ?_
  unfold countersQuery
  rw [popOrder_accounts, hvals]

/-- Settles O60: one law for each query, and the refusal of an unknown kind. -/
theorem queriesAndUnknownKindsChangeNothing : Obligations.QueriesAndUnknownKindsChangeNothing := by
  intro s e rest leaves reports bit optional tagOf idOf size
  refine ⟨fun i h hi => ⟨fun hnone => ?_, fun r hr => ?_⟩, fun h hslot => ?_,
    fun i h => ⟨fun hhow hi hj => jobQuery_free h hhow hi hj, fun j hj hhow => ?_⟩,
    fun h hsel hpart => ⟨fun htwo hnone => ?_, fun set hset => ?_⟩,
    fun i h hpart => ⟨fun hhow hi hu => accountQuery_free h hpart hhow hi hu, fun u hu hhow => ?_⟩,
    fun p h hp => ?_, fun h => ⟨fun hbad => ?_, fun h0 => ?_, fun h1 => ?_, fun h2 => ?_⟩, fun h hkind => ?_⟩
  · have hreport := regionQuery_reports h hi
    rw [regionReport_of_none hnone, countCleared_of_none hnone] at hreport
    exact hreport
  · have hreport := regionQuery_reports h hi
    rw [regionReport_of_some hr] at hreport
    refine ⟨fun hflag => ?_, fun hflag => ?_⟩
    · rw [OrderEntry.flag_of_zero hflag] at hreport
      obtain ⟨uid, state, base, lines, kind, job, refusals⟩ := r
      cases state <;> cases kind <;> cases job
      all_goals exact hreport
    · rw [OrderEntry.flag_of_one hflag] at hreport
      unfold countCleared at hreport
      rw [if_pos rfl, hr] at hreport
      obtain ⟨uid, state, base, lines, kind, job, refusals⟩ := r
      cases state <;> cases kind <;> cases job
      all_goals exact hreport
  · refine refused_of_body (c := .regionQuery) h rfl ?_
    unfold regionQuery
    rw [indexOf_none (Nat.succ_le_of_lt hslot), sizeVals_popOrder]
    rfl
  · exact jobQuery_reports h hj hhow
  · refine refusedBy_of_refused h rfl ?_
    exact metersQuery_missing hsel hpart (by rw [htwo]; unfold selectSet; rw [hnone]; rfl)
  · exact metersQuery_reports h hsel hpart hset
  · have hreport := accountQuery_reports h hpart hu hhow
    refine ⟨fun hzero => ?_, fun hone => ?_⟩
    · rw [hzero, userReport_record, jobsOwned_eq] at hreport
      exact hreport
    · rw [hone] at hreport
      exact hreport
  · intro c totals policy entries
    refine ⟨fun hzero hlen => ?_, fun hone => ?_, fun n hn hle => ?_⟩
    · have hreport := cartridgeQuery_reports h hp (by omega)
      rw [hzero] at hreport
      refine ⟨BitVec.ofNat 8 (historyByte c.history), fun n => ?_, ?_⟩
      · have hbit := historyByte_testBit c.history n
        rw [BitVec.getLsbD_ofNat, hbit]
        by_cases hn : n < 8
        · simp [hn]
        · rw [List.getD_eq_default _ _ (hlen.trans (Nat.le_of_not_lt hn)), Bool.and_false]
      · rw [BitVec.toNat_ofNat, Nat.mod_eq_of_lt ((historyByte_lt _).trans_le (Nat.pow_le_pow_right (by decide) hlen))]
        exact hreport
    · have hreport := cartridgeQuery_reports h hp (by omega)
      rw [hone] at hreport
      exact hreport
    · have hreport := cartridgeQuery_reports h hp (by omega)
      rw [hn] at hreport
      refine ⟨fun hnone => ?_, fun a place hsome => ?_⟩
      · rw [show cartridgeReport p s.cartridges (n + 2) = absentReport entries[n]? from rfl, hnone] at hreport
        exact hreport
      · rw [show cartridgeReport p s.cartridges (n + 2) = absentReport entries[n]? from rfl, hsome] at hreport
        exact hreport
  · refine refusedBy_of_refused h rfl ?_
    unfold countersQuery
    rw [popOrder_accounts, countersReport_none _ hbad]
  · exact countersQuery_reports h (by rw [h0]; rfl)
  · exact countersQuery_reports h (by rw [h1]; rfl)
  · exact countersQuery_reports h (by rw [h2]; rfl)
  · exact refusedBy_of_accepts (c := .badOrder) h rfl (decide_eq_true hkind) rfl

end Sys2Proof.Machine
end

section

/-! PROOFS. The grant of the oldest upstream line: what the end of its event leaves (R17, R18), and the grants of writes
and of enciphering writes. -/

namespace Sys2Proof.Machine

variable {s t u x : State}

/-! ### The end of an event at the port -/

/-- From one state to the other the part's own stream may grow at its tail, and nothing else changes at the port and in
the line protection unit. -/
structure OwnGrows (s t : State) : Prop where
  protection : t.protection = s.protection
  upstream : t.port.upstream = s.port.upstream
  last : t.port.last = s.port.last
  own : s.port.own <+: t.port.own

theorem OwnGrows.of_eq (hp : t.protection = s.protection) (hport : t.port = s.port) : OwnGrows s t :=
  ⟨hp, by rw [hport], by rw [hport], by rw [hport]⟩

theorem OwnGrows.trans (hst : OwnGrows s t) (htu : OwnGrows t u) : OwnGrows s u :=
  ⟨htu.protection.trans hst.protection, htu.upstream.trans hst.upstream, htu.last.trans hst.last, hst.own.trans htu.own⟩

theorem issueOwn_grows (ls : List OwnLine) (s : State) : OwnGrows s (issueOwn ls s) :=
  ⟨rfl, rfl, rfl, List.prefix_append _ _⟩

theorem ProverOnly.ownGrows (h : ProverOnly s t) : OwnGrows s t := by
  obtain ⟨_, _, _, rfl⟩ := h
  exact .of_eq rfl rfl

theorem testEstimates_grows (b s : State) : OwnGrows s (testEstimates b s) := by
  have hone : ∀ (p : Plane) (s : State), OwnGrows s (testEstimate b p s) := fun p s => by
    rw [testEstimate_eq]
    exact ((raiseIf_proverOnly _ _ _).trans (raiseIf_proverOnly _ _ _)).ownGrows
  unfold testEstimates allPlanes
  simp only [List.foldl_cons, List.foldl_nil]
  exact (((hone _ _).trans (hone _ _)).trans (hone _ _)).trans (hone _ _)

theorem issueReturn_grows (s : State) : OwnGrows s (issueReturn s) := by
  unfold issueReturn
  split
  · exact .of_eq rfl rfl
  · split
    · exact .of_eq rfl rfl
    · exact ⟨rfl, rfl, rfl, List.prefix_append _ _⟩

theorem issueHeader_grows (b s : State) : OwnGrows s (issueHeader b s) := by
  unfold issueHeader
  split
  · exact .of_eq rfl rfl
  · split
    · exact .of_eq rfl rfl
    · exact issueOwn_grows _ s

theorem issueSummary_grows (b s : State) : OwnGrows s (issueSummary b s) := by
  unfold issueSummary
  split
  · exact .of_eq rfl rfl
  · split
    · exact .of_eq rfl rfl
    · exact issueOwn_grows _ s

theorem moveCompleted_grows (s : State) : OwnGrows s (moveCompleted s) := .of_eq rfl rfl

theorem evaluateAttention_grows (s : State) : OwnGrows s (evaluateAttention s) := .of_eq rfl rfl

/-- What the end of an event leaves outside a reset wait. -/
structure EventEnds (x t : State) : Prop where
  grows : LedgerGrows x t
  orders : t.orders = x.orders.moved
  channel : t.channel = x.channel
  port : OwnGrows x t

theorem concludeEvent_ends (b : State) (h : x.orders.resetWait = none) : EventEnds x (concludeEvent b x) where
  grows := concludeEvent_ledgerGrows b h
  orders := (concludeEvent_orders b x h).trans (by
    rw [moveCompleted_orders])
  channel := concludeEvent_channel b x h
  port := by
    have hstart : OwnGrows x (arbitrate (testEstimates b (tryReset (noteDrain x)))) := by
      rw [noteDrain_of_no_wait x h, tryReset_of_no_wait x h]
      exact (testEstimates_grows b x).trans (arbitrate_proverOnly _).ownGrows
    unfold concludeEvent
    exact hstart.trans ((moveCompleted_grows _).trans ((issueReturn_grows _).trans ((issueHeader_grows b _).trans
      ((issueSummary_grows b _).trans (evaluateAttention_grows _)))))

/-- An event whose effect leaves the cartridges alone adds no notice at its end. -/
theorem concludeEvent_ledger_quiet (b : State) (h : x.orders.resetWait = none) (hk : x.cartridges = b.cartridges) :
    (concludeEvent b x).ledger = x.ledger :=
  concludeEvent_ledger_same b x h (fun p => by rw [hk]) (fun p => by rw [hk]) (by rw [hk])

/-! ### Answers (R3) -/

/-- The answer of the oldest outstanding request is returned at once. -/
theorem answer_returned {id : Nat} {tag : Fin 64} (a : Answer)
    (h : s.channel.outstanding.head? = some { id, tag, answer := none }) :
    { id, tag, answer := a } ∈ (s.answer id a).channel.returned := by
  obtain ⟨rest, hrest⟩ := List.head?_eq_some_iff.mp h
  unfold State.answer
  rw [hrest, List.map_cons, if_pos rfl]
  unfold releaseResponses
  refine List.mem_append_right _ ?_
  dsimp only
  rw [if_neg (List.not_mem_nil)]
  exact List.mem_cons_self

/-! ### Merge entries that wait for a line (R49) -/

/-- Entries of the merge table issue their reads, and nothing else changes. -/
structure EntriesWake (s t : State) : Prop where
  rest : t = { s with
    port := { s.port with own := t.port.own }
    protection := { s.protection with table := t.protection.table } }
  own : s.port.own <+: t.port.own

theorem EntriesWake.refl (s : State) : EntriesWake s s := ⟨rfl, List.prefix_refl _⟩

theorem EntriesWake.trans (hst : EntriesWake s t) (htu : EntriesWake t u) : EntriesWake s u := by
  refine ⟨?_, hst.own.trans htu.own⟩
  rw [htu.rest, hst.rest]

theorem issueRead_wakes (i : Fin 8) (s : State) : EntriesWake s (issueRead i s) := by
  unfold issueRead
  split
  · exact .refl s
  · split
    · exact ⟨rfl, List.prefix_append _ _⟩
    · exact .refl s

theorem wakeEntries_wakes (line : Nat) (s : State) : EntriesWake s (wakeEntries line s) := by
  unfold wakeEntries
  generalize List.finRange 8 = l
  induction l generalizing s with
  | nil => exact .refl s
  | cons i l ih =>
    refine EntriesWake.trans ?_ (ih _)
    dsimp only
    split
    · split
      · exact issueRead_wakes i s
      · exact .refl s
    · exact .refl s

/-- Without an entry on the line nothing changes. -/
theorem wakeEntries_of_none {line : Nat} (h : ∀ i : Fin 8, ∀ e ∈ s.protection.table[i], e.req.line ≠ line) :
    wakeEntries line s = s := by
  refine List.foldl_fixed' (fun i => ?_) _
  cases he : s.protection.table[i] with
  | none => rfl
  | some e => exact if_neg (h i e he)

/-! ### The grant (R17, R18) -/

/-- The oldest upstream line leaves its stream for its grant (R17). -/
def granting (s : State) : State := { s with port := { s.port with upstream := s.port.upstream.tail, last := .upstream } }

/-- What the event of a grant leaves, from the state in which the grant was performed. -/
structure GrantEnds (s x t : State) (r : Req) : Prop where
  upstream : t.port.upstream = x.port.upstream
  last : t.port.last = x.port.last
  channel : t.channel = x.channel
  orders : t.orders = x.orders.moved
  grows : ∃ y, EntriesWake x y ∧ LedgerGrows y t ∧ (x.cartridges = s.cartridges → t.ledger = y.ledger)
  table : (∀ i : Fin 8, ∀ e ∈ x.protection.table[i], e.req.line ≠ r.line) → t.protection.table = x.protection.table

/-- The event of an upstream grant. -/
theorem upstreamGrant_ends {r : Req} {rest : List Req} (hport : s.port.upstream = r :: rest) (hturn : s.upstreamTurn = true)
    (hwait : (performGrant r (granting s)).orders.resetWait = none) :
    ∃ t, exec .upstreamGrant s = .next t ∧ GrantEnds s (performGrant r (granting s)) t r := by
  have hrun : exec .upstreamGrant s = .next (concludeEvent s (wakeEntries r.line (performGrant r (granting s)))) := by
    have hgrant : grantUpstream s = wakeEntries r.line (performGrant r (granting s)) := by
      unfold grantUpstream granting
      rw [hport]
      rfl
    change eventIf _ grantUpstream s = _
    unfold eventIf event
    rw [hport, hturn, hgrant]
    rfl
  refine ⟨_, hrun, ?_⟩
  generalize performGrant r (granting s) = x at hwait ⊢
  have hwakes := wakeEntries_wakes r.line x
  have hnone : (∀ i : Fin 8, ∀ e ∈ x.protection.table[i], e.req.line ≠ r.line) → wakeEntries r.line x = x :=
    wakeEntries_of_none
  generalize wakeEntries r.line x = y at hwakes hnone ⊢
  have horders : y.orders = x.orders := (congrArg State.orders hwakes.rest).trans rfl
  have hends := concludeEvent_ends s (x := y) (by rw [horders]; exact hwait)
  refine ⟨?_, ?_, ?_, ?_, ⟨y, hwakes, hends.grows, fun hk => ?_⟩, fun h => ?_⟩
  · exact hends.port.upstream.trans ((congrArg (fun y => y.port.upstream) hwakes.rest).trans rfl)
  · exact hends.port.last.trans ((congrArg (fun y => y.port.last) hwakes.rest).trans rfl)
  · exact hends.channel.trans ((congrArg State.channel hwakes.rest).trans rfl)
  · rw [hends.orders, horders]
  · exact concludeEvent_ledger_quiet s (by rw [horders]; exact hwait) (((congrArg State.cartridges hwakes.rest).trans rfl).trans hk)
  · rw [hends.port.protection, hnone h]

/-- The tables after a grant whose effect leaves the cartridges alone. -/
theorem GrantEnds.ledger {r : Req} (h : GrantEnds s x t r) (hk : x.cartridges = s.cartridges) :
    t.ledger = { x.ledger with merges := t.protection.table } := by
  obtain ⟨y, hwakes, -, hquiet⟩ := h.grows
  have htable : t.protection.table = y.protection.table := congrArg Ledger.merges (hquiet hk)
  rw [hquiet hk, htable]
  rw [hwakes.rest]
  rfl

end Sys2Proof.Machine
end

section

/-! PROOFS. The grants of writes: what they store and what they leave (R18, R44, R46, R181). -/

namespace Sys2Proof.Machine

variable {s t x : State} {r : Req} {rest : List Req}

/-! ### Stored lines (R18) -/

theorem readByte_of_stored {m : List Host.Cell} (h : MemoryWf m) {n a : Nat} {mask : ByteMask} (data : Line)
    (ha : StoredByte n mask a) : readByte (writeLine m n mask data) a = byteAt data (a - 64 * n) := by
  rw [readByte_writeLine _ _ _ _ h]
  exact if_pos ha

theorem readByte_of_kept {m : List Host.Cell} (h : MemoryWf m) {n a : Nat} {mask : ByteMask} (data : Line)
    (ha : ¬StoredByte n mask a) : readByte (writeLine m n mask data) a = readByte m a := by
  rw [readByte_writeLine _ _ _ _ h]
  exact if_neg ha

theorem readByte_outside {m : List Host.Cell} (h : MemoryWf m) {n a : Nat} {mask : ByteMask} (data : Line)
    (ha : ¬(64 * n ≤ a ∧ a < 64 * n + 64)) : readByte (writeLine m n mask data) a = readByte m a :=
  readByte_of_kept h data fun ⟨hlow, hhigh, _⟩ => ha ⟨hlow, hhigh⟩

/-! ### The grant of a write -/

/-- A grant writes page memory, counts for its job and answers. -/
def afterGrant (m : List Host.Cell) (jobs : Vector (Option Job) 16) (id : Nat) (a : Answer) (s : State) : State :=
  State.answer { s with mem := m, jobs := jobs } id a

theorem performPlain_of_write {mask : ByteMask} {data : Line} (h : r.access = .write mask data) :
    performPlain r s = afterGrant (writeLine s.mem r.line mask data) s.jobs r.id okayWrite s := by
  unfold performPlain storeWrite
  rw [h]
  rfl

theorem performPlain_of_read (h : r.access = .read) :
    performPlain r s = s.answer r.id (okayRead (readLine s.mem r.line)) := by
  unfold performPlain
  rw [h]

theorem granting_upstream (hport : s.port.upstream = r :: rest) : (granting s).port.upstream = rest :=
  congrArg List.tail hport

/-- A grant that writes memory, answers the request, counts for a job and changes nothing else. -/
theorem grant_of_store (hwait : s.orders.resetWait = none) (hport : s.port.upstream = r :: rest)
    (hturn : s.upstreamTurn = true) {m : List Host.Cell} {a : Answer} {jobs : Vector (Option Job) 16}
    (hperform : performGrant r (granting s) = afterGrant m jobs r.id a (granting s)) :
    ∃ t, exec .upstreamGrant s = .next t ∧ t.port.upstream = rest ∧ t.port.last = .upstream ∧
      t.ledger = { s.ledger with mem := t.mem, merges := t.protection.table, jobs } ∧ t.mem = m ∧
      ((∀ i : Fin 8, ∀ e ∈ s.protection.table[i], e.req.line ≠ r.line) →
        t.protection.table = s.protection.table) ∧
      (s.channel.outstanding.head? = some { id := r.id, tag := r.tag, answer := none } →
        { id := r.id, tag := r.tag, answer := a } ∈ t.channel.returned) := by
  obtain ⟨t, ht, hends⟩ := upstreamGrant_ends hport hturn (by rw [hperform]; exact hwait)
  rw [hperform] at hends
  have hledger := hends.ledger rfl
  have hmem : t.mem = m := congrArg Ledger.mem hledger
  refine ⟨t, ht, hends.upstream.trans (granting_upstream hport), hends.last, ?_, hmem, hends.table, fun hhead => ?_⟩
  · rw [hledger, hmem]
    rfl
  · rw [hends.channel]
    exact answer_returned (s := { granting s with mem := m, jobs := jobs }) a hhead

/-- Settles O19. -/
theorem upstreamGrantStoresAWrite : Obligations.UpstreamGrantStoresAWrite := by
  refine ⟨fun s r rest mask data hwf hwait hport hturn hwrite htreat => ?_,
    fun s r rest hwf hwait hport hturn htreat => ?_⟩
  · have hplain : performGrant r (granting s) = performPlain r (granting s) := by
      unfold performGrant
      rcases htreat with h | h | h <;> rw [h]
    obtain ⟨t, ht, hupstream, hlast, hledger, hmem, htable, hanswer⟩ :=
      grant_of_store hwait hport hturn (hplain.trans (performPlain_of_write hwrite))
    refine ⟨t, ht, hupstream, hlast, hledger, htable, fun a ha => ?_, fun a ha => ?_, hanswer⟩
    · rw [hmem]
      exact readByte_of_stored hwf data ha
    · rw [hmem]
      exact readByte_of_kept hwf data ha
  · have hperform : performGrant r (granting s) =
        State.answer { granting s with mem := writeLine s.mem r.line fullMask (headerLine s) } r.id okayWrite := by
      unfold performGrant
      rw [htreat]
      rfl
    obtain ⟨t, ht, hupstream, hlast, hledger, hmem, -, hanswer⟩ :=
      grant_of_store hwait hport hturn hperform
    refine ⟨t, ht, hupstream, hlast, hledger, ?_, fun a ha => ?_, hanswer⟩
    · rw [hmem, readLine_writeLine_full _ _ _ hwf]
      rfl
    · rw [hmem]
      exact readByte_outside hwf _ ha

/-! ### The grant of an enciphering write (R44) -/

/-- A job whose line count a request leaves keeps its slot: it is ACTIVE, or other work of it is left (R37). -/
def Job.keepsSlotAtLine (j : Job) : Prop := j.state = .active ∨ j.sides ≠ 0 ∨ j.merges ≠ 0 ∨ 1 < j.lines

theorem leaveLineCount_of_keeps {i : Fin 16} {j : Job} (hj : s.jobs[i] = some j) (h : j.keepsSlotAtLine) :
    leaveLineCount i s = { s with jobs := put s.jobs i (some { j with lines := j.lines - 1 }) } := by
  unfold leaveLineCount lineLeaves
  rw [onJob_of_some hj]
  refine attemptClose_of_open (put_same _ _ _) fun hdone => ?_
  obtain ⟨hstate, hsides, hmerges, hlines⟩ := hdone
  rcases h with hactive | hside | hmerge | hmore
  · rw [show j.state = .closing from hstate] at hactive
    cases hactive
  · exact hside hsides
  · exact hmerge hmerges
  · change j.lines - 1 = 0 at hlines
    omega

theorem countEnciphered_of_room {i : Fin 16} {j : Job} (hj : s.jobs[i] = some j) (hroom : j.enciphered < 4294967295) :
    countEnciphered i s = { s with jobs := put s.jobs i (some { j with enciphered := j.enciphered + 1 }) } := by
  unfold countEnciphered
  rw [hj]
  dsimp only
  rw [addSat_of_lt hroom, onJob_of_some hj]
  rfl

theorem leaveLineCount_enciphered {i : Fin 16} {j : Job} (hj : s.jobs[i] = some j) (hactive : j.state = .active)
    (hroom : j.enciphered < 4294967295) : leaveLineCount i (countEnciphered i s) = { s with
      jobs := put s.jobs i (some { j with lines := j.lines - 1, enciphered := j.enciphered + 1 }) } := by
  rw [countEnciphered_of_room hj hroom,
    leaveLineCount_of_keeps (j := { j with enciphered := j.enciphered + 1 }) (put_same _ _ _) (.inl hactive)]
  dsimp only
  rw [put_put]

theorem performGrant_encipher {c : Cipher} {j : Job} {mask : ByteMask} {data : Line} (hwrite : r.access = .write mask data)
    (htreat : r.treatment = .encipherWrite c) (hj : s.jobs[c.job] = some j) (hactive : j.state = .active)
    (hroom : j.enciphered < 4294967295) : performGrant r s = afterGrant (writeLine s.mem r.line mask data)
      (put s.jobs c.job (some { j with lines := j.lines - 1, enciphered := j.enciphered + 1 })) r.id okayWrite s := by
  have hstore : storeWrite r s = { s with mem := writeLine s.mem r.line mask data } := by
    unfold storeWrite
    rw [hwrite]
  unfold performGrant
  rw [htreat]
  dsimp only
  rw [hstore]
  exact leaveLineCount_enciphered hj hactive hroom

/-- Settles O21. -/
theorem encipheredLineReadsBack : Obligations.EncipheredLineReadsBack := by
  intro s r rest c j l hwf hwait hport hturn hwrite htreat hj hactive hroom
  obtain ⟨t, ht, -, -, hledger, hmem, -, -⟩ := grant_of_store hwait hport hturn
    (performGrant_encipher (s := granting s) hwrite htreat hj hactive hroom)
  refine ⟨t, ht, ?_, fun a ha => ?_, hledger⟩
  · rw [hmem, show BitVec.allOnes 64 = fullMask from rfl]
    exact (congrArg _ (readLine_writeLine_full _ _ _ hwf)).trans (decipher_encipher _ _ _)
  · rw [hmem]
    exact readByte_outside hwf _ ha

end Sys2Proof.Machine
end

section

/-! PROOFS. Merges: the read, the overlay and the write-back (R47 to R50). -/

namespace Sys2Proof.Machine

variable {s t x : State} {i : Fin 8} {e : MergeEntry}

/-! ### The read and the overlay (R49) -/

/-- The end of an event whose effect leaves the cartridges and the order taker alone. -/
theorem ends_of_body {c : Instr} (hrun : exec c s = .next (concludeEvent s x)) (ho : x.orders.resetWait = none)
    (hk : x.cartridges = s.cartridges) : ∃ t, exec c s = .next t ∧ EventEnds x t ∧ t.ledger = x.ledger :=
  ⟨_, hrun, concludeEvent_ends s ho, concludeEvent_ledger_quiet s ho hk⟩

theorem issueRead_of_free (he : s.protection.table[i] = some e) (hphase : e.phase = .ordering)
    (hfree : ∀ q ∈ s.port.upstream, q.line ≠ e.req.line) :
    issueRead i s = issueOwn [.mergeRead i] (setEntry i (some { e with phase := .reading }) s) := by
  unfold issueRead
  rw [he]
  exact if_pos ⟨hphase, List.all_eq_true.mpr fun q hq => decide_eq_true (hfree q hq)⟩

theorem issueRead_of_waiting (he : s.protection.table[i] = some e) (hline : ∃ q ∈ s.port.upstream, q.line = e.req.line) :
    issueRead i s = s := by
  unfold issueRead
  rw [he]
  refine if_neg fun ⟨_, hall⟩ => ?_
  obtain ⟨q, hq, hqline⟩ := hline
  exact of_decide_eq_true (List.all_eq_true.mp hall q hq) hqline

theorem ownHead_of_turn {l : OwnLine} {rest : List OwnLine} (hturn : s.ownTurn = true) (hown : s.port.own = l :: rest) :
    s.ownHead = some l := by
  unfold State.ownHead
  rw [hturn, hown]
  rfl

theorem grantOwn_own {l : OwnLine} {rest : List OwnLine} (hown : s.port.own = l :: rest) : (grantOwn s).port.own = rest :=
  congrArg List.tail hown

/-- The merged line deciphers to the stored line with the enabled bytes replaced (R49). -/
theorem byteAt_decipher_mergeLine {r : Req} {c : Cipher} {mask : ByteMask} {data : Line} (stored : Line)
    (htreat : r.treatment = .merge c) (hwrite : r.access = .write mask data) {b : Nat} (hb : b < 64) :
    byteAt (decipher c.key c.offset (mergeLine r stored)) b =
      if mask.getLsbD b then byteAt data b else byteAt (decipher c.key c.offset stored) b := by
  unfold mergeLine overlayOf
  rw [htreat, hwrite]
  dsimp only
  rw [decipher_encipher, byteAt_overlay _ _ _ _ hb]

/-- Settles O22. -/
theorem mergeReadsAndOverlays : Obligations.MergeReadsAndOverlays := by
  refine ⟨fun s i e hwait he hphase hfree => ?_, fun s i e c mask data rest hwait hturn hown he htreat hwrite => ?_⟩
  · have hread := issueRead_of_free he hphase hfree
    obtain ⟨t, ht, hends, hledger⟩ := ends_of_body (c := .mergeReadIssue i) (s := s) (x := issueRead i s) rfl
      (by rw [hread]; exact hwait) (by rw [hread]; rfl)
    rw [hread] at hends hledger
    obtain ⟨more, hmore⟩ := hends.port.own
    refine ⟨t, more, ht, ?_, hledger⟩
    rw [← hmore]
    exact List.append_assoc _ _ _
  · have hgrant : grantMergeRead i (grantOwn s) = issueOwn [.mergeWrite i] (setEntry i
        (some { e with phase := .writing, merged := some (mergeLine e.req (readLine s.mem e.req.line)) }) (grantOwn s)) := by
      unfold grantMergeRead
      rw [show (grantOwn s).protection.table[i] = some e from he]
      rfl
    have hrun : exec .mergeReadGrant s = .next (concludeEvent s (grantMergeRead i (grantOwn s))) := by
      change execMergeReadGrant s = _
      unfold execMergeReadGrant
      rw [ownHead_of_turn hturn hown]
      rfl
    obtain ⟨t, ht, hends, hledger⟩ := ends_of_body hrun (by rw [hgrant]; exact hwait) (by rw [hgrant]; rfl)
    rw [hgrant] at hends hledger
    obtain ⟨more, hmore⟩ := hends.port.own
    refine ⟨t, more, mergeLine e.req (readLine s.mem e.req.line), ht, ?_, hledger,
      fun b hb => byteAt_decipher_mergeLine _ htreat hwrite hb⟩
    rw [← hmore, ← grantOwn_own hown]
    exact List.append_assoc _ _ _

end Sys2Proof.Machine
end

section

/-! PROOFS. The acceptance of a merge's write-back (R50). -/

namespace Sys2Proof.Machine

variable {s t x y : State} {i : Fin 8} {e : MergeEntry}

/-! ### A claim is given an entry (R48) -/

/-- A claim leaves its job's line count for its merge count (R48). -/
def claimCounted (jobs : Vector (Option Job) 16) (k : Fin 16) : Vector (Option Job) 16 :=
  put jobs k (jobs[k].map fun x => { x with lines := x.lines - 1, merges := x.merges + 1 })

/-- A claim stands in an entry, and lines have joined the part's own stream. -/
def givenEntry (i : Fin 8) (q : Req) (k : Fin 16) (phase : MergePhase) (own : List OwnLine) (y : State) : State :=
  { y with
    port := { y.port with own := y.port.own ++ own }
    protection := { y.protection with table := put y.protection.table i (some { req := q, phase, merged := none }) }
    jobs := claimCounted y.jobs k }

/-- No request of a stream is to the line of a claim. -/
def lineFree (upstream : List Req) (q : Req) : Bool := upstream.all fun x => decide (x.line ≠ q.line)

theorem lineFree_iff {upstream : List Req} {q : Req} : lineFree upstream q = true ↔ ∀ x ∈ upstream, x.line ≠ q.line := by
  simp [lineFree]

theorem lineFree_false {upstream : List Req} {q : Req} : lineFree upstream q = false ↔ ∃ x ∈ upstream, x.line = q.line := by
  simp [lineFree]

/-- The phase in which a claim begins: READING when no request to its line waits for the port, ORDERING otherwise (R48,
R49). -/
def claimPhase (upstream : List Req) (q : Req) : MergePhase := if lineFree upstream q then .reading else .ordering

/-- The read that a claim issues as it begins. -/
def claimRead (upstream : List Req) (q : Req) (i : Fin 8) : List OwnLine :=
  if lineFree upstream q then [.mergeRead i] else []

theorem giveEntry_given (i : Fin 8) {q : Req} {d : Cipher} (htreat : q.treatment = .merge d) (y : State) :
    giveEntry i q y =
      givenEntry i q d.job (claimPhase y.port.upstream q) (claimRead y.port.upstream q i) y := by
  have hcounted : q.countedJob = some d.job := by
    unfold Req.countedJob
    rw [htreat]
  have hplaced : giveEntry i q y = issueRead i (givenEntry i q d.job .ordering [] y) := by
    unfold giveEntry givenEntry claimCounted
    rw [hcounted, List.append_nil]
    rfl
  have htable : (givenEntry i q d.job .ordering [] y).protection.table[i] =
    some { req := q, phase := .ordering, merged := none } := put_same _ _ _
  unfold claimPhase claimRead
  cases hfree : lineFree y.port.upstream q with
  | true =>
    rw [hplaced, issueRead_of_free htable rfl (lineFree_iff.mp hfree)]
    unfold issueOwn setEntry givenEntry
    dsimp only
    rw [put_put, List.append_nil]
    rfl
  | false => exact hplaced.trans (issueRead_of_waiting htable (lineFree_false.mp hfree))

/-! ### The same-line queue of a completed merge (R50, R52) -/

theorem takeWhile_of_all {l : List Req} (h : ∀ q ∈ l, q.isClaim = false) : l.takeWhile (fun r => !r.isClaim) = l :=
  List.takeWhile_eq_self_iff.mpr fun q hq => by rw [h q hq]; rfl

theorem dropWhile_of_all {l : List Req} (h : ∀ q ∈ l, q.isClaim = false) : l.dropWhile (fun r => !r.isClaim) = [] :=
  List.dropWhile_eq_nil_iff.mpr fun q hq => by rw [h q hq]; rfl

theorem takeWhile_of_first {ahead behind : List Req} {q : Req} (h : ∀ q ∈ ahead, q.isClaim = false)
    (hq : q.isClaim = true) : (ahead ++ q :: behind).takeWhile (fun r => !r.isClaim) = ahead := by
  rw [List.takeWhile_append_of_pos fun q hq => by rw [h q hq]; rfl, List.takeWhile_cons_of_neg (by simp [hq]),
    List.append_nil]

theorem dropWhile_of_first {ahead behind : List Req} {q : Req} (h : ∀ q ∈ ahead, q.isClaim = false)
    (hq : q.isClaim = true) : (ahead ++ q :: behind).dropWhile (fun r => !r.isClaim) = q :: behind := by
  rw [List.dropWhile_append_of_pos fun q hq => by rw [h q hq]; rfl, List.dropWhile_cons_of_neg (by simp [hq])]

theorem isClaim_of_merge {q : Req} {d : Cipher} (h : q.treatment = .merge d) : q.isClaim = true := by
  unfold Req.isClaim
  rw [h]

/-- The claim on a line ends, and what its queue held joins the upstream stream. -/
def claimEnded (line : Nat) (y : State) : State := dropClaim line (issueUpstream (y.queueOf line) y)

theorem serveQueue_of_none {line : Nat} (h : ∀ q ∈ y.queueOf line, q.isClaim = false) :
    serveQueue i line y = refillEntry i (claimEnded line y) := by
  unfold serveQueue
  dsimp only
  rw [takeWhile_of_all h, dropWhile_of_all h]
  rfl

theorem serveQueue_of_claim {line : Nat} {ahead behind : List Req} {q : Req}
    (hqueue : y.queueOf line = ahead ++ q :: behind) (h : ∀ q ∈ ahead, q.isClaim = false) (hq : q.isClaim = true) :
    serveQueue i line y = giveEntry i q (setQueue line behind (issueUpstream ahead y)) := by
  unfold serveQueue
  dsimp only
  rw [hqueue, takeWhile_of_first h hq, dropWhile_of_first h hq]

/-! ### The write-back (R50) -/

/-- What a write-back needs: the merged line of an entry, for an ACTIVE job, at the head of the part's own stream. -/
structure WritesBack (s : State) (i : Fin 8) (e : MergeEntry) (c : Cipher) (j : Job) (l : Line) (rest : List OwnLine) :
    Prop where
  wf : MemoryWf s.mem
  noWait : s.orders.resetWait = none
  parked : s.orders.parked = []
  turn : s.ownTurn = true
  own : s.port.own = .mergeWrite i :: rest
  entry : s.protection.table[i] = some e
  merged : e.merged = some l
  treatment : e.req.treatment = .merge c
  job : s.jobs[c.job] = some j
  active : j.state = .active
  room : j.enciphered < 4294967295

/-- The record of a job once a merge of it is complete (R32, R33). -/
def Job.mergeDone (j : Job) : Job := { j with merges := j.merges - 1, enciphered := j.enciphered + 1 }

theorem countMerge {k : Fin 16} {j : Job} (m : List Host.Cell) (hj : y.jobs[k] = some j)
    (hroom : j.enciphered < 4294967295) :
    countEnciphered k (State.onJob { y with mem := m } k fun x => { x with merges := x.merges - 1 }) =
      { y with mem := m, jobs := put y.jobs k (some j.mergeDone) } := by
  rw [onJob_of_some (s := { y with mem := m }) hj,
    countEnciphered_of_room (j := { j with merges := j.merges - 1 }) (put_same _ _ _) hroom]
  dsimp only
  rw [put_put]
  rfl

/-- The write-back is stored, counted and answered. -/
def writtenBack (s : State) (e : MergeEntry) (k : Fin 16) (j : Job) (m : List Host.Cell) : State :=
  afterGrant m (put s.jobs k (some j.mergeDone)) e.req.id okayWrite (grantOwn s)

theorem attemptRemoveOf_of_none (r : Req) (h : y.orders.parked = []) : attemptRemoveOf r y = y := by
  have hremove : ∀ k, attemptRemove k y = y := fun k => by
    unfold attemptRemove
    rw [hasParked_of_none (f := ParkObject.isRegion k) fun q hq => by rw [h] at hq; cases hq]
    split
    · rfl
    · exact if_neg fun hn => absurd hn.1 Bool.false_ne_true
  unfold attemptRemoveOf
  split
  · split
    · split
      · exact hremove _
      · rfl
    · rfl
  · rfl

variable {c : Cipher} {j : Job} {l : Line} {rest : List OwnLine}

theorem acceptMergeWrite_eq (he : y.protection.table[i] = some e) (hmerged : e.merged = some l)
    (htreat : e.req.treatment = .merge c) (hj : y.jobs[c.job] = some j) (hroom : j.enciphered < 4294967295) :
    acceptMergeWrite i y = attemptRemoveOf e.req (attemptClose c.job (serveQueue i e.req.line
      (afterGrant (writeLine y.mem e.req.line fullMask l) (put y.jobs c.job (some j.mergeDone)) e.req.id okayWrite y))) := by
  have hcounted : e.req.countedJob = some c.job := by
    unfold Req.countedJob
    rw [htreat]
  have hdata : e.merged.getD 0 = l := by rw [hmerged]; rfl
  unfold acceptMergeWrite
  rw [he]
  dsimp only
  rw [hcounted, hdata]
  generalize writeLine y.mem e.req.line fullMask l = m
  exact congrArg (fun z => attemptRemoveOf e.req (attemptClose c.job (serveQueue i e.req.line
    (State.answer z e.req.id okayWrite)))) (countMerge m hj hroom)

theorem WritesBack.counted (h : WritesBack s i e c j l rest) : acceptMergeWrite i (grantOwn s) =
    attemptRemoveOf e.req (attemptClose c.job (serveQueue i e.req.line
      (writtenBack s e c.job j (writeLine s.mem e.req.line fullMask l)))) :=
  acceptMergeWrite_eq (y := grantOwn s) h.entry h.merged h.treatment h.job h.room

/-- A state with the given streams and tables of the line protection unit, and the given jobs. -/
def servedAs (upstream : List Req) (own : List OwnLine) (table : Vector (Option MergeEntry) 8) (claims : List Req)
    (queues : List SameLine) (jobs : Vector (Option Job) 16) (y : State) : State :=
  { y with
    port := { y.port with upstream := upstream, own := own }
    protection := { table := table, waitList := claims, queues := queues }
    jobs := jobs }

/-- The event of a write-back, by what the service of the same-line queue leaves. -/
theorem WritesBack.ends (h : WritesBack s i e c j l rest) {own : List OwnLine} {released : List Req}
    {table : Vector (Option MergeEntry) 8} {claims : List Req} {queues : List SameLine} {jobs : Vector (Option Job) 16}
    (hserved : ∀ m, serveQueue i e.req.line (writtenBack s e c.job j m) =
      servedAs (s.port.upstream ++ released) (rest ++ own) table claims queues jobs (writtenBack s e c.job j m))
    (hjobs : ∃ k, jobs[c.job] = some k ∧ k.state = .active) :
    ∃ t, exec .mergeWritebackAccept s = .next t ∧ readLine t.mem e.req.line = l ∧
      (∀ a, ¬(64 * e.req.line ≤ a ∧ a < 64 * e.req.line + 64) → readByte t.mem a = readByte s.mem a) ∧
      t.ledger = { s.ledger with mem := t.mem, merges := table, claims, jobs } ∧ t.protection.queues = queues ∧
      t.port.upstream = s.port.upstream ++ released ∧
      (s.channel.outstanding.head? = some { id := e.req.id, tag := e.req.tag, answer := none } →
        { id := e.req.id, tag := e.req.tag, answer := { status := .okay, data := none } } ∈ t.channel.returned) ∧
      ∃ more, t.port.own = rest ++ own ++ more := by
  obtain ⟨k, hk, hactive⟩ := hjobs
  have hopen : ¬(k.state = .closing ∧ k.sides = 0 ∧ k.merges = 0 ∧ k.lines = 0) := fun hdone => by
    rw [hactive] at hdone
    exact absurd hdone.1 (by decide)
  have hkeep : ∀ z : State, z.jobs = jobs → z.orders = s.orders → attemptRemoveOf e.req (attemptClose c.job z) = z :=
    fun z hz ho => by
      rw [attemptClose_of_open (j := k) (hz ▸ hk) hopen, attemptRemoveOf_of_none e.req (ho ▸ h.parked)]
  obtain ⟨m, hm⟩ : ∃ m, m = writeLine s.mem e.req.line fullMask l := ⟨_, rfl⟩
  have heffect := h.counted
  rw [← hm, hserved] at heffect
  replace heffect := heffect.trans (hkeep _ (by rfl) (by rfl))
  have hrun : exec .mergeWritebackAccept s = .next (concludeEvent s (acceptMergeWrite i (grantOwn s))) := by
    change execMergeWritebackAccept s = _
    unfold execMergeWritebackAccept
    rw [ownHead_of_turn h.turn h.own]
    rfl
  rw [heffect] at hrun
  obtain ⟨t, ht, hends, hledger⟩ := ends_of_body hrun h.noWait rfl
  have hmem : t.mem = m := congrArg Ledger.mem hledger
  refine ⟨t, ht, ?_, fun a ha => ?_, ?_, congrArg Protection.queues hends.port.protection, hends.port.upstream,
    fun hhead => ?_, ?_⟩
  · rw [hmem, hm, readLine_writeLine_full _ _ _ h.wf]
  · rw [hmem, hm]
    exact readByte_outside h.wf _ ha
  · rw [hledger, hmem]
    rfl
  · rw [hends.channel]
    exact answer_returned (s := { grantOwn s with
      mem := m, jobs := put s.jobs c.job (some j.mergeDone) }) okayWrite hhead
  · obtain ⟨more, hmore⟩ := hends.port.own
    exact ⟨more, hmore.symm⟩

/-! ### The three ways in which the entry goes on (R50) -/

theorem claimCounted_active {jobs : Vector (Option Job) 16} {k k' : Fin 16} {j : Job} (hj : jobs[k] = some j)
    (hactive : j.state = .active) : ∃ x, (claimCounted jobs k')[k] = some x ∧ x.state = .active := by
  unfold claimCounted
  by_cases h : k' = k
  · subst h
    rw [put_same, hj]
    exact ⟨_, rfl, hactive⟩
  · rw [put_other _ _ _ _ h]
    exact ⟨j, hj, hactive⟩

theorem writtenBack_queueOf (s : State) (e : MergeEntry) (k : Fin 16) (j : Job) (m : List Host.Cell) (line : Nat) :
    (writtenBack s e k j m).queueOf line = s.queueOf line := rfl

/-- How a claim that takes over the entry begins, by what then waits for the port. -/
theorem claim_begins {q : Req} {upstream : List Req} {more : List OwnLine} (hport : t.port.upstream = upstream)
    (hown : t.port.own = rest ++ claimRead upstream q i ++ more) :
    ((∀ x ∈ t.port.upstream, x.line ≠ q.line) →
        claimPhase upstream q = .reading ∧ ∃ more, t.port.own = rest ++ .mergeRead i :: more) ∧
      ((∃ x ∈ t.port.upstream, x.line = q.line) → claimPhase upstream q = .ordering) := by
  rw [hport]
  unfold claimPhase
  refine ⟨fun hfree => ?_, fun hwaits => by rw [lineFree_false.mpr hwaits]; rfl⟩
  have hfree := lineFree_iff.mpr hfree
  unfold claimRead at hown
  rw [hfree, if_pos rfl, List.append_assoc] at hown
  rw [hfree]
  exact ⟨rfl, more, hown⟩

theorem refillEntry_of_none (h : y.protection.waitList = []) : refillEntry i y = setEntry i none y := by
  unfold refillEntry
  dsimp only
  rw [show (setEntry i none y).protection.waitList = [] from h]

theorem refillEntry_of_claim {q : Req} {waiting : List Req} (h : y.protection.waitList = q :: waiting) :
    refillEntry i y = giveEntry i q { setEntry i none y with
      protection := { (setEntry i none y).protection with waitList := waiting } } := by
  unfold refillEntry
  dsimp only
  rw [show (setEntry i none y).protection.waitList = q :: waiting from h]

/-- Settles O23. -/
theorem mergeWritebackCompletesTheMerge : Obligations.MergeWritebackCompletesTheMerge := by
  intro s i e c j l rest hwf hwait hparked hturn hown he hmerged htreat hj hactive hroom line jobs accepted given ended
  have h : WritesBack s i e c j l rest := ⟨hwf, hwait, hparked, hturn, hown, he, hmerged, htreat, hj, hactive, hroom⟩
  have hjob : jobs[c.job] = some j.mergeDone := put_same _ _ _
  have hrest : (grantOwn s).port.own = rest := grantOwn_own hown
  refine ⟨fun hplain hnone => ?_, fun q d waiting hplain hwaiting hq => ?_, fun ahead behind q d hqueue hahead hq => ?_⟩
  · have hserved : ∀ m, serveQueue i line (writtenBack s e c.job j m) =
        servedAs (s.port.upstream ++ s.queueOf line) (rest ++ []) (put s.protection.table i none) s.protection.waitList
          ended jobs (writtenBack s e c.job j m) := fun m => by
      rw [serveQueue_of_none (y := writtenBack s e c.job j m) hplain,
        refillEntry_of_none (y := claimEnded line (writtenBack s e c.job j m)) hnone,
        List.append_nil, ← hrest]
      rfl
    obtain ⟨t, ht, hl, hbytes, hledger, hqueues, hupstream, hanswer, -⟩ := h.ends hserved ⟨_, hjob, hactive⟩
    exact ⟨t, ht, hl, hbytes, hledger, hqueues, hupstream, hanswer⟩
  · have hserved : ∀ m, serveQueue i line (writtenBack s e c.job j m) =
        servedAs (s.port.upstream ++ s.queueOf line)
          (rest ++ claimRead (s.port.upstream ++ s.queueOf line) q i)
          (put s.protection.table i (some
            { req := q, phase := claimPhase (s.port.upstream ++ s.queueOf line) q, merged := none }))
          waiting ended (claimCounted jobs d.job) (writtenBack s e c.job j m) := fun m => by
      rw [serveQueue_of_none (y := writtenBack s e c.job j m) hplain,
        refillEntry_of_claim (y := claimEnded line (writtenBack s e c.job j m)) hwaiting, giveEntry_given i hq, ← hrest,
        ← put_put s.protection.table i none]
      rfl
    obtain ⟨t, ht, hl, hbytes, hledger, hqueues, hupstream, hanswer, more, hmore⟩ :=
      h.ends hserved (claimCounted_active hjob hactive)
    exact ⟨t, _, { s.ledger with
      merges := put s.protection.table i (some
        { req := q, phase := claimPhase (s.port.upstream ++ s.queueOf line) q, merged := none })
      claims := waiting, jobs := claimCounted jobs d.job }, ⟨ht, hl, hbytes, hledger, hqueues, hupstream, hanswer⟩,
      ⟨rfl, claim_begins hupstream hmore⟩, rfl⟩
  · have hserved : ∀ m, serveQueue i line (writtenBack s e c.job j m) =
        servedAs (s.port.upstream ++ ahead) (rest ++ claimRead (s.port.upstream ++ ahead) q i)
          (put s.protection.table i (some
            { req := q, phase := claimPhase (s.port.upstream ++ ahead) q, merged := none }))
          s.protection.waitList
          (s.protection.queues.map fun x => if x.line = line then { x with queue := behind } else x)
          (claimCounted jobs d.job) (writtenBack s e c.job j m) := fun m => by
      rw [serveQueue_of_claim (y := writtenBack s e c.job j m) hqueue hahead (isClaim_of_merge hq), giveEntry_given i hq,
        ← hrest]
      rfl
    obtain ⟨t, ht, hl, hbytes, hledger, hqueues, hupstream, hanswer, more, hmore⟩ :=
      h.ends hserved (claimCounted_active hjob hactive)
    exact ⟨t, _, { s.ledger with
      merges := put s.protection.table i (some
        { req := q, phase := claimPhase (s.port.upstream ++ ahead) q, merged := none })
      claims := s.protection.waitList, jobs := claimCounted jobs d.job },
      ⟨ht, hl, hbytes, hledger, hqueues, hupstream, hanswer⟩, ⟨rfl, claim_begins hupstream hmore⟩, rfl⟩

end Sys2Proof.Machine
end

section

/-! PROOFS. The coverage meter computes by the formulas of R60 to R63, R67 and R69 to R73. -/

namespace Sys2Proof.Machine

/-! ### The line sum (R60 to R63) -/

/-- Bits inside a byte of a number are bits of the number. -/
theorem byte_bits (x k b d : Nat) (h : b + d ≤ 8) : x / 2 ^ (8 * k) % 2 ^ 8 / 2 ^ b % 2 ^ d = x / 2 ^ (8 * k + b) % 2 ^ d := by
  refine Nat.eq_of_testBit_eq fun i => ?_
  simp only [Nat.testBit_mod_two_pow, Nat.testBit_div_two_pow]
  by_cases hi : i < d
  · rw [decide_eq_true hi, decide_eq_true (by omega : i + b < 8), Bool.true_and, Bool.true_and]
    congr 1
    omega
  · rw [decide_eq_false hi, Bool.false_and, Bool.false_and]

theorem pixelTone_eq (l : Line) {d : Nat} (hd : d = 1 ∨ d = 2 ∨ d = 4 ∨ d = 8) (i : Nat) :
    pixelTone l d i = (byteAt l (i / (8 / d))).toNat / 2 ^ (i % (8 / d) * d) % 2 ^ d := by
  have hplace : 8 * (i / (8 / d)) + i % (8 / d) * d = d * i ∧ i % (8 / d) * d + d ≤ 8 := by
    rcases hd with rfl | rfl | rfl | rfl <;> norm_num <;> omega
  unfold pixelTone byteAt
  rw [BitVec.extractLsb'_toNat, BitVec.extractLsb'_toNat, Nat.shiftRight_eq_div_pow, Nat.shiftRight_eq_div_pow,
    byte_bits _ _ _ _ hplace.2, hplace.1]

theorem sumPixels_eq (c : Vector Nat 17) (d : Nat) (l : Line) (n : Nat) :
    sumPixels c d l n = ((List.range n).map fun i => weight c (widen d (pixelTone l d i))).sum := by
  induction n with
  | zero => rfl
  | succ n ih =>
    rw [List.range_succ, List.map_append, List.sum_append, ← ih]
    rfl

/-! ### The signature (R67) -/

theorem foldWords_eq (l : Line) (reg : BitVec 32) (n : Nat) :
    foldWords l reg n = (List.range n).foldl (fun r j => foldWord r (lineWord l j)) reg := by
  induction n with
  | zero => rfl
  | succ n ih =>
    rw [List.range_succ, List.foldl_append, ← ih]
    rfl

theorem lineWord_eq (l : Line) (j : Nat) : lineWord l j =
    BitVec.ofNat 32 ((byteAt l (4 * j)).toNat + 2 ^ 8 * (byteAt l (4 * j + 1)).toNat +
      2 ^ 16 * (byteAt l (4 * j + 2)).toNat + 2 ^ 24 * (byteAt l (4 * j + 3)).toNat) := by
  have hbyte : ∀ k, (byteAt l (4 * j + k)).toNat = l.toNat / 2 ^ (32 * j) / 2 ^ (8 * k) % 256 := fun k => by
    unfold byteAt
    rw [BitVec.extractLsb'_toNat, Nat.shiftRight_eq_div_pow, Nat.div_div_eq_div_mul, ← Nat.pow_add,
      show 8 * (4 * j + k) = 32 * j + 8 * k by omega]
  refine BitVec.eq_of_toNat_eq ?_
  have hzero := hbyte 0
  rw [Nat.add_zero] at hzero
  unfold lineWord
  rw [BitVec.extractLsb'_toNat, BitVec.toNat_ofNat, Nat.shiftRight_eq_div_pow, hzero, hbyte, hbyte, hbyte]
  generalize l.toNat / 2 ^ (32 * j) = y
  norm_num
  omega

theorem foldWord_eq (reg word : BitVec 32) :
    foldWord reg word = ((reg <<< 1) ^^^ word) ^^^ (if reg.getLsbD 31 then 0x00400007#32 else 0#32) := by
  unfold foldWord
  dsimp only
  split
  · rfl
  · rw [BitVec.xor_zero]

/-! ### Rounding and the close figures (R2, R69 to R73) -/

theorem roundHalfEven_nearest {a b : Nat} (hb : 0 < b) : 2 * roundHalfEven a b * b ≤ 2 * a + b ∧
    2 * a ≤ 2 * roundHalfEven a b * b + b ∧
      (2 * roundHalfEven a b * b = 2 * a + b ∨ 2 * a = 2 * roundHalfEven a b * b + b → roundHalfEven a b % 2 = 0) := by
  have hdiv := Nat.div_add_mod a b
  have hmod := Nat.mod_lt a hb
  unfold roundHalfEven
  dsimp only
  generalize a / b = q at hdiv ⊢
  generalize a % b = r at hdiv hmod ⊢
  have hq : 2 * q * b = 2 * (b * q) := by ring
  have hq1 : 2 * (q + 1) * b = 2 * (b * q) + 2 * b := by ring
  generalize b * q = m at hdiv hq hq1
  split
  · rw [hq]
    omega
  · split
    · rw [hq1]
      omega
    · split
      · rw [hq]
        omega
      · rw [hq1]
        omega

theorem sum_ofFn_four (f : Plane → Nat) : (Vector.ofFn f).toList.sum = f 0 + f 1 + f 2 + f 3 := by
  rw [Vector.toList_ofFn, List.sum_ofFn, Fin.sum_univ_four]

theorem coverage_eq (b : Bool) (m : PlaneMeter) : (if b then coverageOf m else 0) =
    if b = false ∨ m.pixels = 0 then 0 else roundHalfEven (m.sum * 10000) (m.pixels * 4095) := by
  unfold coverageOf
  cases b with
  | false => rfl
  | true => simp

theorem classOf_eq (mode : SideMode) (threshold : Nat) (f : Plane → Nat) : classOf mode threshold (Vector.ofFn f) =
    if mode = .colour ∨ (mode = .auto ∧ ∃ p : Plane, p ≠ 3 ∧ threshold ≤ f p) then .colour else .mono := by
  have hplanes : (∃ p : Plane, p ≠ 3 ∧ threshold ≤ f p) ↔ threshold ≤ f 0 ∨ threshold ≤ f 1 ∨ threshold ≤ f 2 := by
    refine ⟨fun ⟨p, hp, hle⟩ => ?_, ?_⟩
    · fin_cases p
      · exact .inl hle
      · exact .inr (.inl hle)
      · exact .inr (.inr hle)
      · exact absurd rfl hp
    · rintro (h | h | h)
      · exact ⟨0, by decide, h⟩
      · exact ⟨1, by decide, h⟩
      · exact ⟨2, by decide, h⟩
  cases mode with
  | mono => rfl
  | colour => rfl
  | auto =>
    simp only [reduceCtorEq, false_or, true_and, hplanes]
    simp [classOf]

/-- The coverage meter's formulas. -/
theorem metersByTheRules : MetersByTheRules where
  sum := fun curve depth l hd => by
    unfold lineSum
    rw [sumPixels_eq]
    refine congrArg List.sum (List.map_congr_left fun i _ => ?_)
    rw [pixelTone_eq l hd]
    rfl
  fold := fun register l => by
    unfold foldLine
    rw [foldWords_eq]
    refine congrArg (fun f => (List.range 16).foldl f register) (funext fun r => funext fun j => ?_)
    rw [lineWord_eq, foldWord_eq]
  rounding := fun a b hb => roundHalfEven_nearest hb
  figures := fun set r context hcontext => by
    intro metered coverage sum
    have hmeter : r.meterOf = metered := funext fun p => by
      unfold Side.meterOf
      rw [hcontext]
      rfl
    have hcoverage : (fun p => if hasPlane r.planes p then coverageOf (r.meterOf p) else 0) = coverage :=
      funext fun p => by rw [hmeter]; exact coverage_eq _ _
    have hsum : (Vector.ofFn coverage).toList.sum = sum := sum_ofFn_four coverage
    unfold closeFigures
    dsimp only
    rw [hcoverage, hsum, hmeter, classOf_eq, hcontext]
    rfl

end Sys2Proof.Machine
end

section

/-! PROOFS. The grants of reads: answers, deciphering, and readout of no side (R18, R45, R74, R105). -/

namespace Sys2Proof.Machine

variable {s t x z : State} {r : Req} {rest : List Req}

/-! ### The answer of a read -/

/-- A read is granted and answered, and its job, if it has one, is counted. -/
def readAnswered (s : State) (r : Req) (jobs : Vector (Option Job) 16) (l : Line) : State :=
  afterGrant s.mem jobs r.id (okayRead l) (granting s)

/-- The event of an upstream grant in which the request is answered with a line. -/
def Granted (s : State) (r : Req) (rest : List Req) (l : Line) (t : State) : Prop :=
  exec .upstreamGrant s = .next t ∧ t.port.upstream = rest ∧
    (s.channel.outstanding.head? = some { id := r.id, tag := r.tag, answer := none } →
      { id := r.id, tag := r.tag, answer := { status := .okay, data := some l } } ∈ t.channel.returned)

theorem granted_of_perform (hport : s.port.upstream = r :: rest) (hturn : s.upstreamTurn = true)
    {jobs : Vector (Option Job) 16} {l : Line} (hperform : performGrant r (granting s) = x)
    (hwait : x.orders.resetWait = none) (hchannel : x.channel = (readAnswered s r jobs l).channel)
    (hupstream : x.port.upstream = (granting s).port.upstream) : ∃ t, Granted s r rest l t ∧ GrantEnds s x t r := by
  obtain ⟨t, ht, hends⟩ := upstreamGrant_ends hport hturn (by rw [hperform]; exact hwait)
  rw [hperform] at hends
  refine ⟨t, ⟨ht, hends.upstream.trans (hupstream.trans (granting_upstream hport)), fun hhead => ?_⟩, hends⟩
  rw [hends.channel, hchannel]
  exact answer_returned (s := { granting s with mem := s.mem, jobs := jobs }) (okayRead l) hhead

theorem performGrant_decipher {c : Cipher} (htreat : r.treatment = .decipherRead c) : performGrant r (granting s) =
    leaveLineCount c.job (readAnswered s r s.jobs (decipher c.key c.offset (readLine s.mem r.line))) := by
  unfold performGrant
  rw [htreat]
  rfl

theorem performGrant_meter {m : Readout} (htreat : r.treatment = .meter m) : performGrant r (granting s) =
    handOver m (readLine s.mem r.line) (readAnswered s r s.jobs (readLine s.mem r.line)) := by
  unfold performGrant
  rw [htreat]
  rfl

/-- A read leaves the line count of a job that keeps its slot. -/
theorem leaveLineCount_read {c : Cipher} {j : Job} (l : Line) (hj : s.jobs[c.job] = some j) (hkeeps : j.keepsSlotAtLine) :
    leaveLineCount c.job (readAnswered s r s.jobs l) =
      readAnswered s r (put s.jobs c.job (some { j with lines := j.lines - 1 })) l := by
  rw [leaveLineCount_of_keeps (s := readAnswered s r s.jobs l) hj hkeeps]
  rfl

theorem performGrant_decipherMeter {c : Cipher} {m : Readout} {j : Job} (htreat : r.treatment = .decipherAndMeter c m)
    (hj : s.jobs[c.job] = some j) (hkeeps : j.keepsSlotAtLine) : performGrant r (granting s) =
    handOver m (decipher c.key c.offset (readLine s.mem r.line)) (readAnswered s r
      (put s.jobs c.job (some { j with lines := j.lines - 1 })) (decipher c.key c.offset (readLine s.mem r.line))) := by
  have hread := leaveLineCount_read (r := r) (decipher c.key c.offset (readLine s.mem r.line)) hj hkeeps
  unfold performGrant
  rw [htreat]
  dsimp only
  rw [← hread]
  rfl

/-! ### Deciphering reads (R45) -/

/-- A deciphering read whose job keeps its slot. -/
theorem decipherRead_keeps {c : Cipher} {j : Job} (hwait : s.orders.resetWait = none) (hport : s.port.upstream = r :: rest)
    (hturn : s.upstreamTurn = true) (htreat : r.treatment = .decipherRead c) (hj : s.jobs[c.job] = some j)
    (hkeeps : j.keepsSlotAtLine) : ∃ t, Granted s r rest (decipher c.key c.offset (readLine s.mem r.line)) t ∧
      t.ledger = { s.ledger with
        jobs := put s.jobs c.job (some { j with lines := j.lines - 1 }), merges := t.protection.table } := by
  obtain ⟨t, ht, hends⟩ := granted_of_perform hport hturn
    ((performGrant_decipher htreat).trans (leaveLineCount_read _ hj hkeeps)) hwait rfl rfl
  exact ⟨t, ht, hends.ledger rfl⟩

/-- The last work of a CLOSING job leaves it (R37, R38). -/
theorem leaveLineCount_closes {i : Fin 16} {j : Job} {voided : Nat} {p : ParkedOrder} {before after : List ParkedOrder}
    (hj : s.jobs[i] = some j) (hstate : j.state = .closing) (hsides : j.sides = 0) (hmerges : j.merges = 0)
    (hlines : j.lines = 1) (hparked : CloseParked s i voided p before after) :
    leaveLineCount i s = closedBy i s { s.orders with
      parked := before ++ after
      completed := [p.result none
        [u8 i.val, u16 j.tag, u8 j.kind.code, u32 (s.userId j.owner), u32 j.enciphered, u32 j.settled, u8 voided,
          u8 (boundRegions i s.classifier.regions)]] } := by
  have hclose := attemptClose_completes (s := lineLeaves i s) (j := { j with lines := j.lines - 1 })
    (by unfold lineLeaves; rw [onJob_of_some hj]; exact put_same _ _ _) ⟨hstate, hsides, hmerges, by rw [hlines]⟩
    hparked.place hparked.object hparked.first
  unfold leaveLineCount
  rw [hclose, show (lineLeaves i s).orders.completed = [] from hparked.completed]
  unfold closedBy
  dsimp only
  rw [show (lineLeaves i s).jobs = put s.jobs i (s.jobs[i].map fun j => { j with lines := j.lines - 1 }) from rfl, put_put]
  rfl

/-- A deciphering read that is the last work of a CLOSING job. -/
theorem decipherRead_closes {c : Cipher} {j : Job} {voided : Nat} {p : ParkedOrder} {before after : List ParkedOrder}
    (hwait : s.orders.resetWait = none) (hport : s.port.upstream = r :: rest) (hturn : s.upstreamTurn = true)
    (htreat : r.treatment = .decipherRead c) (hj : s.jobs[c.job] = some j) (hstate : j.state = .closing)
    (hsides : j.sides = 0) (hmerges : j.merges = 0) (hlines : j.lines = 1)
    (hparked : CloseParked s c.job voided p before after) :
    ∃ t, Granted s r rest (decipher c.key c.offset (readLine s.mem r.line)) t ∧ JobCloses s t c.job j voided p before after ∧
      t.ledger = { s.ledger with jobs := t.jobs, classifier := t.classifier, merges := t.protection.table } := by
  have hclose := leaveLineCount_closes (s := readAnswered s r s.jobs (decipher c.key c.offset (readLine s.mem r.line)))
    hj hstate hsides hmerges hlines ⟨hparked.place, hparked.object, hparked.first, hparked.completed, hparked.room⟩
  obtain ⟨t, ht, hends⟩ := granted_of_perform hport hturn ((performGrant_decipher htreat).trans hclose) hwait rfl rfl
  have hledger := hends.ledger rfl
  have horders := hends.orders.trans (OrderTaker.moved_of_one rfl hparked.room)
  refine ⟨t, ht, ⟨(congrArg Ledger.jobs hledger).trans rfl, (congrArg Ledger.classifier hledger).trans rfl,
    congrArg OrderTaker.parked horders, congrArg OrderTaker.holding horders⟩, ?_⟩
  rw [show t.jobs = t.ledger.jobs from rfl, show t.classifier = t.ledger.classifier from rfl, hledger]
  rfl

/-! ### Readout of no side (R74, R105) -/

theorem addSat_eq (limit a d : Nat) : addSat limit a d = (min limit (a + d), decide (limit < a + d)) := by
  unfold addSat
  by_cases h : limit < a + d
  · rw [if_pos h, decide_eq_true h, Nat.min_eq_left (Nat.le_of_lt h)]
  · rw [if_neg h, decide_eq_false h, Nat.min_eq_right (Nat.le_of_not_lt h)]

/-- The unattributed record of a plane once a line of the given weight has joined it (R74). -/
def Unattributed.added (u : Unattributed) (sum : Nat) : Unattributed :=
  { sum := min 1099511627775 (u.sum + sum), tally := min 4294967295 (u.tally + 1)
    saturated := u.saturated || decide (1099511627775 < u.sum + sum) }

/-- The device meters once an unattributed line of a plane is counted (R132). -/
def DeviceMeters.unattributedUp (m : DeviceMeters) (p : Plane) : DeviceMeters :=
  { m with unattributed := put m.unattributed p (min 4294967295 (m.unattributed[p] + 1)) }

theorem raiseIf_eq (s : State) (b : Bool) (n : Notice) : s.raiseIf b n = { s with
    writer := { s.writer with notices := s.writer.notices ||| (if b then 1#32 <<< n.bit else 0#32) } } := by
  cases b with
  | false =>
    rw [if_neg Bool.false_ne_true, BitVec.or_zero]
    rfl
  | true => rfl

theorem unattributedNotices (map : BitVec 32) (a b : Bool) :
    map ||| (if a then 1#32 <<< Notice.bit .saturation else 0#32) |||
      (if b then 1#32 <<< Notice.bit .saturation else 0#32) ||| 1#32 <<< Notice.bit .unattributed =
    map ||| (if a = false ∧ b = false then 4#32 else 12#32) := by
  rw [BitVec.or_assoc, BitVec.or_assoc]
  congr 1
  cases a <;> cases b <;> rfl

theorem takeUnattributed_eq (p : Plane) (sum : Nat) (z : State) : takeUnattributed p sum z = { z with
    unattributed := put z.unattributed p (z.unattributed[p].added sum)
    accounts := { z.accounts with meters := z.accounts.meters.unattributedUp p }
    writer := { z.writer with notices := z.writer.notices |||
      (if z.unattributed[p].sum + sum ≤ 1099511627775 ∧ z.accounts.meters.unattributed[p] < 4294967295 then 4#32
        else 12#32) } } := by
  have hiff : (z.unattributed[p].sum + sum ≤ 1099511627775 ∧ z.accounts.meters.unattributed[p] < 4294967295) ↔
      (decide (maxSum < z.unattributed[p].sum + sum) = false ∧
        decide (max32 < z.accounts.meters.unattributed[p] + 1) = false) := by
    rw [decide_eq_false_iff_not, decide_eq_false_iff_not, maxSum, max32]
    omega
  unfold takeUnattributed countUnattributed meterUp tallyUnattributed addUnattributedWeight
  dsimp only
  rw [addSat_eq, addSat_eq, raiseIf_eq, raiseIf_eq, if_congr hiff rfl rfl, ← unattributedNotices]
  unfold State.raise
  dsimp only
  rw [put_same, put_put]
  rfl

/-- A readout line of no side that takes it (R74, R105). -/
theorem handOver_unattributed {m : Readout} (l : Line) (h : ∀ y, z.meteringSide = some y →
    ¬(m.side = some y.uid ∧ hasPlane y.planes m.plane = true ∧ (y.meterOf m.plane).lines < y.expected[m.plane])) :
    handOver m l z = takeUnattributed m.plane (lineSum z.store.live.curves[m.plane] m.depth l) z := by
  have hnone : attributeLine m z = none := by
    unfold attributeLine
    cases hside : z.meteringSide with
    | none => rfl
    | some y => exact if_neg (h y hside)
  unfold handOver
  rw [hnone]

/-- The event of a readout line of no side. -/
theorem unattributed_granted {m : Readout} {l : Line} {jobs : Vector (Option Job) 16}
    (hwait : s.orders.resetWait = none) (hport : s.port.upstream = r :: rest) (hturn : s.upstreamTurn = true)
    (hperform : performGrant r (granting s) = handOver m l (readAnswered s r jobs l))
    (h : ∀ y, s.meteringSide = some y →
      ¬(m.side = some y.uid ∧ hasPlane y.planes m.plane = true ∧ (y.meterOf m.plane).lines < y.expected[m.plane])) :
    ∃ t, Granted s r rest l t ∧ t.ledger = { s.ledger with
      unattributed := put s.unattributed m.plane
        (s.unattributed[m.plane].added (lineSum s.store.live.curves[m.plane] m.depth l))
      accounts := { s.accounts with meters := s.accounts.meters.unattributedUp m.plane }
      notices := s.writer.notices |||
        (if s.unattributed[m.plane].sum + lineSum s.store.live.curves[m.plane] m.depth l ≤ 1099511627775 ∧
          s.accounts.meters.unattributed[m.plane] < 4294967295 then 4#32 else 12#32)
      merges := t.protection.table, jobs } := by
  have hhand := (handOver_unattributed (z := readAnswered s r jobs l) (m := m) l h).trans (takeUnattributed_eq _ _ _)
  obtain ⟨t, ht, hends⟩ := granted_of_perform hport hturn (hperform.trans hhand) hwait rfl rfl
  exact ⟨t, ht, hends.ledger rfl⟩

end Sys2Proof.Machine
end

section

/-! PROOFS. The hand-over of a readout line to its side, and the close that completes it (R59, R65 to R68, R105, R106,
R108 to R110). -/

namespace Sys2Proof.Machine

variable {s t x z : State} {r : Req} {rest : List Req}

/-! ### The hand-over to a side (R59, R65 to R68) -/

/-- A readout line that its side takes, while no accumulator or count of the side stands at its maximum. -/
structure TakesLine (z : State) (y : Side) (m : Readout) (l : Line) (context : MeterContext) (pm : PlaneMeter) : Prop where
  metering : z.meteringSide = some y
  attributed : m.side = some y.uid
  plane : hasPlane y.planes m.plane = true
  record : y.context = some context
  meter : context.planes[m.plane] = some pm
  due : pm.lines < y.expected[m.plane]
  sum : pm.sum + lineSum z.store.live.curves[m.plane] m.depth l ≤ 1099511627775
  pixels : pm.pixels + 512 / m.depth < 4294967295
  lines : pm.lines + 1 < 4294967295

/-- The metering context of a side once a line has joined it (R65 to R67). -/
def MeterContext.taken (context : MeterContext) (set : ParamSet) (m : Readout) (pm : PlaneMeter) (l : Line) : MeterContext :=
  { context with
    planes := put context.planes m.plane (some
      { sum := pm.sum + lineSum set.curves[m.plane] m.depth l, pixels := pm.pixels + 512 / m.depth, lines := pm.lines + 1 })
    signature := if hasPlane set.mask m.plane then foldLine context.signature l else context.signature }

theorem addLine_of_room {pm : PlaneMeter} {d sum : Nat} (hsum : pm.sum + sum ≤ 1099511627775)
    (hpixels : pm.pixels + 512 / d < 4294967295) (hlines : pm.lines + 1 < 4294967295) :
    addLine pm d sum = ({ sum := pm.sum + sum, pixels := pm.pixels + 512 / d, lines := pm.lines + 1 }, false) := by
  unfold addLine maxSum max32
  dsimp only
  rw [addSat_eq, Nat.min_eq_right hsum, decide_eq_false (Nat.not_lt.mpr hsum),
    Nat.min_eq_right (Nat.le_of_lt hpixels), Nat.min_eq_right (Nat.le_of_lt hlines), decide_eq_false (Nat.ne_of_lt hpixels),
    decide_eq_false (Nat.ne_of_lt hlines)]
  rfl

theorem TakesLine.metered {y : Side} {m : Readout} {l : Line} {context : MeterContext} {pm : PlaneMeter}
    (h : TakesLine z y m l context pm) :
    meterLine z.store.live m.plane m.depth l context = (context.taken z.store.live m pm l, false) := by
  unfold meterLine
  rw [h.meter, Option.getD_some, addLine_of_room h.sum h.pixels h.lines]
  dsimp only
  rw [Bool.or_false]
  rfl

/-- The record of a side with its metering context replaced. -/
def Side.withContext (y : Side) (c : MeterContext) : Side := { y with context := some c }

theorem TakesLine.handOver {y : Side} {m : Readout} {l : Line} {context : MeterContext} {pm : PlaneMeter}
    (h : TakesLine z y m l context pm) : handOver m l z =
      if (y.withContext (context.taken z.store.live m pm l)).readoutComplete then
        closeSide (y.withContext (context.taken z.store.live m pm l)) .complete
          (z.onSide y.uid fun v => v.withContext (context.taken z.store.live m pm l))
      else z.onSide y.uid fun v => v.withContext (context.taken z.store.live m pm l) := by
  have hmeter : y.meterOf m.plane = pm := by
    unfold Side.meterOf
    rw [h.record, Option.bind_some, h.meter]
    rfl
  have hattributed : attributeLine m z = some y := by
    unfold attributeLine
    rw [h.metering]
    exact if_pos ⟨h.attributed, h.plane, by rw [hmeter]; exact h.due⟩
  unfold Machine.handOver
  rw [hattributed]
  dsimp only
  unfold meterToSide
  rw [h.record]
  dsimp only
  rw [h.metered]
  rfl

theorem readoutComplete_iff (y : Side) :
    y.readoutComplete = true ↔ ∀ p : Plane, hasPlane y.planes p = true → (y.meterOf p).lines = y.expected[p] := by
  unfold Side.readoutComplete
  rw [List.all_eq_true]
  refine ⟨fun h p hp => ?_, fun h p _ => ?_⟩
  · have hmem : ∀ q : Plane, q ∈ allPlanes := by decide
    have := h p (hmem p)
    rw [hp] at this
    exact of_decide_eq_true this
  · cases hp : hasPlane y.planes p with
    | false => rfl
    | true => exact decide_eq_true (h p hp)

/-- The side list with the metering context of one side replaced. -/
def SideList.metered (l : SideList) (uid : Nat) (c : MeterContext) : SideList :=
  { l with records := l.records.map fun y => if y.uid = uid then y.withContext c else y }

/-- The event of a readout line that does not complete its side's readout. -/
theorem metered_granted {m : Readout} {l : Line} {jobs : Vector (Option Job) 16} {y : Side} {context : MeterContext}
    {pm : PlaneMeter} (hwait : s.orders.resetWait = none) (hport : s.port.upstream = r :: rest)
    (hturn : s.upstreamTurn = true) (hperform : performGrant r (granting s) = handOver m l (readAnswered s r jobs l))
    (h : TakesLine s y m l context pm)
    (hopen : (y.withContext (context.taken s.store.live m pm l)).readoutComplete = false) :
    ∃ t, Granted s r rest l t ∧ t.ledger = { s.ledger with
      merges := t.protection.table, sides := s.sides.metered y.uid (context.taken s.store.live m pm l), jobs } := by
  have htakes : TakesLine (readAnswered s r jobs l) y m l context pm :=
    ⟨h.metering, h.attributed, h.plane, h.record, h.meter, h.due, h.sum, h.pixels, h.lines⟩
  have hhand := htakes.handOver
  rw [show (readAnswered s r jobs l).store = s.store from rfl, hopen, if_neg Bool.false_ne_true] at hhand
  obtain ⟨t, ht, hends⟩ := granted_of_perform hport hturn (hperform.trans hhand) hwait rfl rfl
  exact ⟨t, ht, hends.ledger rfl⟩

/-! ### The close of the side of a CLOSING job (R33, R38, R108 to R110) -/

theorem settledWith_userId {y : Side} {u w : User} (hid : w.id = u.id) (hu : s.accounts.users[y.userSlot] = some u)
    (sides : SideList) (m : Counters) (k : Fin 64) : (s.settledWith y sides u w m).userId k = s.userId k := by
  unfold State.userId State.settledWith
  dsimp only
  by_cases hk : y.userSlot = k
  · subst hk
    rw [put_same, hu]
    exact hid
  · rw [put_other _ _ _ _ hk]

/-- The count of a settled side, and the completion of a close that it brings (R33, R37, R38). -/
theorem jobCounts_closes {i : Fin 16} {j : Job} {voided : Nat} {p : ParkedOrder} {before after : List ParkedOrder}
    (hj : s.jobs[i] = some j) (hroom : j.settled < 4294967295) (hstate : j.state = .closing) (hsides : j.sides = 1)
    (hmerges : j.merges = 0) (hlines : j.lines = 0) (hparked : CloseParked s i voided p before after) :
    sideLeaves i (countSettled i s) = closedBy i s { s.orders with
      parked := before ++ after
      completed := [p.result none
        [u8 i.val, u16 j.tag, u8 j.kind.code, u32 (s.userId j.owner), u32 j.enciphered, u32 (j.settled + 1), u8 voided,
          u8 (boundRegions i s.classifier.regions)]] } := by
  have hjobs : ∃ jobs, jobs[i] = some { j with settled := j.settled + 1, sides := j.sides - 1 } ∧
      put jobs i none = put s.jobs i none ∧
      sideLeaves i (countSettled i s) = attemptClose i { s with jobs := jobs } := by
    refine ⟨put s.jobs i (some { j with settled := j.settled + 1, sides := j.sides - 1 }), put_same _ _ _, put_put _ _ _ _, ?_⟩
    unfold sideLeaves
    rw [countSettled_of_room hj hroom, onJob_of_some (j := { j with settled := j.settled + 1 }) (put_same _ _ _)]
    dsimp only
    rw [put_put]
  obtain ⟨jobs, hjob, hput, hleaves⟩ := hjobs
  have hclose := attemptClose_completes (s := { s with jobs := jobs }) hjob ⟨hstate, by rw [hsides], hmerges, hlines⟩
    hparked.place hparked.object hparked.first
  rw [hleaves, hclose, show (State.orders { s with jobs := jobs }).completed = [] from hparked.completed]
  unfold closedBy
  dsimp only
  rw [hput]
  rfl

/-- A close that is the last work of a CLOSING job, from what its settlement leaves. -/
theorem closeSide_of_closes {y : Side} {o : SideOutcome} {charge : Nat} {capped : Bool} {j : Job} {u w : User}
    {m : Counters} {voided : Nat} {p : ParkedOrder} {before after : List ParkedOrder}
    (hsettle : settleSide y o s = s.settledWith y (s.sides.marked s y o charge capped) u w m)
    (hid : w.id = u.id) (hu : s.accounts.users[y.userSlot] = some u)
    (hj : s.jobs[y.jobSlot] = some j) (hroom : j.settled < 4294967295) (hstate : j.state = .closing) (hsides : j.sides = 1)
    (hmerges : j.merges = 0) (hlines : j.lines = 0) (hparked : CloseParked s y.jobSlot voided p before after) :
    ∃ draws cartridges notices, closeSide y o s =
      { closedBy y.jobSlot (s.settledWith y (s.sides.closed s y o charge capped) u w m) { s.orders with
          parked := before ++ after
          completed := [p.result none
            [u8 y.jobSlot.val, u16 j.tag, u8 j.kind.code, u32 (s.userId j.owner), u32 j.enciphered, u32 (j.settled + 1),
              u8 voided, u8 (boundRegions y.jobSlot s.classifier.regions)]] } with
        draws, cartridges
        writer := { s.writer with notices, userMap := warnedMap s.writer.userMap y.userSlot u.warned w.warned } } ∧
    Routing s (sideRun s y (closeFigures s.store.live y)) (hasPlane y.planes) (closeSide y o s) := by
  rw [closeSide_eq, hsettle]
  unfold afterSettlement
  rw [jobCounts_closes (s := s.settledWith y (s.sides.marked s y o charge capped) u w m) hj hroom hstate hsides hmerges
    hlines ⟨hparked.place, hparked.object, hparked.first, hparked.completed, hparked.room⟩, settledWith_userId hid hu]
  obtain ⟨draws, cartridges, notices, hclosed, hrouting⟩ := handDraw_closed (s := s) (r := y) (o := o) (charge := charge)
    (capped := capped) (t := closedBy y.jobSlot (s.settledWith y (s.sides.marked s y o charge capped) u w m) { s.orders with
      parked := before ++ after
      completed := [p.result none
        [u8 y.jobSlot.val, u16 j.tag, u8 j.kind.code, u32 (s.userId j.owner), u32 j.enciphered, u32 (j.settled + 1),
          u8 voided, u8 (boundRegions y.jobSlot s.classifier.regions)]] }) rfl rfl
  exact ⟨draws, cartridges, notices, hclosed, hrouting⟩

end Sys2Proof.Machine
end

section

/-! PROOFS. The readout line that completes a side (R106), and the law of every read (R45, R59). -/

namespace Sys2Proof.Machine

variable {s t x z : State} {r : Req} {rest : List Req} {y : Side} {m : Readout} {l : Line} {context : MeterContext}
  {pm : PlaneMeter}

/-! ### What a closing readout leaves -/

/-- The tables after a grant, but for the merge table and the notices. -/
theorem GrantEnds.tables (h : GrantEnds s x t r) :
    t.ledger = { x.ledger with merges := t.protection.table, notices := t.writer.notices } := by
  obtain ⟨y, hwakes, hgrows, -⟩ := h.grows
  have htable : t.protection.table = y.protection.table := congrArg Ledger.merges hgrows.1
  have hledger := hgrows.1
  rw [hledger, htable, hwakes.rest]
  rfl

/-- The routing of draws goes on to the end of a grant's event. -/
theorem GrantEnds.routed (h : GrantEnds s x t r) {side : Plane → Option (Nat × Option Serial)} {draws : Draws}
    {counted : Plane → Bool} (hr : Routing s draws counted x)
    (hdraws : ∀ p, draws p = ((side p).map fun v => (sidePlace s p v.2, v.1)).toList)
    (hcounted : ∀ p, counted p = (side p).isSome) : DrawRouted s t side fun _ => none := by
  obtain ⟨v, hwakes, hgrows, -⟩ := h.grows
  have hnotices : v.writer.notices = x.writer.notices := (congrArg (fun w => w.writer.notices) hwakes.rest).trans rfl
  have hcart : v.cartridges = x.cartridges := (congrArg State.cartridges hwakes.rest).trans rfl
  refine (hr.kept hcart fun hbit => by rw [hnotices]; exact hbit).drawRouted (fun p => ?_) hcounted hgrows
  rw [hdraws p]
  exact (List.append_nil _).symm

/-- What the grant of a line that completes a side's readout leaves, but for the job. -/
structure ReadoutCloses (s : State) (r : Req) (y : Side) (uid : Nat) (c : MeterContext) (owner : User) (l : Line)
    (jobs : Vector (Option Job) 16) (x : State) : Prop where
  wait : x.orders.resetWait = none
  channel : x.channel = (readAnswered s r jobs l).channel
  upstream : x.port.upstream = (granting s).port.upstream
  sides : x.sides = { s.sides with
    settledOrder := s.sides.settledOrder ++ [uid]
    records := s.sides.records.map fun v => if v.uid = uid then
      closedRecord s y .complete (min y.reserve (livePrice s y)) (decide (y.reserve < livePrice s y)) (v.withContext c)
      else v }
  mem : x.mem = s.mem
  store : x.store = s.store
  unattributed : x.unattributed = s.unattributed
  accounts : x.accounts = { s.accounts with
    users := put s.accounts.users y.userSlot (some (settledUser s y owner))
    meters := { s.accounts.meters with sides := countedSide s y s.accounts.meters.sides } }
  warning : x.writer.userMap = warnedMap s.writer.userMap y.userSlot owner.warned (settledUser s y owner).warned
  routing : Routing s (sideRun s y (closeFigures s.store.live y)) (hasPlane y.planes) x

/-- The record of the side with the new line, in the list of sides, once it is closed. -/
theorem metered_closed (uid : Nat) (c : MeterContext) (hy : y.uid = uid) (o : SideOutcome) (charge : Nat) (capped : Bool)
    (hsides : z.sides = s.sides.metered uid c) (hstore : z.store = s.store) (hcart : z.cartridges = s.cartridges) :
    z.sides.closed z y o charge capped = { s.sides with
      settledOrder := s.sides.settledOrder ++ [uid]
      records := s.sides.records.map fun v => if v.uid = uid then closedRecord s y o charge capped (v.withContext c) else v } := by
  have hrecord : ∀ v, closedRecord z y o charge capped v = closedRecord s y o charge capped v := fun v => by
    unfold closedRecord
    rw [hstore, unprovenPlanes_of_cartridges hcart]
  unfold SideList.closed
  rw [hsides, hy]
  unfold SideList.metered
  dsimp only
  rw [List.map_map]
  congr 1
  refine List.map_congr_left fun v _ => ?_
  by_cases hv : v.uid = uid
  · have hv' : (v.withContext c).uid = uid := hv
    simp only [Function.comp_apply, hv, if_true, hv', hrecord]
  · simp only [Function.comp_apply, hv, if_false]

/-- The state in which a line has joined the metering context of its side. -/
def lineTaken (s : State) (r : Req) (y : Side) (jobs : Vector (Option Job) 16) (l : Line) (c : MeterContext) : State :=
  (readAnswered s r jobs l).onSide y.uid fun v => v.withContext c

theorem settle_taken {owner : User} {j : Job} {jobs : Vector (Option Job) 16} {c : MeterContext}
    (hroom : RoomToSettle s y j owner) (hu : s.accounts.users[y.userSlot] = some owner) :
    settleSide (y.withContext c) .complete (lineTaken s r y jobs l c) =
      (lineTaken s r y jobs l c).settledWith (y.withContext c)
        ((lineTaken s r y jobs l c).sides.marked (lineTaken s r y jobs l c) (y.withContext c) .complete
          (min y.reserve (livePrice s (y.withContext c))) (decide (y.reserve < livePrice s (y.withContext c))))
        owner (settledUser s (y.withContext c) owner) (countedSide s (y.withContext c) s.accounts.meters.sides) :=
  settleSide_charged (s := lineTaken s r y jobs l c) (r := y.withContext c) (by decide) hu hroom.user hroom.meters hroom.spent

theorem settledUser_id (s : State) (y : Side) (u : User) : (settledUser s y u).id = u.id := rfl

theorem lineTaken_cartridges (s : State) (r : Req) (y : Side) (jobs : Vector (Option Job) 16) (l : Line) (c : MeterContext) :
    (lineTaken s r y jobs l c).cartridges = s.cartridges := rfl

/-- The routing of a closed side's draw, seen from the state before the event. -/
theorem routing_taken {jobs : Vector (Option Job) 16} {c : MeterContext} (h : Routing (lineTaken s r y jobs l c)
      (sideRun (lineTaken s r y jobs l c) (y.withContext c)
        (closeFigures (lineTaken s r y jobs l c).store.live (y.withContext c))) (hasPlane (y.withContext c).planes) x) :
    Routing s (sideRun s (y.withContext c) (closeFigures s.store.live (y.withContext c)))
      (hasPlane (y.withContext c).planes) x := by
  have hrouted := h.transfer (lineTaken_cartridges s r y jobs l c)
  rw [sideRun_of_cartridges (lineTaken_cartridges s r y jobs l c)] at hrouted
  exact hrouted

/-- The close of a complete readout whose job keeps its slot. -/
theorem closeSide_taken_keeps {owner : User} {j left : Job} {jobs : Vector (Option Job) 16} {c : MeterContext}
    (hwait : s.orders.resetWait = none) (hroom : RoomToSettle s y j owner) (hu : s.accounts.users[y.userSlot] = some owner)
    (hjob : jobs[y.jobSlot] = some left) (hsettled : left.settled = j.settled) (hkeeps : left.keepsSlot) :
    ∃ x, closeSide (y.withContext c) .complete (lineTaken s r y jobs l c) = x ∧
      ReadoutCloses s r (y.withContext c) y.uid c owner l jobs x ∧ x.classifier = s.classifier ∧
      x.jobs = put jobs y.jobSlot (some { left with sides := left.sides - 1, settled := left.settled + 1 }) := by
  obtain ⟨draws, cartridges, notices, hstate, hrouting⟩ := closeSide_of_keeps (settle_taken (r := r) (l := l) (jobs := jobs)
    (c := c) hroom hu) hjob hkeeps (hsettled ▸ hroom.settled)
  refine ⟨_, rfl, ⟨?_, ?_, ?_, ?_, ?_, ?_, ?_, ?_, ?_, routing_taken hrouting⟩, ?_, ?_⟩
  all_goals rw [hstate]
  · exact hwait
  · rfl
  · rfl
  · exact metered_closed (s := s) (z := lineTaken s r y jobs l c) (y := y.withContext c) y.uid c rfl _ _ _ rfl rfl rfl
  all_goals rfl

/-- The close of a complete readout that is the last work of a CLOSING job. -/
theorem closeSide_taken_closes {owner : User} {j left : Job} {jobs : Vector (Option Job) 16} {c : MeterContext}
    {voided : Nat} {p : ParkedOrder} {before after : List ParkedOrder} (hwait : s.orders.resetWait = none)
    (hroom : RoomToSettle s y j owner) (hu : s.accounts.users[y.userSlot] = some owner) (hjob : jobs[y.jobSlot] = some left)
    (hsettled : left.settled = j.settled) (hstate : left.state = .closing) (hsides : left.sides = 1)
    (hmerges : left.merges = 0) (hlines : left.lines = 0) (hparked : CloseParked s y.jobSlot voided p before after)
    (hjobs : put jobs y.jobSlot none = put s.jobs y.jobSlot none) :
    ∃ x, closeSide (y.withContext c) .complete (lineTaken s r y jobs l c) = x ∧
      ReadoutCloses s r (y.withContext c) y.uid c owner l jobs x ∧
      ∀ t : State, t.orders = x.orders.moved → t.jobs = x.jobs → t.classifier = x.classifier →
        JobCloses s t y.jobSlot { left with settled := j.settled + 1 } voided p before after := by
  obtain ⟨draws, cartridges, notices, hclosed, hrouting⟩ := closeSide_of_closes (settle_taken (r := r) (l := l)
    (jobs := jobs) (c := c) hroom hu) (settledUser_id _ _ _) hu hjob (hsettled ▸ hroom.settled) hstate hsides hmerges hlines
    (voided := voided) (p := p) (before := before) (after := after)
    ⟨hparked.place, hparked.object, hparked.first, hparked.completed, hparked.room⟩
  refine ⟨_, rfl, ⟨?_, ?_, ?_, ?_, ?_, ?_, ?_, ?_, ?_, routing_taken hrouting⟩, fun t ho hj hc => ?_⟩
  · rw [hclosed]
    exact hwait
  · rw [hclosed]
    rfl
  · rw [hclosed]
    rfl
  · rw [hclosed]
    exact metered_closed (s := s) (z := lineTaken s r y jobs l c) (y := y.withContext c) y.uid c rfl _ _ _ rfl rfl rfl
  · rw [hclosed]
    rfl
  · rw [hclosed]
    rfl
  · rw [hclosed]
    rfl
  · rw [hclosed]
    rfl
  · rw [hclosed]
    rfl
  · rw [hclosed] at ho hj hc
    have horders := ho.trans (OrderTaker.moved_of_one rfl hparked.room)
    refine ⟨hj.trans hjobs, hc, congrArg OrderTaker.parked horders, (congrArg OrderTaker.holding horders).trans ?_⟩
    rw [hsettled]
    rfl

/-- The event of a line that completes a readout, from what its close leaves. -/
theorem ReadoutCloses.granted {owner : User} {jobs : Vector (Option Job) 16} {c : MeterContext} {uid : Nat}
    (h : ReadoutCloses s r y uid c owner l jobs x) (hport : s.port.upstream = r :: rest) (hturn : s.upstreamTurn = true)
    (hperform : performGrant r (granting s) = x) :
    ∃ t, (Granted s r rest l t ∧ t.sides = x.sides ∧ t.mem = s.mem ∧ t.store = s.store ∧
        t.unattributed = s.unattributed ∧ t.accounts.retired = s.accounts.retired ∧
        t.accounts.restore = s.accounts.restore ∧
        t.accounts.meters.unattributed = s.accounts.meters.unattributed ∧
        t.accounts.meters.blanked = s.accounts.meters.blanked ∧
        t.accounts.meters.unaccounted = s.accounts.meters.unaccounted) ∧
      SettlesOwner s t y owner (fun _ => none) ∧ t.orders = x.orders.moved ∧ t.jobs = x.jobs ∧
      t.classifier = x.classifier := by
  obtain ⟨t, ht, hends⟩ := granted_of_perform hport hturn hperform h.wait h.channel h.upstream
  have htables := hends.tables
  have haccounts : t.accounts = x.accounts := congrArg Ledger.accounts htables
  have hmap : t.writer.userMap = x.writer.userMap := congrArg Ledger.userMap htables
  rw [h.accounts] at haccounts
  refine ⟨t, ⟨ht, congrArg Ledger.sides htables, (congrArg Ledger.mem htables).trans h.mem,
    (congrArg Ledger.store htables).trans h.store, (congrArg Ledger.unattributed htables).trans h.unattributed,
    ?_, ?_, ?_, ?_, ?_⟩, ⟨?_, ?_, hmap.trans h.warning, hends.routed h.routing (fun p => (sideDraws_run s y p).symm)
      fun p => (sideDraws_isSome s y p).symm⟩, hends.orders, congrArg Ledger.jobs htables,
    congrArg Ledger.classifier htables⟩
  all_goals rw [haccounts]

/-! ### The law of reads -/

/-- Settles O20. -/
theorem upstreamGrantDeciphersARead : Obligations.UpstreamGrantDeciphersARead := by
  refine ⟨metersByTheRules, fun s r rest hwait hport hturn hread htreat => ?_,
    fun s r rest c j hwait hport hturn hread htreat hj => ?_, fun s r rest m hwait hport hturn hread => ?_⟩
  · have hperform : performGrant r (granting s) = readAnswered s r s.jobs (readLine s.mem r.line) := by
      have hplain : performGrant r (granting s) = performPlain r (granting s) := by
        unfold performGrant
        rcases htreat with h | h <;> rw [h]
      exact hplain.trans (performPlain_of_read hread)
    obtain ⟨t, ht, hupstream, hlast, hledger, hmem, htable, hanswer⟩ := grant_of_store hwait hport hturn hperform
    rw [hmem] at hledger
    exact ⟨t, ht, hupstream, hlast, hledger, htable, hanswer⟩
  · intro granted
    refine ⟨fun hkeeps => decipherRead_keeps hwait hport hturn htreat hj hkeeps,
      fun voided p before after hstate hsides hmerges hlines hparked =>
        decipherRead_closes hwait hport hturn htreat hj hstate hsides hmerges hlines hparked⟩
  · intro stored granted sumOf meters u lineLeft unattributed
    refine ⟨fun hnone => ⟨fun htreat => ?_, fun c j htreat hj hkeeps => ?_⟩, ?_⟩
    · exact unattributed_granted hwait hport hturn (performGrant_meter htreat) hnone
    · exact unattributed_granted hwait hport hturn (performGrant_decipherMeter htreat hj hkeeps) hnone
    intro x context pm l hnumbered hmetering hside hplane hcontext hmeter hdue hsum hpixels hlines after signature metered
      recorded
    have htakes : TakesLine s x m l context pm :=
      ⟨hmetering, hside, hplane, hcontext, hmeter, hdue, hsum, hpixels, hlines⟩
    refine ⟨fun ⟨p, hp, hshort⟩ => ?_, fun hfull j left owner hj hu hroom hkind => ?_⟩
    · have hopen : (x.withContext (context.taken s.store.live m pm l)).readoutComplete = false :=
        Bool.eq_false_iff.mpr fun h => hshort ((readoutComplete_iff _).mp h p hp)
      refine ⟨fun htreat hl => ?_, fun c j htreat hl hj hkeeps => ?_⟩
      · subst hl
        exact metered_granted hwait hport hturn (performGrant_meter htreat) htakes hopen
      · subst hl
        exact metered_granted hwait hport hturn (performGrant_decipherMeter htreat hj hkeeps) htakes hopen
    · intro closes
      have hcomplete : (x.withContext (context.taken s.store.live m pm l)).readoutComplete = true :=
        (readoutComplete_iff _).mpr hfull
      obtain ⟨jobs, hperform, hjob, hput, hsettled⟩ : ∃ jobs, performGrant r (granting s) =
          handOver m l (readAnswered s r jobs l) ∧ jobs[x.jobSlot] = some left ∧
          (∀ v, put jobs x.jobSlot v = put s.jobs x.jobSlot v) ∧ left.settled = j.settled := by
        rcases hkind with ⟨htreat, rfl, rfl⟩ | ⟨c, htreat, hslot, rfl, hstays, rfl⟩
        · exact ⟨s.jobs, performGrant_meter htreat, hj, fun _ => rfl, rfl⟩
        · have hkeeps : j.keepsSlotAtLine := hstays.imp_right fun h => .inl (Nat.ne_of_gt h)
          have hcipher : ∀ k, k = x.jobSlot → s.jobs[k] = some j := fun k hk => by
            subst hk
            exact hj
          have hperform := performGrant_decipherMeter htreat (hcipher c.job hslot) hkeeps
          rw [hslot] at hperform
          exact ⟨_, hperform, put_same _ _ _, fun _ => put_put _ _ _ _, rfl⟩
      have htaken : TakesLine (readAnswered s r jobs l) x m l context pm :=
        ⟨hmetering, hside, hplane, hcontext, hmeter, hdue, hsum, hpixels, hlines⟩
      have hhand := htaken.handOver
      rw [show (readAnswered s r jobs l).store = s.store from rfl, hcomplete, if_pos rfl] at hhand
      refine ⟨fun hkeeps => ?_, fun voided p before after hstate hsides hmerges hlines hparked => ?_⟩
      · obtain ⟨v, hv, hcloses, hclassifier, hjobs⟩ := closeSide_taken_keeps (r := r) (l := l)
          (c := context.taken s.store.live m pm l) hwait hroom hu hjob hsettled hkeeps
        obtain ⟨t, ⟨ht, hsides, hrest⟩, howner, -, htjobs, htclassifier⟩ :=
          hcloses.granted hport hturn (hperform.trans (hhand.trans hv))
        exact ⟨t, ⟨ht, hsides.trans hcloses.sides, hrest⟩, ⟨howner, htjobs.trans (hjobs.trans (hput _))⟩,
          htclassifier.trans hclassifier⟩
      · obtain ⟨v, hv, hcloses, hjobcloses⟩ := closeSide_taken_closes (r := r) (l := l)
          (c := context.taken s.store.live m pm l) hwait hroom hu hjob hsettled hstate hsides hmerges hlines hparked (hput _)
        obtain ⟨t, ⟨ht, hsides, hrest⟩, howner, htorders, htjobs, htclassifier⟩ :=
          hcloses.granted hport hturn (hperform.trans (hhand.trans hv))
        exact ⟨t, ⟨ht, hsides.trans hcloses.sides, hrest⟩, howner, hjobcloses t htorders htjobs htclassifier⟩

end Sys2Proof.Machine
end

section

/-! PROOFS. What stands where in a line of packed values (R186), and the bytes of the writer's lines (R188 to R190). -/

namespace Sys2Proof.Machine

/-! ### Packed values -/

/-- The number of bytes that values take. -/
def widthOf (vs : List Val) : Nat := (vs.map Val.width).sum

theorem widthOf_cons (v : Val) (vs : List Val) : widthOf (v :: vs) = v.width + widthOf vs := rfl

theorem packVals_append (vs ws : List Val) : packVals (vs ++ ws) = packVals vs + 256 ^ widthOf vs * packVals ws := by
  induction vs with
  | nil => simp [packVals, widthOf]
  | cons v vs ih =>
    rw [List.cons_append, packVals, packVals, ih, widthOf_cons, pow_add]
    ring

theorem packVals_lt (vs : List Val) : packVals vs < 256 ^ widthOf vs := by
  induction vs with
  | nil => simp [packVals, widthOf]
  | cons v vs ih =>
    have hv : v.value % 256 ^ v.width < 256 ^ v.width := Nat.mod_lt _ (Nat.pow_pos (by decide))
    calc packVals (v :: vs) = v.value % 256 ^ v.width + 256 ^ v.width * packVals vs := rfl
      _ < 256 ^ v.width * 1 + 256 ^ v.width * packVals vs := by omega
      _ = 256 ^ v.width * (packVals vs + 1) := by ring
      _ ≤ 256 ^ v.width * 256 ^ widthOf vs := Nat.mul_le_mul_left _ ih
      _ = 256 ^ widthOf (v :: vs) := by rw [widthOf_cons, pow_add]

theorem packVals_drop (vs ws : List Val) : packVals (vs ++ ws) / 256 ^ widthOf vs = packVals ws := by
  rw [packVals_append, Nat.add_mul_div_left _ _ (Nat.pow_pos (by decide)), Nat.div_eq_of_lt (packVals_lt vs), Nat.zero_add]

theorem packVals_head (v : Val) (vs : List Val) : packVals (v :: vs) % 256 ^ v.width = v.value % 256 ^ v.width := by
  rw [packVals, Nat.add_mul_mod_self_left, Nat.mod_mod]

theorem packVals_field (vs ws : List Val) (v : Val) :
    packVals (vs ++ v :: ws) / 256 ^ widthOf vs % 256 ^ v.width = v.value % 256 ^ v.width := by
  rw [packVals_drop, packVals_head]

theorem lineOfVals_toNat {vs : List Val} (h : widthOf vs ≤ 64) : (lineOfVals vs).toNat = packVals vs := by
  have hbound : (256 : Nat) ^ widthOf vs ≤ 2 ^ 512 := by
    calc (256 : Nat) ^ widthOf vs ≤ 256 ^ 64 := Nat.pow_le_pow_right (by decide) h
      _ = 2 ^ 512 := by rw [show (256 : Nat) = 2 ^ 8 from rfl, ← pow_mul]
  rw [lineOfVals, BitVec.toNat_ofNat, Nat.mod_eq_of_lt (lt_of_lt_of_le (packVals_lt vs) hbound)]

/-- The bits of a line of packed values from the end of the first ones on. -/
theorem extract_packed {vs ws : List Val} (h : widthOf (vs ++ ws) ≤ 64) (n : Nat) :
    ((lineOfVals (vs ++ ws)).extractLsb' (8 * widthOf vs) n).toNat = packVals ws % 2 ^ n := by
  rw [BitVec.extractLsb'_toNat, lineOfVals_toNat h, Nat.shiftRight_eq_div_pow, pow_mul]
  exact congrArg (· % 2 ^ n) (packVals_drop vs ws)

/-! ### The fields of a line of packed values -/

theorem mem_packedFrom {vs : List Val} {x : Nat × Nat × Nat} {start : Nat} (h : x ∈ packedFrom start vs) :
    ∃ before v after, vs = before ++ v :: after ∧ x = (start + widthOf before, v.width, v.value) := by
  induction vs generalizing start with
  | nil => cases h
  | cons v vs ih =>
    rcases List.mem_cons.mp h with rfl | hin
    · exact ⟨[], v, vs, rfl, rfl⟩
    · obtain ⟨before, w, after, rfl, rfl⟩ := ih hin
      exact ⟨v :: before, w, after, rfl, by rw [widthOf_cons, Nat.add_assoc]⟩

theorem packedFrom_covers {vs : List Val} {start i : Nat} (hlow : start ≤ i) (hhigh : i < start + widthOf vs) :
    ∃ x ∈ packedFrom start vs, x.1 ≤ i ∧ i < x.1 + x.2.1 := by
  induction vs generalizing start with
  | nil => exact absurd hhigh (by simp [widthOf]; omega)
  | cons v vs ih =>
    rw [widthOf_cons] at hhigh
    by_cases hv : i < start + v.width
    · exact ⟨_, List.mem_cons_self, hlow, hv⟩
    · obtain ⟨x, hx, hin⟩ := ih (start := start + v.width) (by omega) (by omega)
      exact ⟨x, List.mem_cons_of_mem _ hx, hin⟩

theorem fieldAt_packed {before after : List Val} {v : Val} (h : widthOf (before ++ v :: after) ≤ 64) :
    fieldAt (lineOfVals (before ++ v :: after)) (widthOf before) v.width = v.value % 256 ^ v.width := by
  rw [fieldAt, extract_packed h, pow_mul, ← packVals_head v after]
  rfl

theorem byteAt_beyond {vs : List Val} {i : Nat} (h : widthOf vs ≤ 64) (hi : widthOf vs ≤ i) :
    byteAt (lineOfVals vs) i = 0 := by
  apply BitVec.eq_of_toNat_eq
  have hlt : packVals vs < 2 ^ (8 * i) := by
    rw [pow_mul]
    exact lt_of_lt_of_le (packVals_lt vs) (Nat.pow_le_pow_right (by decide) hi)
  rw [byteAt, BitVec.extractLsb'_toNat, lineOfVals_toNat h, Nat.shiftRight_eq_div_pow, Nat.div_eq_of_lt hlt]
  rfl

/-- The fields of a line of packed values stand one after another, and the bytes behind them are 0 (R186). -/
theorem laidOut_packed {vs : List Val} (h : widthOf vs ≤ 64) : LaidOut (lineOfVals vs) (packedFrom 0 vs) := by
  refine ⟨fun x hx => ?_, fun i _ hfree => byteAt_beyond h (Nat.le_of_not_lt fun hi => ?_)⟩
  · obtain ⟨before, v, after, rfl, rfl⟩ := mem_packedFrom hx
    rw [Nat.zero_add]
    exact fieldAt_packed h
  · obtain ⟨x, hx, hin⟩ := packedFrom_covers (Nat.zero_le i) (by rwa [Nat.zero_add])
    exact hfree x hx hin

theorem packedFrom_append (start : Nat) (vs ws : List Val) :
    packedFrom start (vs ++ ws) = packedFrom start vs ++ packedFrom (start + widthOf vs) ws := by
  induction vs generalizing start with
  | nil => rfl
  | cons v vs ih => rw [List.cons_append, packedFrom, ih, widthOf_cons, ← Nat.add_assoc]; rfl

theorem byteAt_of_field_zero {l : Line} {o w i : Nat} (h : fieldAt l o w = 0) (hlow : o ≤ i) (hhigh : i < o + w) :
    byteAt l i = 0 := by
  have hzero : l.extractLsb' (8 * o) (8 * w) = 0 := BitVec.eq_of_toNat_eq h
  apply BitVec.eq_of_getLsbD_eq
  intro k hk
  have hbit : (l.extractLsb' (8 * o) (8 * w)).getLsbD (8 * (i - o) + k) = false := by rw [hzero]; simp
  rw [BitVec.getLsbD_extractLsb'] at hbit
  have hin : 8 * (i - o) + k < 8 * w := by omega
  have hpos : 8 * o + (8 * (i - o) + k) = 8 * i + k := by omega
  rw [hpos] at hbit
  rw [byteAt, BitVec.getLsbD_extractLsb']
  simpa [hin, hk] using hbit

/-- Fields that hold 0 need no mention. -/
theorem LaidOut.without_zeros {l : Line} {fields fewer : List (Nat × Nat × Nat)} (h : LaidOut l fields)
    (hsub : ∀ x ∈ fewer, x ∈ fields) (hrest : ∀ x ∈ fields, x ∈ fewer ∨ x.2.2 = 0) : LaidOut l fewer := by
  refine ⟨fun x hx => h.1 x (hsub x hx), fun i hi hfree => ?_⟩
  by_cases hcovered : ∃ x ∈ fields, x.1 ≤ i ∧ i < x.1 + x.2.1
  · obtain ⟨x, hx, hlow, hhigh⟩ := hcovered
    rcases hrest x hx with hin | hzero
    · exact absurd ⟨hlow, hhigh⟩ (hfree x hin)
    · have hfield := h.1 x hx
      rw [hzero, Nat.zero_mod] at hfield
      exact byteAt_of_field_zero hfield hlow hhigh
  · exact h.2 i hi fun x hx hin => hcovered ⟨x, hx, hin⟩

/-! ### The lines of the returns -/

theorem Reason.code_eq_idxOf (x : Reason) :
    x.code = ([.badOrder, .badArg, .busy, .full, .noSlot, .inUse, .duplicate, .noJob, .noUser, .noRegion, .noSide,
      .noCartridge, .noPending, .noRestore, .jobState, .userState, .slotState, .isSealed, .notPermitted,
      .sequence, .range, .overlap, .geometry, .mismatch, .noBands, .colourDenied, .toner, .quota, .badWrap,
      .badTag, .superseded, .removed, .reset] : List Reason).idxOf x + 1 := by
  cases x <;> rfl

theorem widthOf_append (vs ws : List Val) : widthOf (vs ++ ws) = widthOf vs + widthOf ws := by
  simp [widthOf]

theorem vector_toList {α : Type} {n : Nat} (v : Vector α n) : v.toList = (List.finRange n).map fun i => v[i] := by
  apply List.ext_getElem
  · simp
  · intro i h1 h2
    simp

theorem laidOut_of_vals {vs : List Val} {fields : List (Nat × Nat × Nat)} (h : widthOf vs ≤ 64)
    (hfields : packedFrom 0 vs = fields) : LaidOut (lineOfVals vs) fields := hfields ▸ laidOut_packed h

/-- The bytes of a RESULT (R188). -/
theorem laidOut_resultLine (epoch : Nat) (r : Result) (h : 9 + widthOf r.values ≤ 64) :
    LaidOut (resultLine epoch r)
      ([(0, 1, 1), (1, 2, epoch), (3, 2, r.serial.toNat), (5, 1, r.kind.toNat), (6, 1, r.window),
        (7, 1, if r.reason.isSome then 1 else 0), (8, 1, match r.reason with | some x => x.code | none => 0)] ++
        packedFrom 9 r.values) := by
  refine laidOut_of_vals ?_ ?_
  · rw [widthOf_append]
    exact h
  · rw [packedFrom_append]
    rfl

@[simp] theorem widthOf_nil : widthOf [] = 0 := rfl
@[simp] theorem u8_width (n : Nat) : (u8 n).width = 1 := rfl
@[simp] theorem u16_width (n : Nat) : (u16 n).width = 2 := rfl
@[simp] theorem u32_width (n : Nat) : (u32 n).width = 4 := rfl
@[simp] theorem u64_width (n : Nat) : (u64 n).width = 8 := rfl
@[simp] theorem i32_width (n : Int) : (i32 n).width = 4 := rfl
@[simp] theorem i64_width (n : Int) : (i64 n).width = 8 := rfl
@[simp] theorem flagVal_width (b : Bool) : (flagVal b).width = 1 := rfl
@[simp] theorem planesVal_width (set : PlaneSet) : (planesVal set).width = 1 := rfl
@[simp] theorem u8_value (n : Nat) : (u8 n).value = n := rfl
@[simp] theorem u16_value (n : Nat) : (u16 n).value = n := rfl
@[simp] theorem u32_value (n : Nat) : (u32 n).value = n := rfl
@[simp] theorem u64_value (n : Nat) : (u64 n).value = n := rfl
@[simp] theorem flagVal_value (b : Bool) : (flagVal b).value = if b then 1 else 0 := rfl
@[simp] theorem planesVal_value (set : PlaneSet) : (planesVal set).value = set.toNat := rfl
@[simp] theorem i32_value (n : Int) : (i32 n).value = (n % 2 ^ 32).toNat := by
  unfold i32
  exact congrArg Int.toNat rfl
@[simp] theorem i64_value (n : Int) : (i64 n).value = (n % 2 ^ 64).toNat := by
  unfold i64
  exact congrArg Int.toNat rfl

theorem finRange_four : List.finRange 4 = [0, 1, 2, 3] := rfl
theorem finRange_eight : List.finRange 8 = [0, 1, 2, 3, 4, 5, 6, 7] := rfl

theorem Side.partCount_eq (r : Side) : r.partCount = if r.context = none then 1 else 4 := by
  unfold Side.partCount
  cases r.context <;> rfl

theorem planesWhere_toNat (f : Plane → Bool) :
    (planesWhere f).toNat = (if f 0 then 2 ^ 0 else 0) + (if f 1 then 2 ^ 1 else 0) + (if f 2 then 2 ^ 2 else 0) +
      if f 3 then 2 ^ 3 else 0 := by
  rw [planesWhere_eq]
  unfold allPlanes
  simp only [List.map_cons, List.map_nil, List.foldr_cons, List.foldr_nil]
  generalize f 0 = a
  generalize f 1 = b
  generalize f 2 = c
  generalize f 3 = d
  revert a b c d
  decide

/-- The bytes of part 0 of a SIDE (R112, R189). -/
theorem laidOut_sideHead (epoch : Nat) (r : Side) : LaidOut (sideLine epoch r 0)
    ([(0, 1, 2), (1, 2, epoch), (3, 1, 0), (4, 1, if r.context = none then 1 else 4), (5, 2, r.id)] ++
      [(7, 2, r.jobTag), (9, 4, r.userId), (13, 1, (r.outcome.map SideOutcome.code).getD 0), (14, 1, r.mode.code),
        (15, 1, (if r.downgraded then 1 else 0) + (if r.context.any MeterContext.saturated then 2 else 0) +
          (if r.capped then 4 else 0) + if r.context.isSome then 8 else 0),
        (16, 1, r.face.code), (17, 1, r.planes.toNat), (18, 1, r.unproven.toNat), (19, 2, r.rows), (21, 2, r.reserve),
        (23, 2, r.charge.getD 0), (25, 4, r.blanked), (29, 2, r.generation.getD 0),
        (31, 1, (r.figures.map fun f => f.cls.code).getD 0), (32, 1, (r.figures.map fun f => f.tier.code).getD 0),
        (33, 2, (r.figures.map CloseFigures.sum).getD 0), (35, 4, (r.figures.map fun f => f.signature.toNat).getD 0),
        (39, 1, (if r.serials[0].isSome then 2 ^ 0 else 0) + (if r.serials[1].isSome then 2 ^ 1 else 0) +
          (if r.serials[2].isSome then 2 ^ 2 else 0) + if r.serials[3].isSome then 2 ^ 3 else 0)]) := by
  have hsaturated : (match r.context with | some c => c.saturated | none => false) =
      r.context.any MeterContext.saturated := by cases r.context <;> rfl
  have hflag := if_congr (x := 2) (y := 0) (iff_of_eq (congrArg (· = true) hsaturated)) rfl rfl
  unfold sideLine
  refine laidOut_of_vals (by simp [widthOf_cons, returnHead, Side.headVals]) ?_
  simp [packedFrom, returnHead, Side.headVals, Side.partCount_eq, Side.serialPlanes, planesWhere_toNat]
  refine ⟨?_, hflag, ?_⟩
  · cases r.outcome <;> rfl
  · cases r.figures <;> exact ⟨rfl, rfl, rfl, rfl⟩

theorem serialValue_eq (v : Option Serial) :
    (match v with | some x => x.toNat | none => 0) = (v.map BitVec.toNat).getD 0 := by
  cases v <;> rfl

/-- The bytes of part 1 of a SIDE: the recorded serials (R189). -/
theorem laidOut_sideSerials (epoch : Nat) (r : Side) : LaidOut (sideLine epoch r 1)
    ([(0, 1, 2), (1, 2, epoch), (3, 1, 1), (4, 1, if r.context = none then 1 else 4), (5, 2, r.id)] ++
      (List.finRange 4).map fun p => (7 + 8 * p.val, 8, (r.serials[p].map BitVec.toNat).getD 0)) := by
  unfold sideLine
  rw [vector_toList, finRange_four]
  refine laidOut_of_vals (by simp [widthOf_cons, returnHead]) ?_
  simp [packedFrom, returnHead, Side.partCount_eq]
  exact ⟨serialValue_eq r.serials[0], serialValue_eq r.serials[1], serialValue_eq r.serials[2],
    serialValue_eq r.serials[3]⟩

/-- What part 2 or 3 of a SIDE says of a plane of its set, from a byte on (R189). -/
def planeFields (r : Side) (start : Nat) (p : Plane) : List (Nat × Nat × Nat) :=
  if hasPlane r.planes p = false then [] else
    let m := (r.context.bind fun c => c.planes[p]).getD { sum := 0, pixels := 0, lines := 0 }
    [(start, 4, m.lines), (start + 4, 4, r.expected[p]), (start + 8, 4, m.pixels),
      (start + 12, 2, (r.figures.map fun f => f.coverage[p]).getD 0),
      (start + 14, 4, (r.figures.map fun f => f.draw[p]).getD 0)]

theorem planeVals_width (r : Side) (p : Plane) : widthOf (r.planeVals p) = 18 := by
  unfold Side.planeVals
  split <;> rfl

theorem planeFields_packed (r : Side) (start : Nat) (p : Plane) :
    (∀ x ∈ planeFields r start p, x ∈ packedFrom start (r.planeVals p)) ∧
      ∀ x ∈ packedFrom start (r.planeVals p), x ∈ planeFields r start p ∨ x.2.2 = 0 := by
  unfold planeFields Side.planeVals
  by_cases hp : hasPlane r.planes p = true
  · rw [if_neg (by rw [hp]; decide), if_pos hp]
    cases r.figures <;> exact ⟨fun x hx => hx, fun x hx => Or.inl hx⟩
  · rw [Bool.not_eq_true] at hp
    rw [if_pos hp, if_neg (by rw [hp]; decide)]
    simp [packedFrom]

/-- The bytes of parts 2 and 3 of a SIDE: what it says of two planes (R189). -/
theorem laidOut_planes {l : Line} {r : Side} {p q : Plane} {before : List Val} {fields : List (Nat × Nat × Nat)}
    (hline : l = lineOfVals (before ++ (r.planeVals p ++ r.planeVals q))) (hwidth : widthOf before = 7)
    (hfields : packedFrom 0 before = fields) : LaidOut l (fields ++ planeFields r 7 p ++ planeFields r 25 q) := by
  have hlaid : LaidOut l (packedFrom 0 (before ++ (r.planeVals p ++ r.planeVals q))) := by
    rw [hline]
    refine laidOut_packed ?_
    rw [widthOf_append, widthOf_append, planeVals_width, planeVals_width, hwidth]
    decide
  rw [packedFrom_append, packedFrom_append, hwidth, planeVals_width, hfields] at hlaid
  obtain ⟨hp, hp0⟩ := planeFields_packed r 7 p
  obtain ⟨hq, hq0⟩ := planeFields_packed r 25 q
  refine hlaid.without_zeros (fun x hx => ?_) fun x hx => ?_
  · simp only [List.mem_append] at hx ⊢
    rcases hx with (hx | hx) | hx
    · exact Or.inl hx
    · exact Or.inr (Or.inl (hp x hx))
    · exact Or.inr (Or.inr (hq x hx))
  · simp only [List.mem_append] at hx ⊢
    rcases hx with hx | hx | hx
    · exact Or.inl (Or.inl (Or.inl hx))
    · exact (hp0 x hx).imp_left fun h => Or.inl (Or.inr h)
    · exact (hq0 x hx).imp_left Or.inr

/-- The bytes of an ACCOUNT (R188). -/
theorem laidOut_account (epoch : Nat) (u : UserCopy) : LaidOut (accountLine epoch u)
    ([(0, 1, 3), (1, 2, epoch), (3, 1, u.slot.val + (if u.state = .suspended then 64 else 0) + if u.colour then 128 else 0),
      (4, 4, u.id), (8, 8, (u.credit % 2 ^ 64).toNat), (16, 8, u.spent), (24, 4, (u.floor % 2 ^ 32).toNat),
      (28, 4, (u.warn % 2 ^ 32).toNat)] ++ (List.finRange 8).map fun k => (32 + 4 * k.val, 4, u.counters[k])) := by
  unfold accountLine counterVals
  rw [vector_toList, finRange_eight]
  refine laidOut_of_vals ?_ ?_
  · simp [widthOf_cons, returnHead]
  · simp [packedFrom, returnHead]


/-- The bytes of a RETIRED (R188). -/
theorem laidOut_retired (epoch : Nat) (values : Counters) : LaidOut (retiredLine epoch values)
    ([(0, 1, 4), (1, 2, epoch)] ++ (List.finRange 8).map fun k => (3 + 4 * k.val, 4, values[k])) := by
  unfold retiredLine counterVals
  rw [vector_toList, finRange_eight]
  refine laidOut_of_vals (by simp [widthOf_cons, returnHead]) ?_
  simp [packedFrom, returnHead]

/-- The bytes of part 0 of a METERS: the device meters (R189). -/
theorem laidOut_meters (epoch : Nat) (copy : Snapshot) : LaidOut (metersLine epoch copy 0)
    ([(0, 1, 5), (1, 2, epoch), (3, 1, 0), (4, 1, 5)] ++
      (List.finRange 8).map (fun k => (5 + 4 * k.val, 4, copy.meters.sides[k])) ++ [(37, 4, copy.meters.unaccounted)] ++
      (List.finRange 4).map (fun p => (41 + 4 * p.val, 4, copy.meters.unattributed[p])) ++
      [(57, 4, copy.meters.blanked)]) := by
  unfold metersLine meterVals counterVals
  rw [vector_toList, vector_toList, finRange_eight, finRange_four]
  refine laidOut_of_vals (by simp [widthOf_cons, returnHead]) ?_
  simp [packedFrom, returnHead]

/-- The bytes of the other parts of a METERS: a plane's totals (R189). -/
theorem laidOut_totals (epoch : Nat) (copy : Snapshot) (p : Plane) : LaidOut (metersLine epoch copy (p.val + 1))
    [(0, 1, 5), (1, 2, epoch), (3, 1, p.val + 1), (4, 1, 5), (5, 8, copy.totals[p].drawn.toNat),
      (13, 8, copy.totals[p].confirmed.toNat), (21, 8, copy.totals[p].unproven.toNat),
      (29, 8, copy.totals[p].lost.toNat)] := by
  have hplane : ∀ q : Plane, q = p → totalVals copy.totals[q] = totalVals copy.totals[p] := by
    rintro q rfl
    rfl
  unfold metersLine
  rw [if_neg (Nat.succ_ne_zero _), hplane _ (Fin.ext (Nat.mod_eq_of_lt p.isLt))]
  unfold totalVals
  exact laidOut_of_vals (by simp [widthOf_cons, returnHead]) (by simp [packedFrom, returnHead])

/-- The bytes of a SNAPSHOT (R188). -/
theorem laidOut_snapshot (epoch : Nat) (copy : Snapshot) (tag : BitVec 256) : LaidOut (snapshotLine epoch copy tag)
    [(0, 1, 6), (1, 2, epoch), (3, 2, copy.users.length + 2), (5, 32, tag.toNat)] := by
  unfold snapshotLine Snapshot.recordCount
  exact laidOut_of_vals (by simp [widthOf_cons, returnHead]) (by simp [packedFrom, returnHead])

end Sys2Proof.Machine
end

section

/-! PROOFS. The rewrites of the ring header and of the summary line (R181, R182, R190). -/

namespace Sys2Proof.Machine

variable {s t x : State}

/-! ### The grant of a rewrite -/

theorem openChannel_of_none (h : s.channel.waiting = []) : openChannel s = s := by
  unfold openChannel
  split
  · have hchannel : { s.channel with waiting := [] } = s.channel := by rw [← h]
    rw [h, hchannel]
    rfl
  · rfl

/-- A line of the part's own is stored in full, and the event changes no other table. -/
theorem stored_of_own {m : List Host.Cell} {n : Nat} {l : Line} (hwf : MemoryWf s.mem)
    (hm : m = writeLine s.mem n fullMask l) (hx : x.mem = m) (ht : t.ledger = x.ledger) :
    readLine t.mem n = l ∧ ∀ a, ¬(64 * n ≤ a ∧ a < 64 * n + 64) → readByte t.mem a = readByte s.mem a := by
  have hmem : t.mem = writeLine s.mem n fullMask l := (congrArg Ledger.mem ht).trans (hx.trans hm)
  rw [hmem]
  exact ⟨readLine_writeLine_full _ _ _ hwf, fun a ha => readByte_outside hwf l ha⟩

/-- The event that grants a rewrite. -/
theorem rewrite_granted {c : Instr} {m : List Host.Cell} {channel : ChannelFront}
    (hrun : exec c s = .next (concludeEvent s (openChannel { grantOwn s with mem := m, channel })))
    (hwait : s.orders.resetWait = none) (hwaiting : channel.waiting = []) :
    ∃ t, exec c s = .next t ∧ t.ledger = { s.ledger with mem := t.mem } ∧ t.mem = m ∧ t.channel = channel := by
  rw [openChannel_of_none (s := { grantOwn s with mem := m, channel }) hwaiting] at hrun
  obtain ⟨t, ht, hends, hledger⟩ := ends_of_body hrun hwait rfl
  have hmem : t.mem = m := congrArg Ledger.mem hledger
  refine ⟨t, ht, ?_, hmem, hends.channel⟩
  rw [hledger, hmem]
  rfl

/-! ### The bytes of the rewrites (R190) -/

theorem laidOut_header (s : State) : LaidOut (headerLine s) [(0, 2, s.writer.writeIndex), (2, 2, s.writer.readIndex),
    (4, 2, 448), (6, 2, s.store.liveGen), (8, 2, s.writer.epoch)] := by
  unfold headerLine
  exact laidOut_of_vals (by simp [widthOf_cons]) (by simp [packedFrom, ringSlots])

theorem header_tail (s : State) : (headerLine s).extractLsb' 80 432 = 0 := by
  apply BitVec.eq_of_toNat_eq
  have h := extract_packed (vs := [u16 s.writer.writeIndex, u16 s.writer.readIndex, u16 ringSlots, u16 s.store.liveGen,
    u16 s.writer.epoch]) (ws := []) (by simp [widthOf_cons]) 432
  exact h

/-- The bytes of the summary line (R190). -/
theorem laidOut_summary (s : State) : LaidOut (summaryLine s)
    ([(0, 2, s.writer.writeIndex), (2, 2, s.writer.readIndex), (4, 2, s.writer.epoch), (6, 1, s.sides.records.length),
      (7, 1, if s.store.pending.isSome then 1 else 0), (8, 2, s.store.liveGen), (10, 4, s.accounts.meters.unaccounted),
      (14, 4, s.writer.noticeBits.toNat), (18, 8, s.writer.userMap.toNat), (26, 4, s.writer.enables.toNat)] ++
      (List.finRange 4).map (fun p => (30 + p.val, 1, s.cartridges.slots[p].verdict.code)) ++
      (List.finRange 4).map (fun p => (34 + 4 * p.val, 4, (s.cartridges.slots[p].estimate).getD 0)) ++
      [(50, 1, (planesWhere fun p => s.cartridges.slots[p].estimate.isSome).toNat)]) := by
  unfold summaryLine
  rw [finRange_four]
  exact laidOut_of_vals (by simp [widthOf_cons, summaryVals, allPlanes])
    (by simp [packedFrom, summaryVals, allPlanes])

theorem planesWhere_getLsbD (f : Plane → Bool) (p : Plane) : (planesWhere f).getLsbD p.val = f p := by
  have hbits : ∀ (a b c d : Bool) (p : Plane), ((if a then 1#4 <<< 0 else 0) ||| ((if b then 1#4 <<< 1 else 0) |||
      ((if c then 1#4 <<< 2 else 0) ||| ((if d then 1#4 <<< 3 else 0) ||| 0)))).getLsbD p.val =
      [a, b, c, d][p.val] := by decide
  rw [planesWhere_eq]
  refine (hbits (f 0) (f 1) (f 2) (f 3) p).trans ?_
  fin_cases p <;> rfl

/-- The planes with a known estimate, as the last byte of the summary line shows them. -/
theorem summary_known (s : State) : ∀ n, ((summaryLine s).extractLsb' 400 n).toNat =
    (planesWhere fun p => s.cartridges.slots[p].estimate.isSome).toNat % 2 ^ n := by
  intro n
  have hvals : summaryVals s = (summaryVals s).dropLast ++
      [planesVal (planesWhere fun p => s.cartridges.slots[p].estimate.isSome)] := by
    unfold summaryVals
    rw [List.dropLast_concat]
  have hwidth : widthOf (summaryVals s).dropLast = 50 := by simp [widthOf_cons, summaryVals, allPlanes]
  have hbound : (planesWhere fun p => s.cartridges.slots[p].estimate.isSome).toNat < 256 ^ 1 := by omega
  unfold summaryLine
  rw [hvals]
  have h := extract_packed (vs := (summaryVals s).dropLast)
    (ws := [planesVal (planesWhere fun p => s.cartridges.slots[p].estimate.isSome)])
    (by rw [widthOf_append, hwidth]; simp [widthOf_cons]) n
  rw [hwidth] at h
  rw [h, packVals, packVals, planesVal_value, planesVal_width, Nat.mod_eq_of_lt hbound, Nat.mul_zero, Nat.add_zero]

theorem summary_planeKnown (s : State) (p : Plane) :
    (summaryLine s).getLsbD (400 + p.val) = s.cartridges.slots[p].estimate.isSome := by
  have hfield : (summaryLine s).extractLsb' 400 4 = planesWhere fun p => s.cartridges.slots[p].estimate.isSome := by
    apply BitVec.eq_of_toNat_eq
    rw [summary_known, Nat.mod_eq_of_lt (BitVec.isLt _)]
  rw [← planesWhere_getLsbD (fun p => s.cartridges.slots[p].estimate.isSome) p, ← hfield, BitVec.getLsbD_extractLsb',
    decide_eq_true p.isLt, Bool.true_and]

theorem summary_tail (s : State) : (summaryLine s).extractLsb' 404 108 = 0 := by
  apply BitVec.eq_of_toNat_eq
  have h := summary_known s 112
  rw [BitVec.extractLsb'_toNat, Nat.shiftRight_eq_div_pow] at h ⊢
  have hset := (planesWhere fun p => s.cartridges.slots[p].estimate.isSome).isLt
  rw [show (404 : Nat) = 400 + 4 from rfl, pow_add, ← Nat.div_div_eq_div_mul]
  simp only [BitVec.ofNat_eq_ofNat, BitVec.toNat_ofNat]
  omega

theorem verdictCode_eq (v : Verdict) : v.code = (match v with
    | .unknown => 0 | .genuine => 1 | .doubtful => 2 | .unproven => 3 | .rejected => 4) := by
  cases v <;> rfl

theorem summary_planes (s : State) (p : Plane) :
    fieldAt (summaryLine s) (30 + p.val) 1 = s.cartridges.slots[p].verdict.code ∧
      fieldAt (summaryLine s) (34 + 4 * p.val) 4 = s.cartridges.slots[p].estimate.getD 0 % 256 ^ 4 := by
  obtain ⟨hfields, -⟩ := laidOut_summary s
  have hcode : s.cartridges.slots[p].verdict.code < 256 ^ 1 := by cases s.cartridges.slots[p].verdict <;> decide
  refine ⟨?_, hfields (34 + 4 * p.val, 4, s.cartridges.slots[p].estimate.getD 0) ?_⟩
  · rw [← Nat.mod_eq_of_lt hcode]
    refine hfields (30 + p.val, 1, s.cartridges.slots[p].verdict.code) ?_
    exact List.mem_append_left _ (List.mem_append_left _ (List.mem_append_right _
      (List.mem_map.mpr ⟨p, List.mem_finRange p, rfl⟩)))
  · exact List.mem_append_left _ (List.mem_append_right _ (List.mem_map.mpr ⟨p, List.mem_finRange p, rfl⟩))

/-- Settles O25. -/
theorem rewritesShowTheState : Obligations.RewritesShowTheState := by
  refine ⟨fun s rest hwf hwait hwaiting hturn hown => ?_, fun s rest hwf hwait hwaiting hturn hown => ?_,
    fun s hwrite hread hepoch hgen => ⟨?_, fun hsides hunaccounted => ?_⟩⟩
  · intro line
    obtain ⟨m, hm⟩ : ∃ m, m = writeLine s.mem line fullMask (headerLine s) := ⟨_, rfl⟩
    have hrun : exec .headerRewriteGrant s = .next (concludeEvent s (openChannel
        { grantOwn s with mem := m, channel := { s.channel with headerWritten := true } })) := by
      change execHeaderRewriteGrant s = _
      unfold execHeaderRewriteGrant
      rw [ownHead_of_turn hturn hown, hm]
      rfl
    obtain ⟨t, ht, hledger, hmem, hchannel⟩ := rewrite_granted hrun hwait hwaiting
    obtain ⟨hline, hother⟩ := stored_of_own (x := t) hwf hm hmem rfl
    exact ⟨t, ht, hledger, congrArg ChannelFront.headerWritten hchannel, hline, hother⟩
  · intro line
    obtain ⟨m, hm⟩ : ∃ m, m = writeLine s.mem line fullMask (summaryLine s) := ⟨_, rfl⟩
    have hrun : exec .summaryRewriteGrant s = .next (concludeEvent s (openChannel
        { grantOwn s with mem := m, channel := { s.channel with summaryWritten := true } })) := by
      change execSummaryRewriteGrant s = _
      unfold execSummaryRewriteGrant
      rw [ownHead_of_turn hturn hown, hm]
      rfl
    obtain ⟨t, ht, hledger, hmem, hchannel⟩ := rewrite_granted hrun hwait hwaiting
    obtain ⟨hline, hother⟩ := stored_of_own (x := t) hwf hm hmem rfl
    exact ⟨t, ht, hledger, congrArg ChannelFront.summaryWritten hchannel, hline, hother⟩
  · obtain ⟨hfields, -⟩ := laidOut_header s
    simp only [List.forall_mem_cons] at hfields
    obtain ⟨h0, h2, h4, h6, h8, -⟩ := hfields
    exact ⟨h0.trans (Nat.mod_eq_of_lt (by omega)), h2.trans (Nat.mod_eq_of_lt (by omega)), h4,
      h6.trans (Nat.mod_eq_of_lt (by omega)), h8.trans (Nat.mod_eq_of_lt (by omega)), header_tail s⟩
  · intro estimate hestimate
    obtain ⟨hfields, -⟩ := laidOut_summary s
    simp only [List.cons_append, List.forall_mem_cons] at hfields
    obtain ⟨h0, h2, h4, h6, h7, h8, h10, h14, h18, h26, -⟩ := hfields
    refine ⟨h0.trans (Nat.mod_eq_of_lt (by omega)), h2.trans (Nat.mod_eq_of_lt (by omega)),
      h4.trans (Nat.mod_eq_of_lt (by omega)), h6.trans (Nat.mod_eq_of_lt (by omega)), h7.trans ?_,
      h8.trans (Nat.mod_eq_of_lt (by omega)), h10.trans (Nat.mod_eq_of_lt (by omega)), ?_, ?_, ?_, fun p => ?_,
      summary_tail s⟩
    · cases s.store.pending <;> rfl
    · exact BitVec.eq_of_toNat_eq (h14.trans (Nat.mod_eq_of_lt (BitVec.isLt _)))
    · exact BitVec.eq_of_toNat_eq (h18.trans (Nat.mod_eq_of_lt (BitVec.isLt _)))
    · exact BitVec.eq_of_toNat_eq (h26.trans (Nat.mod_eq_of_lt (BitVec.isLt _)))
    · obtain ⟨hverdict, hvalue⟩ := summary_planes s p
      have hbound : s.cartridges.slots[p].estimate.getD 0 < 256 ^ 4 := by
        cases he : s.cartridges.slots[p].estimate with
        | none => decide
        | some n => exact hestimate p n he
      refine ⟨?_, ?_, summary_planeKnown s p⟩
      · unfold fieldAt at hverdict
        rw [Nat.mul_add] at hverdict
        exact hverdict.trans (verdictCode_eq _)
      · unfold fieldAt at hvalue
        rw [Nat.mul_add, ← Nat.mul_assoc] at hvalue
        exact hvalue.trans (Nat.mod_eq_of_lt hbound)

end Sys2Proof.Machine
end

section

/-! PROOFS. The acceptance of a return: the ring, its owner, and the next return (R179, R180, R188, R189). -/

namespace Sys2Proof.Machine

variable {s t u x : State} {o : Owner} {l : Line} {rest : List OwnLine}

/-! ### The bytes of every return (R188, R189) -/

/-- Which of its lines a parked snapshot offers. -/
theorem exportLine_of_user {epoch n : Nat} {copy : Snapshot} {tag : BitVec 256} {u : UserCopy}
    (hu : copy.users[n]? = some u) : exportLine epoch copy tag n = accountLine epoch u := by
  unfold exportLine
  rw [hu]

theorem exportLine_beyond (epoch : Nat) (copy : Snapshot) (tag : BitVec 256) (k : Nat) :
    exportLine epoch copy tag (copy.users.length + k) =
      if k = 0 then retiredLine epoch copy.retired
      else if k ≤ 5 then metersLine epoch copy (k - 1) else snapshotLine epoch copy tag := by
  unfold exportLine
  rw [List.getElem?_eq_none (Nat.le_add_right _ k)]
  dsimp only
  rw [Nat.add_sub_cancel_left]

/-! ### What its owner is told (R171, R176, R111, R135) -/

/-- The state in which an accepted return stands in the ring, before its owner is told. -/
def storedReturn (s : State) (m : List Host.Cell) : State :=
  { grantOwn s with mem := m, writer := { s.writer with writeIndex := (s.writer.writeIndex + 1) % 448 } }

/-- A return is at the head of the part's own stream, and its turn has come. -/
structure AcceptsReturn (s : State) (o : Owner) (l : Line) (rest : List OwnLine) : Prop where
  wf : MemoryWf s.mem
  wait : s.orders.resetWait = none
  completed : s.orders.completed = []
  turn : s.ownTurn = true
  own : s.port.own = .ret o l :: rest

/-- Telling an owner changes the side list and the order taker alone. -/
theorem tellOwner_state (o : Owner) (s : State) : ∃ sides orders, tellOwner o s = { s with sides, orders } ∧
    orders.resetWait = s.orders.resetWait ∧ orders.queue = s.orders.queue := by
  cases o with
  | sideList =>
    change ∃ sides orders, tellSideList s = _ ∧ _
    unfold tellSideList
    split
    · exact ⟨_, _, rfl, rfl, rfl⟩
    · split
      · exact ⟨_, _, rfl, rfl, rfl⟩
      · split
        · exact ⟨_, _, rfl, rfl, rfl⟩
        · exact ⟨_, _, rfl, rfl, rfl⟩
  | orderTaker =>
    change ∃ sides orders, tellOrderTaker s = _ ∧ _
    unfold tellOrderTaker
    split
    · exact ⟨_, _, rfl, rfl, rfl⟩
    · exact ⟨_, _, rfl, rfl, rfl⟩
  | snapshots =>
    change ∃ sides orders, tellExport s = _ ∧ _
    unfold tellExport
    split
    · split
      · unfold State.completeParked
        split
        · exact ⟨_, _, rfl, rfl, rfl⟩
        · exact ⟨_, _, rfl, rfl, rfl⟩
      · exact ⟨_, _, rfl, rfl, rfl⟩
    · exact ⟨_, _, rfl, rfl, rfl⟩

theorem AcceptsReturn.run (h : AcceptsReturn s o l rest) {m : List Host.Cell}
    (hm : m = writeLine s.mem (s.classifier.controlBase + 64 + s.writer.writeIndex) fullMask l) :
    exec .returnAccept s = .next (concludeEvent s (tellOwner o (storedReturn s m))) := by
  change execReturnAccept s = _
  unfold execReturnAccept
  rw [ownHead_of_turn h.turn h.own, hm]
  rfl

/-- An accepted return stands in the ring, and its owner is told. -/
theorem AcceptsReturn.accepted (h : AcceptsReturn s o l rest) {sides : SideList} {orders : OrderTaker}
    (htell : ∀ m, tellOwner o (storedReturn s m) = { storedReturn s m with sides, orders }) :
    ∃ t, (exec .returnAccept s = .next t ∧ readLine t.mem (s.classifier.controlBase + 64 + s.writer.writeIndex) = l ∧
      (∀ a, ¬(64 * (s.classifier.controlBase + 64 + s.writer.writeIndex) ≤ a ∧
        a < 64 * (s.classifier.controlBase + 64 + s.writer.writeIndex) + 64) → readByte t.mem a = readByte s.mem a) ∧
      t.ledger = { s.ledger with mem := t.mem, writeIndex := (s.writer.writeIndex + 1) % 448, sides } ∧
      t.orders.queue = s.orders.queue) ∧ t.orders = orders.moved := by
  obtain ⟨m, hm⟩ : ∃ m, m = writeLine s.mem (s.classifier.controlBase + 64 + s.writer.writeIndex) fullMask l := ⟨_, rfl⟩
  obtain ⟨sides', orders', hstate, hwait, hqueue⟩ := tellOwner_state o (storedReturn s m)
  rw [htell m] at hstate
  obtain rfl : orders = orders' := congrArg State.orders hstate
  have hrun := h.run hm
  rw [htell m] at hrun
  obtain ⟨t, ht, hends, hledger⟩ := ends_of_body hrun (hwait.trans h.wait) rfl
  have hmem : t.mem = m := congrArg Ledger.mem hledger
  obtain ⟨hline, hother⟩ := stored_of_own (x := t) h.wf hm hmem rfl
  refine ⟨t, ⟨ht, hline, hother, ?_, ?_⟩, hends.orders⟩
  · rw [hledger, hmem]
    rfl
  · rw [hends.orders]
    exact hqueue

theorem tell_result {held : Result} {others : List Result} (m : List Host.Cell) (hseq : s.orders.resetSequence = [])
    (hhold : s.orders.holding = held :: others) : tellOwner .orderTaker (storedReturn s m) =
      { storedReturn s m with sides := s.sides, orders := { s.orders with holding := others } } := by
  change tellOrderTaker _ = _
  unfold tellOrderTaker
  rw [show (storedReturn s m).orders = s.orders from rfl, hseq]
  dsimp only
  rw [hhold]
  rfl

theorem tell_sequence {first : Result} {others : List Result} (m : List Host.Cell)
    (hseq : s.orders.resetSequence = first :: others) : tellOwner .orderTaker (storedReturn s m) =
      { storedReturn s m with sides := s.sides, orders := { s.orders with resetSequence := others } } := by
  change tellOrderTaker _ = _
  unfold tellOrderTaker
  rw [show (storedReturn s m).orders = s.orders from rfl, hseq]
  rfl

/-- What a side record's acceptance leaves of the side list (R111, R189). -/
theorem tell_side {uid : Nat} {later : List Nat} {r : Side} (m : List Host.Cell)
    (horder : s.sides.settledOrder = uid :: later) (hside : s.sideWithUid uid = some r) :
    tellOwner .sideList (storedReturn s m) = { storedReturn s m with
      sides := if r.partsWritten + 1 < (if r.context = none then 1 else 4) then
          { s.sides with records := s.sides.records.map fun x =>
            if x.uid = uid then { x with partsWritten := x.partsWritten + 1 } else x }
        else
          { s.sides with
            records := s.sides.records.filter fun x => decide (x.uid ≠ uid), settledOrder := later }
      orders := s.orders } := by
  change tellSideList _ = _
  unfold tellSideList
  rw [show (storedReturn s m).sides = s.sides from rfl, horder]
  dsimp only
  rw [show (storedReturn s m).sideWithUid uid = some r from hside]
  dsimp only
  rw [r.partCount_eq]
  by_cases hmore : r.partsWritten + 1 < (if r.context = none then 1 else 4)
  · rw [if_neg (Nat.not_le.mpr hmore), if_pos hmore]
    rfl
  · rw [if_pos (Nat.not_lt.mp hmore), if_neg hmore]
    rfl

/-- The only parked snapshot. -/
structure ExportParked (s : State) (before after : List ParkedOrder) (p : ParkedOrder) (copy : Snapshot)
    (tag : BitVec 256) (n : Nat) : Prop where
  parked : s.orders.parked = before ++ p :: after
  object : p.object = .snapshot copy tag n
  only : ∀ q ∈ before ++ after, q.object.isSnapshot = false

section Export
variable {before after : List ParkedOrder} {p : ParkedOrder} {copy : Snapshot} {tag : BitVec 256} {n : Nat}

theorem ExportParked.first (h : ExportParked s before after p copy tag n) :
    s.orders.parked.find? (fun p => p.object.isSnapshot) = some p := by
  rw [h.parked]
  exact find?_first (f := fun q : ParkedOrder => q.object.isSnapshot) (by rw [h.object]; rfl)
    fun q hq => h.only q (List.mem_append_left _ hq)

theorem countExported_of_other {q : ParkedOrder} (h : q.object.isSnapshot = false) : countExported q = q := by
  unfold countExported
  split
  · next heq => rw [heq] at h; cases h
  · rfl

theorem tell_export (h : ExportParked s before after p copy tag n) (m : List Host.Cell) :
    tellOwner .snapshots (storedReturn s m) =
      if copy.users.length + 7 ≤ n + 1 then
        { storedReturn s m with
          sides := s.sides
          orders := { s.orders with
            parked := before ++ after
            completed := s.orders.completed ++
              [p.result none [u16 (copy.users.length + 2), { width := 32, value := tag.toNat }]] } }
      else
        { storedReturn s m with
          sides := s.sides
          orders := { s.orders with
            parked := before ++ { p with object := .snapshot copy tag (n + 1) } :: after } } := by
  have hfirst := h.first
  obtain ⟨pkind, pserial, pwindow, pobject⟩ := p
  obtain rfl : pobject = .snapshot copy tag n := h.object
  change tellExport _ = _
  unfold tellExport
  rw [show (storedReturn s m).orders = s.orders from rfl, hfirst]
  dsimp only
  by_cases hlast : copy.users.length + 7 ≤ n + 1
  · rw [if_pos hlast]
    refine (if_pos hlast).trans ?_
    exact completeParked_of_first (s := storedReturn s m) none _ h.parked rfl
      fun q hq => h.only q (List.mem_append_left _ hq)
  · rw [if_neg hlast]
    refine (if_neg hlast).trans ?_
    have hmap : s.orders.parked.map countExported =
        before ++ ⟨pkind, pserial, pwindow, .snapshot copy tag (n + 1)⟩ :: after := by
      have hkeep : ∀ qs : List ParkedOrder, (∀ q ∈ qs, q.object.isSnapshot = false) → qs.map countExported = qs :=
        fun qs hqs => (List.map_congr_left fun q hq => countExported_of_other (hqs q hq)).trans (List.map_id _)
      rw [h.parked, List.map_append, List.map_cons, hkeep before fun q hq => h.only q (List.mem_append_left _ hq),
        hkeep after fun q hq => h.only q (List.mem_append_right _ hq)]
      rfl
    rw [hmap]
    rfl

end Export

end Sys2Proof.Machine
end

section

/-! PROOFS. The next return (R179, R180), and the law of every acceptance. -/

namespace Sys2Proof.Machine

variable {s t u x y : State} {o : Owner} {l : Line} {rest : List OwnLine}

/-! ### What follows the return at the end of an event -/

/-- The part's own stream grows by lines that are no returns, and all that decides on returns stays. -/
structure NoReturnAdded (y t : State) : Prop where
  orders : t.orders = y.orders
  sides : t.sides = y.sides
  ring : t.writer.position = y.writer.position ∧ t.writer.epoch = y.writer.epoch ∧
    t.writer.writeIndex = y.writer.writeIndex ∧ t.writer.readIndex = y.writer.readIndex
  own : ∃ ls, t.port.own = y.port.own ++ ls ∧ ∀ q ∈ ls, q.isReturn = false

theorem NoReturnAdded.refl (s : State) : NoReturnAdded s s :=
  ⟨rfl, rfl, ⟨rfl, rfl, rfl, rfl⟩, [], (List.append_nil _).symm, fun _ h => absurd h List.not_mem_nil⟩

theorem NoReturnAdded.trans (hst : NoReturnAdded s t) (htu : NoReturnAdded t u) : NoReturnAdded s u := by
  obtain ⟨hpos, hepoch, hwrite, hread⟩ := hst.ring
  obtain ⟨hpos', hepoch', hwrite', hread'⟩ := htu.ring
  obtain ⟨ls, hls, hnone⟩ := hst.own
  obtain ⟨ms, hms, hnone'⟩ := htu.own
  refine ⟨htu.orders.trans hst.orders, htu.sides.trans hst.sides,
    ⟨hpos'.trans hpos, hepoch'.trans hepoch, hwrite'.trans hwrite, hread'.trans hread⟩, ls ++ ms,
    by rw [hms, hls, List.append_assoc], fun q hq => ?_⟩
  exact (List.mem_append.mp hq).elim (hnone q) (hnone' q)

theorem issueOwn_addsNoReturn {ls : List OwnLine} (s : State) (h : ∀ q ∈ ls, q.isReturn = false) :
    NoReturnAdded s (issueOwn ls s) :=
  ⟨rfl, rfl, ⟨rfl, rfl, rfl, rfl⟩, ls, rfl, h⟩

theorem issueHeader_addsNoReturn (b s : State) : NoReturnAdded s (issueHeader b s) := by
  unfold issueHeader
  split
  · exact .refl s
  · split
    · exact .refl s
    · exact issueOwn_addsNoReturn s (List.forall_mem_singleton.mpr rfl)

theorem issueSummary_addsNoReturn (b s : State) : NoReturnAdded s (issueSummary b s) := by
  unfold issueSummary
  split
  · exact .refl s
  · split
    · exact .refl s
    · exact issueOwn_addsNoReturn s (List.forall_mem_singleton.mpr rfl)

theorem evaluateAttention_addsNoReturn (s : State) : NoReturnAdded s (evaluateAttention s) :=
  ⟨rfl, rfl, ⟨rfl, rfl, rfl, rfl⟩, [], (List.append_nil _).symm, fun _ h => absurd h List.not_mem_nil⟩

theorem testEstimates_proverOnly (b s : State) : ProverOnly s (testEstimates b s) := by
  have hone : ∀ (p : Plane) (s : State), ProverOnly s (testEstimate b p s) := fun p s => by
    rw [testEstimate_eq]
    exact (raiseIf_proverOnly _ _ _).trans (raiseIf_proverOnly _ _ _)
  unfold testEstimates allPlanes
  simp only [List.foldl_cons, List.foldl_nil]
  exact (((hone _ _).trans (hone _ _)).trans (hone _ _)).trans (hone _ _)

/-- The end of an event issues its return in a state that has what the event leaves. -/
theorem concludeEvent_issues (b : State) (h : x.orders.resetWait = none) :
    ∃ v, v.port = x.port ∧ v.writer.position = x.writer.position ∧ v.orders.resetWait = none ∧
      NoReturnAdded (issueReturn v) (concludeEvent b x) := by
  obtain ⟨d, k, n, hstate⟩ := (testEstimates_proverOnly b x).trans (arbitrate_proverOnly (testEstimates b x))
  refine ⟨moveCompleted (arbitrate (testEstimates b x)), ?_, ?_, ?_, ?_⟩
  · rw [hstate]; rfl
  · rw [hstate]; rfl
  · rw [hstate]; exact h
  · unfold concludeEvent
    rw [noteDrain_of_no_wait x h, tryReset_of_no_wait x h]
    exact (issueHeader_addsNoReturn b _).trans ((issueSummary_addsNoReturn b _).trans (evaluateAttention_addsNoReturn _))

/-! ### The choice of the next return (R180) -/

theorem firstOffer_eq (s : State) (os : List Owner) : firstOffer s os =
    (os.find? fun o => (offerOf s o).isSome).bind fun o => (offerOf s o).map fun l => (o, l) := by
  induction os with
  | nil => rfl
  | cons o os ih =>
    unfold firstOffer
    cases ho : offerOf s o with
    | none => rw [List.find?_cons_of_neg (by rw [ho]; decide)]; exact ih
    | some l => rw [List.find?_cons_of_pos (by rw [ho]; rfl), Option.bind_some, ho]; rfl

theorem offerOf_congr {a b : State} (horders : a.orders = b.orders) (hsides : a.sides = b.sides)
    (hepoch : a.writer.epoch = b.writer.epoch) : offerOf a = offerOf b := by
  funext o
  cases o with
  | sideList =>
    unfold offerOf sideOffer State.sideWithUid
    rw [horders, hsides, hepoch]
  | orderTaker =>
    unfold offerOf resultOffer
    rw [horders, hepoch]
  | snapshots =>
    unfold offerOf snapshotOffer
    rw [horders, hepoch]

theorem returnInFlight_of_none (h : ∀ q ∈ s.port.own, q.isReturn = false) : s.returnInFlight = false := by
  unfold State.returnInFlight
  rw [List.any_eq_false]
  intro q hq
  have hnot := h q hq
  cases q with
  | ret o l => cases hnot
  | mergeRead | mergeWrite | header | summary => exact Bool.false_ne_true

/-- What decides on the next return is not changed by the issue of one. -/
theorem issueReturn_decides (v : State) : (issueReturn v).writer.writeIndex = v.writer.writeIndex ∧
    (issueReturn v).writer.readIndex = v.writer.readIndex ∧ (issueReturn v).writer.epoch = v.writer.epoch ∧
    (issueReturn v).orders = v.orders ∧ (issueReturn v).sides = v.sides := by
  unfold issueReturn
  split
  · exact ⟨rfl, rfl, rfl, rfl, rfl⟩
  · split
    · exact ⟨rfl, rfl, rfl, rfl, rfl⟩
    · exact ⟨rfl, rfl, rfl, rfl, rfl⟩

/-- The issue of a return while none is on its way and no reset wait lasts. -/
theorem issueReturn_of_none {v : State} (hwait : v.orders.resetWait = none)
    (hnone : ∀ q ∈ v.port.own, q.isReturn = false) : issueReturn v =
      bif v.writer.full then v
      else ((firstOffer v (rotation v.writer.position)).map fun c =>
        issueOwn [.ret c.1 c.2] { v with writer := { v.writer with position := c.1 } }).getD v := by
  have hhalted : v.writerHalted = false := by
    unfold State.writerHalted
    rw [hwait]
  unfold issueReturn
  rw [hhalted, returnInFlight_of_none hnone, Bool.false_or, Bool.false_or]
  cases v.writer.full
  · cases firstOffer v (rotation v.writer.position) <;> rfl
  · rfl

/-- An event that leaves no return on its way ends with the next offer in turn issued, if the ring has a free slot. -/
theorem nextReturn_of_none (b : State) (h : x.orders.resetWait = none) (hnone : ∀ q ∈ x.port.own, q.isReturn = false)
    (t : State) (ht : concludeEvent b x = t) :
    ((t.writer.writeIndex + 1) % 448 = t.writer.readIndex →
      t.writer.position = x.writer.position ∧ ∀ q ∈ t.port.own, q.isReturn = false) ∧
    ((t.writer.writeIndex + 1) % 448 ≠ t.writer.readIndex →
      ((rotation x.writer.position).find? (fun w => (offerOf t w).isSome) = none →
        t.writer.position = x.writer.position ∧ ∀ q ∈ t.port.own, q.isReturn = false) ∧
      ∀ w next, (rotation x.writer.position).find? (fun w => (offerOf t w).isSome) = some w → offerOf t w = some next →
        t.writer.position = w ∧ ∃ more, t.port.own = x.port.own ++ .ret w next :: more) := by
  obtain ⟨v, hport, hposv, hwait, hvt⟩ := concludeEvent_issues b h
  rw [ht] at hvt
  obtain ⟨ms, hms, hmsnone⟩ := hvt.own
  obtain ⟨hpost, hepoch, hwrite, hread⟩ := hvt.ring
  obtain ⟨hwi, hri, hei, hoi, hsi⟩ := issueReturn_decides v
  rw [issueReturn_of_none hwait (by rw [hport]; exact hnone), firstOffer_eq, hposv, show v.writer.full = decide
      ((t.writer.writeIndex + 1) % 448 = t.writer.readIndex) by rw [hwrite, hread, hwi, hri]; rfl,
    offerOf_congr (hvt.orders.trans hoi).symm (hvt.sides.trans hsi).symm (hepoch.trans hei).symm] at hpost hms
  have hkept : t.writer.position = v.writer.position → t.port.own = v.port.own ++ ms →
      t.writer.position = x.writer.position ∧ ∀ q ∈ t.port.own, q.isReturn = false := by
    intro hpos hown
    refine ⟨hpos.trans hposv, fun q hq => ?_⟩
    rw [hown, hport] at hq
    exact (List.mem_append.mp hq).elim (hnone q) (hmsnone q)
  refine ⟨fun hring => ?_, fun hring => ⟨fun hchosen => ?_, fun w next hchosen hnext => ?_⟩⟩
  · rw [decide_eq_true hring] at hpost hms
    exact hkept hpost hms
  · rw [decide_eq_false hring, hchosen] at hpost hms
    exact hkept hpost hms
  · rw [decide_eq_false hring, hchosen, Option.bind_some, hnext] at hpost hms
    refine ⟨hpost, ms, hms.trans ?_⟩
    rw [← hport]
    exact List.append_assoc _ _ _

end Sys2Proof.Machine
end

section

/-! PROOFS. The law of every acceptance of a return. -/

namespace Sys2Proof.Machine

variable {s t : State} {o : Owner} {l : Line} {rest : List OwnLine}

/-- What an owner offers, by the lists that it offers from. -/
def offered (t : State) (epoch : Nat) : Owner → Option Line
  | .orderTaker => (t.orders.resetSequence ++ t.orders.holding).head?.map (resultLine epoch)
  | .sideList => if t.orders.resetSequence ≠ [] then none else t.sides.settledOrder.head?.bind fun uid =>
      (t.sideWithUid uid).map fun r => sideLine epoch r r.partsWritten
  | .snapshots => if t.orders.resetSequence ≠ [] then none else
      (t.orders.parked.find? fun p => p.object.isSnapshot).bind fun p => match p.object with
        | .snapshot copy tag n => some (exportLine epoch copy tag n)
        | _ => none

theorem snapshotOffer_eq (t : State) : snapshotOffer t =
    (t.orders.parked.find? fun p => p.object.isSnapshot).bind fun p => match p.object with
      | .snapshot copy tag n => some (exportLine t.writer.epoch copy tag n)
      | _ => none := by
  unfold snapshotOffer
  cases t.orders.parked.find? fun p => p.object.isSnapshot with
  | none => rfl
  | some p =>
    obtain ⟨_, _, _, object⟩ := p
    cases object <;> rfl

theorem offerOf_eq (t : State) : offerOf t = offered t t.writer.epoch := by
  funext o
  cases o with
  | orderTaker =>
    change resultOffer t = _
    unfold resultOffer offered
    cases t.orders.resetSequence <;> rfl
  | sideList =>
    unfold offerOf sideOffer offered
    cases t.orders.resetSequence with
    | cons => rfl
    | nil => cases t.sides.settledOrder <;> rfl
  | snapshots =>
    unfold offerOf offered
    rw [snapshotOffer_eq]
    cases t.orders.resetSequence <;> rfl

/-- The return issued in the event of an acceptance. -/
theorem AcceptsReturn.next (h : AcceptsReturn s o l rest) (hnone : ∀ q ∈ rest, q.isReturn = false) :
    ∃ t, exec .returnAccept s = .next t ∧
      ((t.writer.writeIndex + 1) % 448 = t.writer.readIndex →
        t.writer.position = s.writer.position ∧ ∀ q ∈ t.port.own, q.isReturn = false) ∧
      ((t.writer.writeIndex + 1) % 448 ≠ t.writer.readIndex →
        ((rotation s.writer.position).find? (fun w => (offered t s.writer.epoch w).isSome) = none →
          t.writer.position = s.writer.position ∧ ∀ q ∈ t.port.own, q.isReturn = false) ∧
        ∀ w next, (rotation s.writer.position).find? (fun w => (offered t s.writer.epoch w).isSome) = some w →
          offered t s.writer.epoch w = some next →
          t.writer.position = w ∧ ∃ more, t.port.own = rest ++ .ret w next :: more) := by
  obtain ⟨m, hm⟩ : ∃ m, m = writeLine s.mem (s.classifier.controlBase + 64 + s.writer.writeIndex) fullMask l := ⟨_, rfl⟩
  obtain ⟨sides, orders, hstate, hwait, -⟩ := tellOwner_state o (storedReturn s m)
  have hrun := h.run hm
  rw [hstate] at hrun
  have hrest : (grantOwn s).port.own = rest := grantOwn_own h.own
  obtain ⟨t, ht, hends, hledger⟩ := ends_of_body hrun (hwait.trans h.wait) rfl
  have hepoch : t.writer.epoch = s.writer.epoch := (congrArg Ledger.epoch hledger).trans rfl
  have hnext := nextReturn_of_none (x := { storedReturn s m with sides, orders }) s (hwait.trans h.wait)
    (fun q hq => hnone q (hrest ▸ hq)) t (Host.Outcome.next.inj (hrun.symm.trans ht))
  rw [offerOf_eq, hepoch] at hnext
  refine ⟨t, ht, hnext.1, fun hring => ⟨(hnext.2 hring).1, fun w next hw hnext' => ?_⟩⟩
  obtain ⟨hpos, more, hown⟩ := (hnext.2 hring).2 w next hw hnext'
  exact ⟨hpos, more, hown.trans (congrArg (· ++ OwnLine.ret w next :: more) hrest)⟩

/-- Settles O24. -/
theorem acceptedReturnEntersTheRing : Obligations.AcceptedReturnEntersTheRing := by
  refine ⟨fun s o l rest hwf hwait hcompleted hturn hown => ?_, fun epoch r hwidth => ?_, fun epoch r => ?_,
    fun epoch copy tag => ?_⟩
  · have h : AcceptsReturn s o l rest := ⟨hwf, hwait, hcompleted, hturn, hown⟩
    intro line accepted
    refine ⟨?_, ?_, ?_, ?_, fun hnone => h.next hnone⟩
    · rintro held others rfl hseq hhold
      obtain ⟨t, haccepted, horders⟩ := h.accepted fun m => tell_result m hseq hhold
      replace horders := horders.trans (OrderTaker.moved_of_none hcompleted)
      exact ⟨t, haccepted, (congrArg OrderTaker.holding horders).trans rfl, (congrArg OrderTaker.parked horders).trans rfl⟩
    · rintro first others rfl hseq
      obtain ⟨t, haccepted, horders⟩ := h.accepted fun m => tell_sequence m hseq
      replace horders := horders.trans (OrderTaker.moved_of_none hcompleted)
      exact ⟨t, haccepted, congrArg OrderTaker.resetSequence horders, (congrArg OrderTaker.holding horders).trans rfl,
        (congrArg OrderTaker.parked horders).trans rfl⟩
    · rintro uid later r rfl horder hside
      obtain ⟨t, haccepted, horders⟩ := h.accepted fun m => tell_side m horder hside
      replace horders := horders.trans (OrderTaker.moved_of_none hcompleted)
      exact ⟨t, (congrArg OrderTaker.holding horders).trans rfl, (congrArg OrderTaker.parked horders).trans rfl, haccepted⟩
    · rintro p before after copy tag n rfl hparked hobject honly hroom
      have hexport : ExportParked s before after p copy tag n := ⟨hparked, hobject, honly⟩
      refine ⟨fun hmore => ?_, fun hlast => ?_⟩
      · obtain ⟨t, haccepted, horders⟩ := h.accepted fun m => (tell_export hexport m).trans (if_neg (by omega))
        replace horders := horders.trans (OrderTaker.moved_of_none hcompleted)
        exact ⟨t, haccepted, (congrArg OrderTaker.holding horders).trans rfl, (congrArg OrderTaker.parked horders).trans rfl⟩
      · obtain ⟨t, haccepted, horders⟩ := h.accepted fun m => (tell_export hexport m).trans (if_pos hlast)
        replace horders := horders.trans (OrderTaker.moved_of_one
          (r := p.result none [u16 (copy.users.length + 2), { width := 32, value := tag.toNat }])
          (by rw [hcompleted]; rfl) hroom)
        exact ⟨t, haccepted, (congrArg OrderTaker.parked horders).trans rfl, (congrArg OrderTaker.holding horders).trans rfl⟩
  · intro reasons
    have hlaid := laidOut_resultLine epoch r hwidth
    cases hreason : r.reason with
    | none =>
      rw [hreason] at hlaid
      exact hlaid
    | some x =>
      rw [hreason] at hlaid
      dsimp only at hlaid
      rw [Reason.code_eq_idxOf x] at hlaid
      exact hlaid
  · refine ⟨?_, laidOut_sideSerials epoch r, ?_, ?_⟩
    · have houtcome : (r.outcome.map SideOutcome.code).getD 0 = (match r.outcome with
          | some .complete => 0 | some .short => 1 | some .jammed => 2 | some .voided => 3 | none => 0) := by
        cases r.outcome with
        | none => rfl
        | some x => cases x <;> rfl
      have hlaid := laidOut_sideHead epoch r
      rw [houtcome] at hlaid
      exact hlaid
    · exact laidOut_planes (before := returnHead 2 epoch ++ [u8 2, u8 r.partCount, u16 r.id]) rfl rfl
        (by rw [r.partCount_eq]; rfl)
    · exact laidOut_planes (before := returnHead 2 epoch ++ [u8 3, u8 r.partCount, u16 r.id]) rfl rfl
        (by rw [r.partCount_eq]; rfl)
  · intro users counters signed
    refine ⟨fun n u hu => ?_, ?_, ?_, fun p => ?_, ?_⟩
    · rw [exportLine_of_user hu]
      exact laidOut_account epoch u
    · rw [← Nat.add_zero users, exportLine_beyond]
      exact laidOut_retired epoch copy.retired
    · rw [exportLine_beyond]
      exact laidOut_meters epoch copy
    · intro totals
      rw [Nat.add_assoc, exportLine_beyond, if_neg (by omega), if_pos (by omega), show 2 + p.val - 1 = p.val + 1 by omega]
      exact laidOut_totals epoch copy p
    · rw [exportLine_beyond]
      exact laidOut_snapshot epoch copy tag

end Sys2Proof.Machine
end

section

/-! PROOFS. The arrival of a request: its place and treatment (R5), and where it goes (R51, R52, R166). -/

namespace Sys2Proof.Machine

variable {s t x : State} {tag : Fin 64} {line : Nat} {access : Access} {r : Req} {reg : Region} {i : Fin 32}

/-! ### The place of a line (R5) -/

theorem placeOf_beyond (h : s.classifier.memLines ≤ line) : s.placeOf line = .beyond := if_pos h

theorem placeOf_control (h : line < s.classifier.memLines) (hlow : s.classifier.controlBase ≤ line)
    (hhigh : line < s.classifier.controlBase + 512) : s.placeOf line = .control (line - s.classifier.controlBase) := by
  unfold State.placeOf
  dsimp only
  rw [if_neg (Nat.not_le.mpr h), if_pos ⟨hlow, hhigh⟩]

theorem holds_iff : reg.holds line = true ↔ reg.base ≤ line ∧ line < reg.base + reg.size := by
  simp [Region.holds]

theorem regionOf_in (h : s.LineIn line i reg) : s.regionOf line = some i := by
  refine firstIndex_eq_some (i := i) ?_ fun k hk => ?_
  · rw [h.record]
    exact holds_iff.mpr h.inside
  · cases hrec : s.classifier.regions[k] with
    | none => rfl
    | some x =>
      rw [← Bool.not_eq_true]
      exact fun hholds => h.noOther k (ne_of_lt hk) x hrec (holds_iff.mp hholds)

theorem placeOf_region (h : s.LineIn line i reg) : s.placeOf line = .region i reg.uid := by
  unfold State.placeOf
  dsimp only
  rw [if_neg (Nat.not_le.mpr h.memory), if_neg h.noControl, regionOf_in h]
  dsimp only
  rw [h.record]

theorem placeOf_plain (h : line < s.classifier.memLines)
    (hcontrol : ¬(s.classifier.controlBase ≤ line ∧ line < s.classifier.controlBase + 512))
    (hnone : ∀ i : Fin 32, ∀ r ∈ s.classifier.regions[i], ¬(r.base ≤ line ∧ line < r.base + r.size)) :
    s.placeOf line = .plain := by
  have hregion : s.regionOf line = none := by
    refine List.find?_eq_none.mpr fun i _ => ?_
    cases hrec : s.classifier.regions[i] with
    | none => exact Bool.false_ne_true
    | some x => exact fun hholds => hnone i x hrec (holds_iff.mp hholds)
  unfold State.placeOf
  dsimp only
  rw [if_neg (Nat.not_le.mpr h), if_neg hcontrol, hregion]

/-! ### The treatment in a region (R13, R14, R41) -/

theorem treatmentOf_region {cls : SourceClass} (h : s.LineIn line i reg) :
    s.treatmentOf cls (.region i reg.uid) line access = regionTreatment s cls reg line access := by
  unfold State.treatmentOf
  dsimp only
  rw [h.record]

theorem regionTreatment_orphan {cls : SourceClass} (h : reg.state = .orphan) :
    regionTreatment s cls reg line access = orphanTreatment cls access := by
  unfold regionTreatment
  rw [h]

theorem regionTreatment_unbound {cls : SourceClass} (h : reg.state = .live) (hjob : reg.job = none) :
    regionTreatment s cls reg line access = unboundTreatment s cls reg.kind access := by
  unfold regionTreatment
  rw [h, hjob]

theorem regionTreatment_bound {cls : SourceClass} {k : Fin 16} {j : Job} (h : reg.state = .live) (hjob : reg.job = some k)
    (hj : s.jobs[k] = some j) : regionTreatment s cls reg line access =
      boundTreatment s cls j.release reg.kind { job := k, key := j.key, offset := line - reg.base } access := by
  unfold regionTreatment
  rw [h, hjob]
  dsimp only
  rw [hj]

/-! ### The request as it arrives (R3, R5) -/

/-- The request with its place and treatment, under the arrival number that the channel gives it. -/
def arrivedRequest (s : State) (tag : Fin 64) (line : Nat) (place : Place) (treatment : Treatment) (carried : Access) : Req :=
  { id := s.channel.nextId, tag, cls := s.classifier.sources[tag], line, access := carried, place, treatment }

/-- A request has been received on the channel, and it is not answered. -/
def received (tag : Fin 64) (s : State) : State :=
  { s with channel := { s.channel with
      nextId := s.channel.nextId + 1
      outstanding := s.channel.outstanding ++ [{ id := s.channel.nextId, tag, answer := none }] } }

theorem classify_eq {place : Place} {treatment : Treatment} (hplace : s.placeOf line = place)
    (htreat : s.treatmentOf s.classifier.sources[tag] place line access = treatment) :
    classify { tag, line, access } s =
      arrivedRequest s tag line place treatment (arrivedAccess treatment access) := by
  unfold classify arrivedRequest
  dsimp only
  rw [hplace, htreat]

/-- The event of an arrival, by what the request does as it arrives. -/
theorem arrival_ends (hacc : s.accepting = true) (hclass : classify { tag, line, access } s = r)
    (hx : handleRequest r (received tag s) = x) (horders : x.orders.resetWait = none) (hcart : x.cartridges = s.cartridges) :
    ∃ t, exec (.lineRequest tag line access) s = .next t ∧ EventEnds x t ∧ t.ledger = x.ledger := by
  refine ends_of_body ?_ horders hcart
  change event (present { tag, line, access }) s = _
  unfold event present arrive
  rw [if_pos hacc, hclass, ← hx]
  rfl

/-! ### Counting for a job (R32) -/

theorem countArrival_of_none (h : r.countedJob = none) : countArrival r s = s := by
  unfold countArrival
  rw [h]

theorem countArrival_of_job {k : Fin 16} {j : Job} (h : r.countedJob = some k) (hj : s.jobs[k] = some j) :
    countArrival r s = { s with jobs := put s.jobs k (some { j with lines := min 4294967295 (j.lines + 1) }) } := by
  unfold countArrival
  rw [h]
  exact onJob_of_some hj _

/-! ### Toward the port (R51, R52) -/

theorem hasClaim_of_some (h : ∃ q ∈ s.protection.queues, q.line = line) : s.hasClaim line = true := by
  obtain ⟨q, hq, hline⟩ := h
  exact List.any_eq_true.mpr ⟨q, hq, decide_eq_true hline⟩

theorem hasClaim_of_none (h : ∀ q ∈ s.protection.queues, q.line ≠ line) : s.hasClaim line = false :=
  List.any_eq_false.mpr fun q hq => by simp [h q hq]

theorem towardPort_of_claim (h : ∃ q ∈ s.protection.queues, q.line = r.line) : towardPort r s = joinQueue r s := by
  unfold towardPort
  rw [hasClaim_of_some h]
  rfl

theorem towardPort_of_free (h : ∀ q ∈ s.protection.queues, q.line ≠ r.line) : towardPort r s = issueUpstream [r] s := by
  unfold towardPort
  rw [hasClaim_of_none h]
  rfl

/-- The treatments under which a request goes toward the port at once, counted for its job if it uses a key. -/
def Treatment.forwards : Treatment → Bool
  | .rawRead | .rawWrite | .encipherWrite _ | .decipherRead _ | .decipherAndMeter _ _ | .meter _ => true
  | _ => false

/-- The treatments under which a request reaches memory. -/
def Treatment.reaches : Treatment → Bool
  | .withhold | .refuse | .blank _ => false
  | _ => true

theorem handleRequest_of_reaches (h : r.treatment.reaches = true) :
    handleRequest r s = if storesNothing r.access then s.answer r.id okayWrite else admitRequest r s := by
  unfold handleRequest
  split
  · next heq => rw [heq] at h; cases h
  · next heq => rw [heq] at h; cases h
  · next heq => rw [heq] at h; cases h
  · rfl

theorem handleRequest_of_stores (h : r.treatment.reaches = true) (hstores : storesNothing r.access = false) :
    handleRequest r s = admitRequest r s := by
  rw [handleRequest_of_reaches h]
  exact if_neg (by rw [hstores]; decide)

theorem reaches_of_forwards {treatment : Treatment} (h : treatment.forwards = true) : treatment.reaches = true := by
  cases treatment
  case withhold | refuse | blank => cases h
  all_goals rfl

theorem handleRequest_forwards (h : r.treatment.forwards = true) (hstores : storesNothing r.access = false) :
    handleRequest r s = towardPort r (countArrival r s) := by
  rw [handleRequest_of_stores (reaches_of_forwards h) hstores]
  unfold admitRequest
  split
  · next heq => rw [heq] at h; cases h
  · next heq => rw [heq] at h; cases h
  · next heq => rw [heq] at h; cases h
  · next heq => rw [heq] at h; cases h
  · rfl

theorem handleRequest_pass (h : r.treatment = .pass) (hbehind : s.waitsBehindOrder r = false)
    (hstores : storesNothing r.access = false) : handleRequest r s = towardPort r s := by
  rw [handleRequest_of_stores (by rw [h]; rfl) hstores]
  unfold admitRequest
  rw [h]
  exact if_neg (by rw [hbehind]; decide)

end Sys2Proof.Machine
end

section

/-! PROOFS. Requests that reach memory: their treatments and where they go (R5, R13, R14, R41, R48, R51, R52). -/

namespace Sys2Proof.Machine

variable {s t x : State} {tag : Fin 64} {line : Nat} {access : Access} {r : Req} {reg : Region} {i : Fin 32}

/-- The request has arrived, and it waits for its answer. -/
def Arrived (s : State) (tag : Fin 64) (line : Nat) (access : Access) (t : State) : Prop :=
  exec (.lineRequest tag line access) s = .next t ∧
    t.channel.outstanding = s.channel.outstanding ++ [{ id := s.channel.nextId, tag, answer := none }] ∧
    t.channel.returned = s.channel.returned ∧ t.orders.queue = s.orders.queue

/-- The request goes on: into the upstream stream, or into the same-line queue of its line. -/
def GoesOn (s : State) (tag : Fin 64) (line : Nat) (access : Access) (l : Ledger) (r : Req) : Prop :=
  ((∀ q ∈ s.protection.queues, q.line ≠ line) →
    ∃ t, Arrived s tag line access t ∧ t.ledger = l ∧ t.port.upstream = s.port.upstream ++ [r] ∧
      t.protection.queues = s.protection.queues) ∧
  ((∃ q ∈ s.protection.queues, q.line = line) →
    ∃ t, Arrived s tag line access t ∧ t.ledger = l ∧ t.port.upstream = s.port.upstream ∧
      t.protection.queues = s.protection.queues.map fun q =>
        if q.line = line then { q with queue := q.queue ++ [{ r with queued := true }] } else q)

/-- The tables when the job `j` of slot `k` counts one more line (R32). -/
def countedFor (s : State) (k : Fin 16) (j : Job) : Vector (Option Job) 16 :=
  put s.jobs k (some { j with lines := min 4294967295 (j.lines + 1) })

/-- What an arrival leaves whose request waits for its answer. -/
theorem arrived_of {jobs : Vector (Option Job) 16} {protection : Protection} {port : Port} {held : List Req}
    (hacc : s.accepting = true) (hclass : classify { tag, line, access } s = r)
    (hx : handleRequest r (received tag s) = { received tag s with
      channel := { (received tag s).channel with heldOrders := held }, jobs, protection, port }) :
    ∃ t, Arrived s tag line access t ∧ t.ledger = { s.ledger with
        jobs, merges := protection.table, claims := protection.waitList } ∧ t.channel.heldOrders = held ∧
      t.protection = protection ∧ t.port.upstream = port.upstream ∧ port.own <+: t.port.own := by
  obtain ⟨t, ht, hends, hledger⟩ := arrival_ends hacc hclass hx (noWait_of_accepting hacc) rfl
  refine ⟨t, ⟨ht, ?_, ?_, ?_⟩, hledger, ?_, hends.port.protection, hends.port.upstream, hends.port.own⟩
  · exact congrArg ChannelFront.outstanding hends.channel
  · exact (congrArg ChannelFront.returned hends.channel).trans rfl
  · exact (congrArg OrderTaker.queue hends.orders).trans rfl
  · exact congrArg ChannelFront.heldOrders hends.channel

theorem goesOn_of_toward {jobs : Vector (Option Job) 16} (hacc : s.accepting = true)
    (hclass : classify { tag, line, access } s = r) (hline : r.line = line)
    (hx : handleRequest r (received tag s) = towardPort r { received tag s with jobs }) :
    GoesOn s tag line access { s.ledger with jobs } r := by
  refine ⟨fun hfree => ?_, fun hclaim => ?_⟩
  · rw [towardPort_of_free (s := { received tag s with jobs }) (by rw [hline]; exact hfree)] at hx
    obtain ⟨t, harrived, hledger, -, hprotection, hupstream, -⟩ := arrived_of hacc hclass hx
    exact ⟨t, harrived, hledger, hupstream, congrArg Protection.queues hprotection⟩
  · rw [towardPort_of_claim (s := { received tag s with jobs }) (by rw [hline]; exact hclaim)] at hx
    obtain ⟨t, harrived, hledger, -, hprotection, hupstream, -⟩ := arrived_of hacc hclass hx
    refine ⟨t, harrived, hledger, hupstream, (congrArg Protection.queues hprotection).trans ?_⟩
    rw [hline]
    rfl

/-! ### The requests that go on -/

section Forwarded
variable {place : Place} {treatment : Treatment}

theorem goesOn_pass (hacc : s.accepting = true) (hplace : s.placeOf line = place)
    (htreat : s.treatmentOf s.classifier.sources[tag] place line access = .pass)
    (hbehind : s.waitsBehindOrder (arrivedRequest s tag line place .pass access) = false)
    (hstores : storesNothing access = false) :
    GoesOn s tag line access s.ledger (arrivedRequest s tag line place .pass access) :=
  goesOn_of_toward (jobs := s.jobs) hacc (classify_eq hplace htreat) rfl
    (handleRequest_pass (s := received tag s) (r := arrivedRequest s tag line place .pass access) rfl hbehind hstores)

theorem goesOn_uncounted (hacc : s.accepting = true) (hplace : s.placeOf line = place)
    (htreat : s.treatmentOf s.classifier.sources[tag] place line access = treatment) (hforwards : treatment.forwards = true)
    (hnone : (arrivedRequest s tag line place treatment access).countedJob = none)
    (hcarried : arrivedAccess treatment access = access) (hstores : storesNothing access = false) :
    GoesOn s tag line access s.ledger (arrivedRequest s tag line place treatment access) := by
  have hclass := classify_eq hplace htreat
  rw [hcarried] at hclass
  refine goesOn_of_toward (jobs := s.jobs) hacc hclass rfl ?_
  rw [handleRequest_forwards hforwards hstores, countArrival_of_none hnone]
  rfl

theorem goesOn_counted {k : Fin 16} {j : Job} (hacc : s.accepting = true) (hplace : s.placeOf line = place)
    (htreat : s.treatmentOf s.classifier.sources[tag] place line access = treatment) (hforwards : treatment.forwards = true)
    (hcounted : (arrivedRequest s tag line place treatment (arrivedAccess treatment access)).countedJob = some k)
    (hj : s.jobs[k] = some j) (hstores : storesNothing (arrivedAccess treatment access) = false) :
    GoesOn s tag line access { s.ledger with jobs := countedFor s k j }
      (arrivedRequest s tag line place treatment (arrivedAccess treatment access)) := by
  refine goesOn_of_toward hacc (classify_eq hplace htreat) rfl ?_
  rw [handleRequest_forwards hforwards hstores, countArrival_of_job (s := received tag s) hcounted hj]
  rfl

end Forwarded

/-! ### Treatments -/

theorem storesNothing_of_ne (h : ∀ mask data, access = .write mask data → mask ≠ 0) : storesNothing access = false := by
  cases access with
  | read => rfl
  | write mask data => exact decide_eq_false (h mask data rfl)

theorem unboundTreatment_pass {cls : SourceClass} {k : RegionKind}
    (h : ¬(cls = .readout ∧ k ≠ .priv ∧ access = .read)) : unboundTreatment s cls k access = .pass := by
  cases cls with
  | readout =>
    cases k with
    | priv => rfl
    | band p d n =>
      cases access with
      | read => exact absurd ⟨rfl, nofun, rfl⟩ h
      | write mask data => rfl
  | intake | pipe | general => rfl

theorem boundTreatment_usesKey {cls : SourceClass} {rel : Release} {k : RegionKind} {c : Cipher}
    (h : cls = .pipe ∨ (cls = .intake ∧ k = .priv)) :
    boundTreatment s cls rel k c .read = .decipherRead c ∧
      ∀ mask data, boundTreatment s cls rel k c (.write mask data) = encipherOrMerge c mask := by
  rcases h with rfl | ⟨rfl, rfl⟩
  · exact ⟨rfl, fun _ _ => rfl⟩
  · exact ⟨rfl, fun _ _ => rfl⟩

theorem controlTreatment_noOrder {n : Nat} (hlow : 2 ≤ n) (hhigh : n < 64)
    (h : ∃ mask data, access = .write mask data ∧ (mask ≠ BitVec.allOnes 64 ∨ byteAt data 0 = 0#8)) :
    controlTreatment .general n access = .pass := by
  obtain ⟨mask, data, rfl, hno⟩ := h
  change (if n = 0 then _ else if n = 1 then _ else if n ≤ 63 then _ else _) = _
  rw [if_neg (by omega), if_neg (by omega), if_pos (by omega)]
  refine if_neg fun ⟨hfull, hbyte⟩ => ?_
  exact hno.elim (fun hmask => hmask hfull) (fun hzero => hbyte hzero)

end Sys2Proof.Machine
end

section

/-! PROOFS. Merge claims as they arrive (R48), and the law of every request that reaches memory. -/

namespace Sys2Proof.Machine

variable {s t x : State} {tag : Fin 64} {line : Nat} {access : Access} {r : Req} {reg : Region} {i : Fin 32}

/-! ### Merge claims (R48) -/

/-- The state in which a merge claim has arrived and counts for its job. -/
def claimReceived (tag : Fin 64) (s : State) (k : Fin 16) (j : Job) : State :=
  { received tag s with jobs := countedFor s k j }

/-- The claim of a line begins with an empty same-line queue (R48, R52). -/
def claimBegun (line : Nat) (s : State) : State :=
  { s with protection := { s.protection with queues := s.protection.queues ++ [{ line, queue := [] }] } }

theorem handleRequest_claim {c : Cipher} {j : Job} (htreat : r.treatment = .merge c) (hj : s.jobs[c.job] = some j)
    (hstores : storesNothing r.access = false) :
    handleRequest r (received tag s) = claimMerge r (claimReceived tag s c.job j) := by
  have hcounted : r.countedJob = some c.job := by
    unfold Req.countedJob
    rw [htreat]
  rw [handleRequest_of_stores (by rw [htreat]; rfl) hstores]
  unfold admitRequest
  rw [htreat]
  dsimp only
  rw [countArrival_of_job (s := received tag s) hcounted hj]
  rfl

theorem claimMerge_of_claim (h : ∃ q ∈ s.protection.queues, q.line = r.line) : claimMerge r s = towardPort r s := by
  rw [towardPort_of_claim h]
  unfold claimMerge
  exact if_pos (hasClaim_of_some h)

theorem claimMerge_of_free {n : Fin 8} (h : ∀ q ∈ s.protection.queues, q.line ≠ r.line)
    (hn : s.protection.table[n] = none) (hlow : ∀ b : Fin 8, b < n → s.protection.table[b] ≠ none) :
    claimMerge r s = giveEntry n r (claimBegun r.line s) := by
  have hfirst : firstIndex (fun i : Fin 8 => s.protection.table[i].isNone) = some n :=
    firstIndex_eq_some (by rw [hn]; rfl) fun k hk =>
      Option.isNone_eq_false_iff.mpr (Option.ne_none_iff_isSome.mp (hlow k hk))
  unfold claimMerge
  rw [hasClaim_of_none h]
  change (match firstIndex (fun i : Fin 8 => s.protection.table[i].isNone) with | some i => _ | none => _) = _
  rw [hfirst]
  rfl

theorem claimMerge_of_full (h : ∀ q ∈ s.protection.queues, q.line ≠ r.line)
    (hfull : ∀ n : Fin 8, s.protection.table[n] ≠ none) : claimMerge r s = { claimBegun r.line s with
      protection := { (claimBegun r.line s).protection with waitList := s.protection.waitList ++ [r] } } := by
  have hnone : firstIndex (fun i : Fin 8 => s.protection.table[i].isNone) = none :=
    List.find?_eq_none.mpr fun i _ => by simpa using hfull i
  unfold claimMerge
  rw [hasClaim_of_none h]
  change (match firstIndex (fun i : Fin 8 => s.protection.table[i].isNone) with | some i => _ | none => _) = _
  rw [hnone]
  rfl

theorem counted_then_given (s : State) (k : Fin 16) {j : Job} (hlines : j.lines < 4294967295) :
    claimCounted (countedFor s k j) k = put s.jobs k (some { j with merges := j.merges + 1 }) := by
  unfold claimCounted countedFor
  rw [put_same, put_put]
  dsimp only [Option.map_some]
  rw [Nat.min_eq_right (by omega), Nat.add_sub_cancel]

section Claim
variable {c : Cipher} {j : Job} {place : Place}

/-- A partial enciphering write on a line with a claim waits in the same-line queue. -/
theorem claim_queued (hacc : s.accepting = true) (hplace : s.placeOf line = place)
    (htreat : s.treatmentOf s.classifier.sources[tag] place line access = .merge c) (hj : s.jobs[c.job] = some j)
    (hstores : storesNothing access = false) (hclaim : ∃ q ∈ s.protection.queues, q.line = line) :
    GoesOn s tag line access { s.ledger with jobs := countedFor s c.job j }
      (arrivedRequest s tag line place (.merge c) access) := by
  refine goesOn_of_toward hacc (classify_eq hplace htreat) rfl ?_
  rw [handleRequest_claim (c := c) rfl hj hstores]
  exact claimMerge_of_claim (s := claimReceived tag s c.job j) hclaim

/-- A partial enciphering write on a line without a claim takes the lowest-numbered free entry. -/
theorem claim_given {n : Fin 8} (hacc : s.accepting = true) (hplace : s.placeOf line = place)
    (htreat : s.treatmentOf s.classifier.sources[tag] place line access = .merge c) (hj : s.jobs[c.job] = some j)
    (hstores : storesNothing access = false) (hfree : ∀ q ∈ s.protection.queues, q.line ≠ line)
    (hn : s.protection.table[n] = none) (hlow : ∀ b : Fin 8, b < n → s.protection.table[b] ≠ none)
    (hlines : j.lines < 4294967295) :
    ∃ t phase more, Arrived s tag line access t ∧ t.port.upstream = s.port.upstream ∧
      t.protection.queues = s.protection.queues ++ [{ line, queue := [] }] ∧
      t.ledger = { s.ledger with
        merges := put s.protection.table n
          (some { req := arrivedRequest s tag line place (.merge c) access, phase, merged := none })
        jobs := put s.jobs c.job (some { j with merges := j.merges + 1 }) } ∧
      ((∀ q ∈ s.port.upstream, q.line ≠ line) →
        phase = .reading ∧ t.port.own = s.port.own ++ .mergeRead n :: more) ∧
      ((∃ q ∈ s.port.upstream, q.line = line) → phase = .ordering) := by
  have hx := handleRequest_claim (r := arrivedRequest s tag line place (.merge c) access) (tag := tag) (c := c) rfl hj hstores
  rw [claimMerge_of_free (r := arrivedRequest s tag line place (.merge c) access) (s := claimReceived tag s c.job j)
    hfree hn hlow, giveEntry_given n (q := arrivedRequest s tag line place (.merge c) access) (d := c) rfl] at hx
  obtain ⟨t, harrived, hledger, -, hprotection, hupstream, hown⟩ := arrived_of hacc (classify_eq hplace htreat) hx
  obtain ⟨more, hmore⟩ := hown
  refine ⟨t, claimPhase s.port.upstream (arrivedRequest s tag line place (.merge c) access), more, harrived,
    hupstream, congrArg Protection.queues hprotection, ?_, fun hnone => ?_, fun hsome => ?_⟩
  · rw [← counted_then_given s c.job hlines]
    exact hledger
  · have hlf : lineFree s.port.upstream (arrivedRequest s tag line place (.merge c) access) = true := lineFree_iff.mpr hnone
    have hread : claimRead s.port.upstream (arrivedRequest s tag line place (.merge c) access) n = [.mergeRead n] :=
      if_pos hlf
    refine ⟨if_pos hlf, hmore.symm.trans ?_⟩
    exact (congrArg (fun l => s.port.own ++ l ++ more) hread).trans (List.append_assoc _ _ _)
  · have hlf : lineFree s.port.upstream (arrivedRequest s tag line place (.merge c) access) = false := lineFree_false.mpr hsome
    exact if_neg (by rw [hlf]; decide)

/-- A partial enciphering write without a claim on its line and without a free entry joins the entry wait list. -/
theorem claim_waits (hacc : s.accepting = true) (hplace : s.placeOf line = place)
    (htreat : s.treatmentOf s.classifier.sources[tag] place line access = .merge c) (hj : s.jobs[c.job] = some j)
    (hstores : storesNothing access = false) (hfree : ∀ q ∈ s.protection.queues, q.line ≠ line)
    (hfull : ∀ n : Fin 8, s.protection.table[n] ≠ none) :
    ∃ t, Arrived s tag line access t ∧ t.port.upstream = s.port.upstream ∧
      t.protection.queues = s.protection.queues ++ [{ line, queue := [] }] ∧
      t.ledger = { s.ledger with
        jobs := countedFor s c.job j
        claims := s.protection.waitList ++ [arrivedRequest s tag line place (.merge c) access] } := by
  have hx := handleRequest_claim (r := arrivedRequest s tag line place (.merge c) access) (tag := tag) (c := c) rfl hj hstores
  rw [claimMerge_of_full (r := arrivedRequest s tag line place (.merge c) access) (s := claimReceived tag s c.job j)
    hfree hfull] at hx
  obtain ⟨t, harrived, hledger, -, hprotection, hupstream, -⟩ := arrived_of hacc (classify_eq hplace htreat) hx
  exact ⟨t, harrived, hupstream, congrArg Protection.queues hprotection, hledger⟩

end Claim

end Sys2Proof.Machine
end

section

/-! PROOFS. The law of every request that reaches memory. -/

namespace Sys2Proof.Machine

variable {s t x : State} {tag : Fin 64} {line : Nat} {access : Access} {r : Req} {reg : Region} {i : Fin 32}

/-! ### Requests that are answered at their arrival (R3) -/

/-- A response of a tag goes out when no earlier request of the tag is outstanding. -/
theorem releaseResponses_last {id : Nat} {a : Answer} : ∀ (l : List Outstanding) (blocked : List (Fin 64)),
    (∀ o ∈ l, o.tag ≠ tag) → tag ∉ blocked →
      ({ id, tag, answer := a } : Response) ∈ (releaseResponses (l ++ [{ id, tag, answer := some a }]) blocked).2
  | [], blocked, _, hb => by
    unfold releaseResponses
    dsimp only
    rw [List.nil_append]
    dsimp only
    rw [if_neg hb]
    exact List.mem_cons_self
  | o :: l, blocked, hl, hb => by
    obtain ⟨ho, hrest⟩ := List.forall_mem_cons.mp hl
    rw [List.cons_append]
    unfold releaseResponses
    cases o.answer with
    | none => exact releaseResponses_last l _ hrest (by simp [hb, Ne.symm ho])
    | some b =>
      have hin := releaseResponses_last (id := id) (a := a) l blocked hrest hb
      dsimp only
      split
      · exact hin
      · exact List.mem_cons_of_mem _ hin

theorem answer_fresh (a : Answer) (h : ∀ o ∈ s.channel.outstanding, o.tag ≠ tag) :
    ({ id := s.channel.nextId, tag, answer := a } : Response) ∈
      ((received tag s).answer s.channel.nextId a).channel.returned := by
  unfold State.answer received
  refine List.mem_append_right _ ?_
  dsimp only
  rw [List.map_append, List.map_cons, if_pos rfl]
  refine releaseResponses_last _ _ (fun o ho => ?_) List.not_mem_nil
  obtain ⟨o', ho', rfl⟩ := List.mem_map.mp ho
  split
  · exact h o' ho'
  · exact h o' ho'

/-- A request is answered at its arrival, and the tables change by what its arrival counts. -/
theorem answered_at_arrival {y : State} (a : Answer) (hacc : s.accepting = true)
    (htag : ∀ o ∈ s.channel.outstanding, o.tag ≠ tag) (hclass : classify { tag, line, access } s = r)
    (hx : handleRequest r (received tag s) = y.answer s.channel.nextId a)
    (hy : y.channel = (received tag s).channel ∧ y.orders = s.orders ∧ y.port = s.port ∧ y.protection = s.protection ∧
      y.cartridges = s.cartridges) :
    ∃ t, exec (.lineRequest tag line access) s = .next t ∧ t.ledger = y.ledger ∧ t.port.upstream = s.port.upstream ∧
      t.protection.queues = s.protection.queues ∧ t.orders.queue = s.orders.queue ∧
      { id := s.channel.nextId, tag, answer := a } ∈ t.channel.returned := by
  obtain ⟨hchannel, horders, hport, hprotection, hcart⟩ := hy
  have hans : (y.answer s.channel.nextId a).channel = ((received tag s).answer s.channel.nextId a).channel := by
    unfold State.answer
    rw [hchannel]
  obtain ⟨t, ht, hends, hledger⟩ := arrival_ends hacc hclass hx
    ((congrArg OrderTaker.resetWait horders).trans (noWait_of_accepting hacc)) hcart
  refine ⟨t, ht, hledger, ?_, ?_, ?_, ?_⟩
  · exact hends.port.upstream.trans (congrArg Port.upstream hport)
  · rw [hends.port.protection]
    exact congrArg Protection.queues hprotection
  · have hqueue : y.orders.queue = s.orders.queue := congrArg OrderTaker.queue horders
    rw [hends.orders]
    exact hqueue
  · rw [hends.channel, hans]
    exact answer_fresh a htag

/-- A write with no enable on is answered OKAY where it would have reached memory (R3). -/
theorem nothing_stored {data : Line} {place : Place} {treatment : Treatment} (hacc : s.accepting = true)
    (htag : ∀ o ∈ s.channel.outstanding, o.tag ≠ tag) (hplace : s.placeOf line = place)
    (htreat : s.treatmentOf s.classifier.sources[tag] place line (.write 0 data) = treatment)
    (hreaches : treatment.reaches = true) :
    ∃ t, exec (.lineRequest tag line (.write 0 data)) s = .next t ∧ t.ledger = s.ledger ∧
      t.port.upstream = s.port.upstream ∧ t.protection.queues = s.protection.queues ∧
      t.orders.queue = s.orders.queue ∧
      { id := s.channel.nextId, tag, answer := { status := .okay, data := none } } ∈ t.channel.returned := by
  refine answered_at_arrival (y := received tag s) _ hacc htag (classify_eq hplace htreat) ?_ ⟨rfl, rfl, rfl, rfl, rfl⟩
  have hstores : storesNothing (arrivedAccess treatment (.write 0 data)) = true := by
    cases treatment <;> rfl
  rw [handleRequest_of_reaches hreaches]
  exact if_pos hstores

theorem controlTreatment_reaches {n : Nat} {mask : ByteMask} {data : Line} (hlow : 1 ≤ n) (hhigh : n < 64) :
    (controlTreatment .general n (.write mask data)).reaches = true := by
  change (if n = 0 then Treatment.refuse else if n = 1 then Treatment.headerWrite else if n ≤ 63 then
    (if mask = fullMask ∧ byteAt data 0 ≠ 0 then Treatment.orderTake else Treatment.pass) else Treatment.refuse).reaches = true
  rw [if_neg (by omega), if_pos (show n ≤ 63 by omega)]
  split
  · rfl
  · split
    · rfl
    · rfl

/-- A write that no region's state, kind or binding turns away reaches memory. -/
theorem regionTreatment_reaches {cls : SourceClass} {mask : ByteMask} {data : Line} (hin : s.LineIn line i reg)
    (hturns : ¬reg.turnsAway cls (.write mask data)) (hjobs : ∀ k, reg.job = some k → s.jobs[k] ≠ none) :
    (s.treatmentOf cls (.region i reg.uid) line (.write mask data)).reaches = true := by
  obtain ⟨hnoOrphan, hnoLive⟩ := not_or.mp hturns
  rw [treatmentOf_region hin]
  cases hstate : reg.state with
  | orphan => exact absurd ⟨hstate, fun ⟨_, hread⟩ => nomatch hread⟩ hnoOrphan
  | live =>
    cases hjob : reg.job with
    | none =>
      rw [regionTreatment_unbound hstate hjob, unboundTreatment_pass (access := .write mask data) fun ⟨_, _, hread⟩ => nomatch hread]
      rfl
    | some k =>
      cases hj : s.jobs[k] with
      | none => exact absurd hj (hjobs k hjob)
      | some j =>
        have hkeeps : ¬((cls = .intake ∧ reg.kind ≠ .priv) ∨ cls = .readout) := fun h =>
          hnoLive ⟨hstate, by rw [hjob]; exact nofun, h.imp_right fun hreadout => ⟨hreadout, Or.inr nofun⟩⟩
        rw [regionTreatment_bound hstate hjob hj]
        have hkey : ∀ c, (encipherOrMerge c mask).reaches = true := fun c => by
          unfold encipherOrMerge
          split
          · rfl
          · rfl
        cases cls with
        | general => rfl
        | readout => exact absurd (Or.inr rfl) hkeeps
        | pipe => exact hkey _
        | intake =>
          have hpriv : reg.kind = .priv := not_not.mp fun h => hkeeps (Or.inl ⟨rfl, h⟩)
          rw [hpriv]
          exact hkey _

end Sys2Proof.Machine
end

section

/-! PROOFS. The law of every request that reaches memory (R3, R5, R13, R14, R41, R48, R51, R52). -/

namespace Sys2Proof.Machine

variable {s : State} {tag : Fin 64} {line : Nat} {access : Access} {reg : Region} {i : Fin 32}

/-- A request in a region that goes on unchanged, and counts for no job. -/
theorem region_goesOn {treatment : Treatment} (hacc : s.accepting = true) (hin : s.LineIn line i reg)
    (htreat : regionTreatment s s.classifier.sources[tag] reg line access = treatment)
    (hkind : treatment = .pass ∨ treatment = .rawRead ∨ treatment = .rawWrite ∨ ∃ m, treatment = .meter m)
    (hstores : storesNothing access = false) :
    GoesOn s tag line access s.ledger (arrivedRequest s tag line (.region i reg.uid) treatment access) := by
  have hplace := placeOf_region hin
  have htreat' := (treatmentOf_region (cls := s.classifier.sources[tag]) (access := access) hin).trans htreat
  rcases hkind with rfl | rfl | rfl | ⟨m, rfl⟩
  · exact goesOn_pass hacc hplace htreat' rfl hstores
  · exact goesOn_uncounted hacc hplace htreat' rfl rfl rfl hstores
  · exact goesOn_uncounted hacc hplace htreat' rfl rfl rfl hstores
  · exact goesOn_uncounted hacc hplace htreat' rfl rfl rfl hstores

/-- A request in a region that uses its job's key, and counts for the job. -/
theorem region_counted {treatment : Treatment} {k : Fin 16} {j : Job} (hacc : s.accepting = true)
    (hin : s.LineIn line i reg) (htreat : regionTreatment s s.classifier.sources[tag] reg line access = treatment)
    (hforwards : treatment.forwards = true)
    (hcounted : (arrivedRequest s tag line (.region i reg.uid) treatment (arrivedAccess treatment access)).countedJob = some k)
    (hj : s.jobs[k] = some j) (hstores : storesNothing (arrivedAccess treatment access) = false) :
    GoesOn s tag line access { s.ledger with jobs := countedFor s k j }
      (arrivedRequest s tag line (.region i reg.uid) treatment (arrivedAccess treatment access)) :=
  goesOn_counted hacc (placeOf_region hin)
    ((treatmentOf_region (cls := s.classifier.sources[tag]) (access := access) hin).trans htreat) hforwards hcounted hj hstores

theorem waitsBehindOrder_false {n : Nat} {treatment : Treatment}
    (h : access = .read ∨ ∀ q ∈ s.channel.heldOrders, q.line ≠ line) :
    s.waitsBehindOrder (arrivedRequest s tag line (.control n) treatment access) = false := by
  rcases h with rfl | h
  · rfl
  · cases access with
    | read => rfl
    | write mask data => exact List.any_eq_false.mpr fun q hq => by rw [decide_eq_true_iff]; exact h q hq

theorem waitsBehindOrder_true {r : Req} {n : Nat} {mask : ByteMask} {data : Line} (hplace : r.place = .control n)
    (haccess : r.access = .write mask data) (h : ∃ q ∈ s.channel.heldOrders, q.line = r.line) :
    s.waitsBehindOrder r = true := by
  obtain ⟨q, hq, hline⟩ := h
  unfold State.waitsBehindOrder
  rw [hplace, haccess]
  exact List.any_eq_true.mpr ⟨q, hq, decide_eq_true hline⟩

/-- A write that is no order waits behind an order-take write to its line (R51, R166). -/
theorem pass_waits {n : Nat} {mask : ByteMask} {data : Line} (hacc : s.accepting = true)
    (hplace : s.placeOf line = .control n)
    (htreat : s.treatmentOf s.classifier.sources[tag] (.control n) line (.write mask data) = .pass)
    (hstores : storesNothing (.write mask data) = false) (hheld : ∃ q ∈ s.channel.heldOrders, q.line = line) :
    ∃ t, Arrived s tag line (.write mask data) t ∧ t.ledger = s.ledger ∧ t.port.upstream = s.port.upstream ∧
      t.protection.queues = s.protection.queues ∧
      t.channel.heldOrders = s.channel.heldOrders ++ [arrivedRequest s tag line (.control n) .pass (.write mask data)] := by
  have hx : handleRequest (arrivedRequest s tag line (.control n) .pass (.write mask data)) (received tag s) =
      holdWrite (arrivedRequest s tag line (.control n) .pass (.write mask data)) (received tag s) := by
    rw [handleRequest_of_stores rfl hstores]
    exact if_pos (waitsBehindOrder_true (s := received tag s)
      (r := arrivedRequest s tag line (.control n) .pass (.write mask data)) rfl rfl hheld)
  obtain ⟨t, harrived, hledger, hheld, hprotection, hupstream, -⟩ := arrived_of hacc (classify_eq hplace htreat) hx
  exact ⟨t, harrived, hledger, hupstream, congrArg Protection.queues hprotection, hheld⟩

theorem boundReadout_of_side {c : Cipher} {p : Plane} {d : Nat} {m : Side} (hm : s.meteringSide = some m)
    (hjob : m.jobSlot = c.job) (hplane : hasPlane m.planes p = true) :
    boundReadout s c p d = .decipherAndMeter c { plane := p, depth := d, side := some m.uid } := by
  unfold boundReadout
  rw [hm]
  exact if_pos ⟨hjob, hplane⟩

theorem unboundReadout_of_side {p : Plane} {d : Nat} {m : Side} (hm : s.meteringSide = some m)
    (hplane : hasPlane m.planes p = true) :
    unboundReadout s p d = .meter { plane := p, depth := d, side := some m.uid } := by
  unfold unboundReadout
  rw [hm]
  exact if_pos hplane

theorem unboundReadout_of_none {p : Plane} {d : Nat} (hm : s.meteringSide = none) (hstrict : s.sides.strict = false) :
    unboundReadout s p d = .meter { plane := p, depth := d, side := none } := by
  unfold unboundReadout
  rw [hm]
  exact if_neg (by rw [hstrict]; decide)

/-- What goes on in a LIVE region bound to the job `j` of slot `k` (R41). -/
theorem boundRegion_goesOn {k : Fin 16} {j : Job} (hacc : s.accepting = true) (hin : s.LineIn line i reg)
    (hlive : reg.state = .live) (hjob : reg.job = some k) (hj : s.jobs[k] = some j) (hstores : storesNothing access = false) :
    let cls := s.classifier.sources[tag]
    let request := arrivedRequest s tag line (.region i reg.uid)
    let c : Cipher := { job := k, key := j.key, offset := line - reg.base }
    let counted : Ledger := { s.ledger with jobs := countedFor s k j }
    let usesKey := cls = .pipe ∨ (cls = .intake ∧ reg.kind = .priv)
    (cls = .general → access ≠ .read → GoesOn s tag line access s.ledger (request .rawWrite access)) ∧
    (cls = .general → access = .read → j.release = .sealed →
      GoesOn s tag line access s.ledger (request .rawRead access)) ∧
    (cls = .general → access = .read → j.release = .released →
      GoesOn s tag line access counted (request (.decipherRead c) access)) ∧
    (usesKey → access = .read → GoesOn s tag line access counted (request (.decipherRead c) access)) ∧
    (∀ p d n m, cls = .readout → reg.kind = .band p d n → access = .read → s.meteringSide = some m →
      m.jobSlot = k → hasPlane m.planes p = true → GoesOn s tag line access counted
        (request (.decipherAndMeter c { plane := p, depth := d, side := some m.uid }) access)) ∧
    ∀ mask data, usesKey → access = .write mask data →
      (mask = BitVec.allOnes 64 → GoesOn s tag line access counted
        (request (.encipherWrite c) (.write mask (encipher j.key (line - reg.base) data)))) ∧
      (mask ≠ BitVec.allOnes 64 →
        ((∃ q ∈ s.protection.queues, q.line = line) → GoesOn s tag line access counted (request (.merge c) access)) ∧
        ((∀ q ∈ s.protection.queues, q.line ≠ line) →
          (∀ n : Fin 8, s.protection.table[n] = none → (∀ b : Fin 8, b < n → s.protection.table[b] ≠ none) →
            j.lines < 4294967295 →
            ∃ t phase more, Arrived s tag line access t ∧ t.port.upstream = s.port.upstream ∧
              t.protection.queues = s.protection.queues ++ [{ line, queue := [] }] ∧
              t.ledger = { s.ledger with
                merges := put s.protection.table n (some { req := request (.merge c) access, phase, merged := none })
                jobs := put s.jobs k (some { j with merges := j.merges + 1 }) } ∧
              ((∀ q ∈ s.port.upstream, q.line ≠ line) →
                phase = .reading ∧ t.port.own = s.port.own ++ .mergeRead n :: more) ∧
              ((∃ q ∈ s.port.upstream, q.line = line) → phase = .ordering)) ∧
          ((∀ n : Fin 8, s.protection.table[n] ≠ none) →
            ∃ t, Arrived s tag line access t ∧ t.port.upstream = s.port.upstream ∧
              t.protection.queues = s.protection.queues ++ [{ line, queue := [] }] ∧
              t.ledger = { counted with claims := s.protection.waitList ++ [request (.merge c) access] }))) := by
  intro cls request c counted usesKey
  have hbound := regionTreatment_bound (s := s) (line := line) (access := access) (cls := cls) hlive hjob hj
  refine ⟨fun hgeneral hwrite => ?_, fun hgeneral hread hsealed => ?_, fun hgeneral hread hreleased => ?_,
    fun hkey hread => ?_, fun p d n m hcls hkind hread hm hslot hplane => ?_, fun mask data hkey hwrite => ?_⟩
  · refine region_goesOn hacc hin (hbound.trans ?_) (Or.inr (Or.inr (Or.inl rfl))) hstores
    cases access with
    | read => exact absurd rfl hwrite
    | write mask data => rw [hgeneral]; rfl
  · refine region_goesOn hacc hin (hbound.trans ?_) (Or.inr (Or.inl rfl)) hstores
    rw [hgeneral, hread, hsealed]
    rfl
  · subst hread
    refine region_counted (treatment := .decipherRead c) hacc hin (hbound.trans ?_) rfl rfl hj rfl
    rw [hgeneral, hreleased]
    rfl
  · subst hread
    exact region_counted (treatment := .decipherRead c) hacc hin (hbound.trans (boundTreatment_usesKey hkey).1) rfl rfl hj rfl
  · subst hread
    refine region_counted (treatment := .decipherAndMeter c { plane := p, depth := d, side := some m.uid }) hacc hin
      (hbound.trans ?_) rfl rfl hj rfl
    rw [hcls, hkind]
    exact boundReadout_of_side hm hslot hplane
  · subst hwrite
    have htreat := hbound.trans ((boundTreatment_usesKey hkey).2 mask data)
    refine ⟨fun hfull => ?_, fun hpartial => ?_⟩
    · refine region_counted (treatment := .encipherWrite c) hacc hin (htreat.trans (if_pos hfull)) rfl rfl hj hstores
    · have hplace := placeOf_region hin
      have hmerge := (treatmentOf_region (cls := s.classifier.sources[tag]) (access := .write mask data) hin).trans
        (htreat.trans (if_neg hpartial))
      exact ⟨fun hclaim => claim_queued (c := c) hacc hplace hmerge hj hstores hclaim, fun hfree =>
        ⟨fun n hn hlow hlines => claim_given (c := c) hacc hplace hmerge hj hstores hfree hn hlow hlines,
          fun hfull => claim_waits (c := c) hacc hplace hmerge hj hstores hfree hfull⟩⟩

/-- Settles O15. -/
theorem plainRequestGoesToThePort : Obligations.PlainRequestGoesToThePort := by
  refine ⟨fun tag line access s hacc hmask => ?_, fun tag line data s hacc htag hmem => ?_⟩
  · have hstores : storesNothing access = false := storesNothing_of_ne hmask
    intro cls base request arrived goesOn
    refine ⟨fun hmem hcontrol hnone => ?_, fun hmem hlow hhigh hgeneral => ⟨fun hkind => ?_, fun hno hheld => ?_⟩,
      fun i r hin => ⟨fun horphan hgeneral hread => ?_, fun hlive hjob hkind => ?_, fun p d n hlive hjob hcls hkind hread =>
        ⟨fun m hm hplane => ?_, fun hm hstrict => ?_⟩, fun k j hlive hjob hj => ?_⟩⟩
    · exact goesOn_pass hacc (placeOf_plain hmem hcontrol hnone) rfl rfl hstores
    · have hplace := placeOf_control hmem hlow hhigh
      have htreat : s.treatmentOf s.classifier.sources[tag] (.control (line - s.classifier.controlBase)) line access = .pass := by
        change controlTreatment cls _ _ = _
        rw [hgeneral]
        rcases hkind with hread | ⟨⟨hl, hh, hw⟩, -⟩
        · rw [hread]
          rfl
        · exact controlTreatment_noOrder (Nat.le_sub_of_add_le (by omega)) (by omega) hw
      exact goesOn_pass hacc hplace htreat (waitsBehindOrder_false (hkind.imp_right And.right)) hstores
    · obtain ⟨hl, hh, hw⟩ := hno
      have hplace := placeOf_control hmem hlow hhigh
      have htreat : s.treatmentOf s.classifier.sources[tag] (.control (line - s.classifier.controlBase)) line access = .pass := by
        change controlTreatment cls _ _ = _
        rw [hgeneral]
        exact controlTreatment_noOrder (Nat.le_sub_of_add_le (by omega)) (by omega) hw
      obtain ⟨mask, data, rfl, -⟩ := hw
      exact pass_waits hacc hplace htreat hstores hheld
    · refine region_goesOn hacc hin ?_ (Or.inr (Or.inl rfl)) hstores
      rw [regionTreatment_orphan horphan, show s.classifier.sources[tag] = .general from hgeneral, hread]
      rfl
    · refine region_goesOn hacc hin ?_ (Or.inl rfl) hstores
      rw [regionTreatment_unbound hlive hjob]
      exact unboundTreatment_pass hkind
    · refine region_goesOn hacc hin ?_ (Or.inr (Or.inr (Or.inr ⟨_, rfl⟩))) hstores
      rw [regionTreatment_unbound hlive hjob, show s.classifier.sources[tag] = .readout from hcls, hkind, hread]
      exact unboundReadout_of_side hm hplane
    · refine region_goesOn hacc hin ?_ (Or.inr (Or.inr (Or.inr ⟨_, rfl⟩))) hstores
      rw [regionTreatment_unbound hlive hjob, show s.classifier.sources[tag] = .readout from hcls, hkind, hread]
      exact unboundReadout_of_none hm hstrict
    · exact boundRegion_goesOn hacc hin hlive hjob hj hstores
  · intro cls base nothingStored
    refine ⟨fun hcontrol hnone => nothing_stored hacc htag (placeOf_plain hmem hcontrol hnone) rfl rfl,
      fun hlow hhigh hgeneral => ?_, fun i r hin hturns hjobs =>
        nothing_stored hacc htag (placeOf_region hin) rfl (regionTreatment_reaches hin hturns hjobs)⟩
    refine nothing_stored hacc htag (placeOf_control hmem (by omega) (by omega)) rfl ?_
    change (controlTreatment cls _ _).reaches = true
    rw [hgeneral]
    exact controlTreatment_reaches (Nat.le_sub_of_add_le (by omega)) (by omega)

end Sys2Proof.Machine
end

section

/-! PROOFS. Requests that are turned away or blanked, and writes to the order window and the ring header (R6, R14 to R16,
R41, R103, R104, R165, R166, R181). -/

namespace Sys2Proof.Machine

variable {s : State} {tag : Fin 64} {line : Nat} {access : Access} {reg : Region} {i : Fin 32}

/-! ### What an arrival counts -/

theorem countBlanked_eq (s : State) : countBlanked s = { s with
    accounts := { s.accounts with meters := { s.accounts.meters with
      blanked := min 4294967295 (s.accounts.meters.blanked + 1) } }
    writer := { s.writer with notices :=
      s.writer.notices ||| (if s.accounts.meters.blanked < 4294967295 then 0#32 else 8#32) } } := by
  unfold countBlanked meterUp
  dsimp only
  rw [addSat_eq, raiseIf_eq]
  by_cases h : s.accounts.meters.blanked < 4294967295
  · rw [if_pos h, decide_eq_false (show ¬max32 < s.accounts.meters.blanked + 1 from Nat.not_lt.mpr h)]
    rfl
  · rw [if_neg h, decide_eq_true (show max32 < s.accounts.meters.blanked + 1 from Nat.lt_succ_of_le (Nat.le_of_not_lt h))]
    rfl

theorem countUnattributed_eq (p : Plane) (s : State) : countUnattributed p s = { s with
    accounts := { s.accounts with meters := { s.accounts.meters with
      unattributed := put s.accounts.meters.unattributed p (min 4294967295 (s.accounts.meters.unattributed[p] + 1)) } }
    writer := { s.writer with notices :=
      s.writer.notices ||| (if s.accounts.meters.unattributed[p] < 4294967295 then 0#32 else 8#32) } } := by
  unfold countUnattributed meterUp
  dsimp only
  rw [addSat_eq, raiseIf_eq]
  by_cases h : s.accounts.meters.unattributed[p] < 4294967295
  · rw [if_pos h, decide_eq_false (show ¬max32 < s.accounts.meters.unattributed[p] + 1 from Nat.not_lt.mpr h)]
    rfl
  · rw [if_neg h, decide_eq_true (show max32 < s.accounts.meters.unattributed[p] + 1 from
      Nat.lt_succ_of_le (Nat.le_of_not_lt h))]
    rfl

theorem countSideBlanked_eq {m : Side} (hm : s.meteringSide = some m) : countSideBlanked s = { s with
    sides := { s.sides with records := s.sides.records.map fun x =>
      if x.uid = m.uid then { x with blanked := min 4294967295 (m.blanked + 1) } else x }
    writer := { s.writer with notices := s.writer.notices ||| (if m.blanked + 1 < 4294967295 then 0#32 else 8#32) } } := by
  unfold countSideBlanked
  rw [hm]
  dsimp only
  rw [raiseIf_eq]
  by_cases h : m.blanked + 1 < 4294967295
  · rw [if_pos h, decide_eq_false (show ¬min max32 (m.blanked + 1) = max32 by simp only [max32]; omega)]
    rfl
  · rw [if_neg h, decide_eq_true (show min max32 (m.blanked + 1) = max32 by simp only [max32]; omega)]
    rfl

theorem countRefusal_region (h : s.classifier.regions[i] = some reg) (uid : Nat) :
    countRefusal (.region i uid) s = { s with
      classifier := { s.classifier with
        regions := put s.classifier.regions i (some { reg with refusals := min 65535 (reg.refusals + 1) }) }
      writer := { s.writer with notices := s.writer.notices ||| (if reg.refusals < 65535 then 0#32 else 8#32) } } := by
  unfold countRefusal
  dsimp only
  rw [h]
  dsimp only
  unfold State.onRegion
  rw [addSat_eq, raiseIf_eq, h]
  by_cases hlt : reg.refusals < 65535
  · rw [if_pos hlt, decide_eq_false (Nat.not_lt.mpr hlt)]
    rfl
  · rw [if_neg hlt, decide_eq_true (Nat.lt_succ_of_le (Nat.le_of_not_lt hlt))]
    rfl

/-! ### Requests that are turned away (section 1.8) -/

/-- The answer to a request that is turned away. -/
def deniedAnswer : Access → Answer
  | .read => { status := .withheld, data := some 0 }
  | .write _ _ => { status := .refused, data := none }

/-- The request is answered at its arrival, and nothing but the ledger changes. -/
def AnsweredAtOnce (s : State) (tag : Fin 64) (line : Nat) (access : Access) (l : Ledger) (answer : Answer) : Prop :=
  ∃ t, exec (.lineRequest tag line access) s = .next t ∧ t.ledger = l ∧ t.port.upstream = s.port.upstream ∧
    t.orders.queue = s.orders.queue ∧ { id := s.channel.nextId, tag, answer } ∈ t.channel.returned

theorem answeredAtOnce {y : State} {r : Req} {l : Ledger} (a : Answer) (hacc : s.accepting = true)
    (htag : ∀ o ∈ s.channel.outstanding, o.tag ≠ tag) (hclass : classify { tag, line, access } s = r)
    (hx : handleRequest r (received tag s) = y.answer s.channel.nextId a)
    (hy : y.channel = (received tag s).channel ∧ y.orders = s.orders ∧ y.port = s.port ∧ y.protection = s.protection ∧
      y.cartridges = s.cartridges) (hl : y.ledger = l) : AnsweredAtOnce s tag line access l a := by
  obtain ⟨t, ht, hledger, hupstream, -, hqueue, hanswer⟩ := answered_at_arrival a hacc htag hclass hx hy
  exact ⟨t, ht, hledger.trans hl, hupstream, hqueue, hanswer⟩

/-- A request that is turned away raises ACCESS, counts for its region, and is answered. -/
theorem handleRequest_denied (s : State) {r : Req} (h : r.treatment = deny r.access) :
    handleRequest r s = ((countRefusal r.place s).raise .access).answer r.id (deniedAnswer r.access) := by
  unfold handleRequest
  cases haccess : r.access with
  | read =>
    rw [haccess] at h
    rw [show r.treatment = .withhold from h]
    rfl
  | write mask data =>
    rw [haccess] at h
    rw [show r.treatment = .refuse from h]
    rfl

theorem arrivedAccess_deny (access : Access) : arrivedAccess (deny access) access = access := by
  cases access <;> rfl

theorem denied_outside {place : Place} (hacc : s.accepting = true) (htag : ∀ o ∈ s.channel.outstanding, o.tag ≠ tag)
    (hplace : s.placeOf line = place)
    (htreat : s.treatmentOf s.classifier.sources[tag] place line access = deny access)
    (hcount : ∀ y, countRefusal place y = y) :
    AnsweredAtOnce s tag line access { s.ledger with notices := s.writer.notices ||| 1#32 } (deniedAnswer access) := by
  have hclass := classify_eq hplace htreat
  rw [arrivedAccess_deny] at hclass
  refine answeredAtOnce (y := (received tag s).raise .access) _ hacc htag hclass ?_ ⟨rfl, rfl, rfl, rfl, rfl⟩ rfl
  rw [handleRequest_denied (received tag s) (r := arrivedRequest s tag line place (deny access) access) rfl]
  exact congrArg (fun y : State => (y.raise .access).answer s.channel.nextId (deniedAnswer access)) (hcount (received tag s))

theorem denied_inRegion (hacc : s.accepting = true) (htag : ∀ o ∈ s.channel.outstanding, o.tag ≠ tag)
    (hin : s.LineIn line i reg) (htreat : regionTreatment s s.classifier.sources[tag] reg line access = deny access) :
    AnsweredAtOnce s tag line access { s.ledger with
      classifier := { s.classifier with
        regions := put s.classifier.regions i (some { reg with refusals := min 65535 (reg.refusals + 1) }) }
      notices := s.writer.notices ||| (if reg.refusals < 65535 then 1#32 else 9#32) } (deniedAnswer access) := by
  have hclass := classify_eq (placeOf_region hin)
    ((treatmentOf_region (cls := s.classifier.sources[tag]) (access := access) hin).trans htreat)
  rw [arrivedAccess_deny] at hclass
  have hx := handleRequest_denied (received tag s)
    (r := arrivedRequest s tag line (.region i reg.uid) (deny access) access) rfl
  rw [show countRefusal (arrivedRequest s tag line (.region i reg.uid) (deny access) access).place (received tag s) = _ from
    countRefusal_region (s := received tag s) hin.record reg.uid] at hx
  refine answeredAtOnce _ hacc htag hclass hx ⟨rfl, rfl, rfl, rfl, rfl⟩ ?_
  have hnotices : s.writer.notices ||| (if reg.refusals < 65535 then 0#32 else 8#32) ||| 1#32 =
      s.writer.notices ||| (if reg.refusals < 65535 then 1#32 else 9#32) := by
    rw [BitVec.or_assoc]
    split
    · rfl
    · rfl
  rw [← hnotices]
  rfl

/-- A region's state, kind or binding turns a request away (R14, R41). -/
theorem regionTreatment_denied {cls : SourceClass} (h : reg.turnsAway cls access) :
    regionTreatment s cls reg line access = deny access := by
  have horphan : ¬(cls = .general ∧ access = .read) → orphanTreatment cls access = deny access := by
    intro hnot
    cases cls with
    | general =>
      cases access with
      | read => exact absurd ⟨rfl, rfl⟩ hnot
      | write mask data => rfl
    | intake | pipe | readout => rfl
  rcases h with ⟨hstate, hnot⟩ | ⟨hlive, hjob, hcls⟩
  · rw [regionTreatment_orphan hstate]
    exact horphan hnot
  · obtain ⟨k, hk⟩ := Option.ne_none_iff_exists'.mp hjob
    cases hj : s.jobs[k] with
    | none =>
      unfold regionTreatment
      rw [hlive, hk]
      dsimp only
      rw [hj]
      refine horphan fun ⟨hgeneral, _⟩ => ?_
      rw [hgeneral] at hcls
      exact hcls.elim (fun h => nomatch h.1) (fun h => nomatch h.1)
    | some j =>
      rw [regionTreatment_bound hlive hk hj]
      rcases hcls with ⟨rfl, hkind⟩ | ⟨rfl, hkind⟩
      · cases hb : reg.kind with
        | priv => exact absurd hb hkind
        | band p d n => rfl
      · cases hb : reg.kind with
        | priv => rfl
        | band p d n =>
          cases access with
          | read => exact hkind.elim (fun h => nomatch hb.symm.trans h) (fun h => absurd rfl h)
          | write mask data => rfl

/-! ### Blanked reads (R103, R104) -/

theorem blanked_inRegion {c : BlankCount} {y : State} {l : Ledger} (hacc : s.accepting = true)
    (htag : ∀ o ∈ s.channel.outstanding, o.tag ≠ tag) (hin : s.LineIn line i reg)
    (htreat : regionTreatment s s.classifier.sources[tag] reg line .read = .blank c)
    (hcount : countBlank c (received tag s) = y)
    (hy : y.channel = (received tag s).channel ∧ y.orders = s.orders ∧ y.port = s.port ∧ y.protection = s.protection ∧
      y.cartridges = s.cartridges) (hl : y.ledger = l) :
    AnsweredAtOnce s tag line .read l { status := .okay, data := some 0 } := by
  have hclass := classify_eq (placeOf_region hin)
    ((treatmentOf_region (cls := s.classifier.sources[tag]) (access := .read) hin).trans htreat)
  refine answeredAtOnce (y := y) _ hacc htag hclass ?_ hy hl
  rw [← hcount]
  rfl

/-- The treatment of a READOUT read of a band while a side is METERING that does not take it (R103, R104). -/
theorem readout_ofOtherSide {p : Plane} {d n : Nat} {m : Side} (hlive : reg.state = .live) (hkind : reg.kind = .band p d n)
    (hm : s.meteringSide = some m)
    (hother : hasPlane m.planes p = false ∨ ∃ k, reg.job = some k ∧ k ≠ m.jobSlot ∧ s.jobs[k] ≠ none)
    (hjobs : ∀ k, reg.job = some k → s.jobs[k] ≠ none) :
    regionTreatment s .readout reg line .read = .blank .sideAndDevice := by
  cases hjob : reg.job with
  | none =>
    have hplane : hasPlane m.planes p = false := hother.resolve_right fun ⟨k, hk, _⟩ => nomatch hjob.symm.trans hk
    rw [regionTreatment_unbound hlive hjob, hkind]
    change unboundReadout s p d = _
    unfold unboundReadout
    rw [hm]
    exact if_neg (by rw [hplane]; decide)
  | some k =>
    obtain ⟨j, hj⟩ := Option.ne_none_iff_exists'.mp (hjobs k hjob)
    rw [regionTreatment_bound hlive hjob hj, hkind]
    change boundReadout s _ p d = _
    unfold boundReadout
    rw [hm]
    refine if_neg fun ⟨hslot, hplane⟩ => ?_
    rcases hother with hnot | ⟨k', hk', hne, -⟩
    · rw [hnot] at hplane; cases hplane
    · obtain rfl : k = k' := Option.some.inj (hjob.symm.trans hk')
      exact hne hslot.symm

end Sys2Proof.Machine
end

section

/-! PROOFS. The laws of requests that are turned away, of header writes, and of orders as they arrive. -/

namespace Sys2Proof.Machine

variable {s : State} {tag : Fin 64} {line : Nat} {access : Access} {reg : Region} {i : Fin 32}

/-- Settles O16. -/
theorem requestBeyondMemoryIsTurnedAway : Obligations.RequestBeyondMemoryIsTurnedAway := by
  intro tag line access s hacc htag cls base meters answers denied zeros
  have hdenied : denied = deniedAnswer access := by cases access <;> rfl
  rw [hdenied]
  refine ⟨fun hmem => ?_, fun hmem hlow hhigh hwho => ?_, fun i r hin => ⟨fun hturns => ?_,
    fun p d n hlive hcls hkind hread => ⟨fun m hm hother hjobs => ?_, fun k hm hk hj => ?_, fun hm hjob hstrict => ?_⟩⟩⟩
  · exact denied_outside hacc htag (placeOf_beyond hmem) rfl fun _ => rfl
  · refine denied_outside hacc htag (placeOf_control hmem hlow hhigh) ?_ fun _ => rfl
    change controlTreatment cls _ _ = _
    unfold controlTreatment
    by_cases hgeneral : cls = .general
    · obtain ⟨hwrite, hline⟩ := hwho.resolve_left fun h => h hgeneral
      rw [if_neg fun h => h hgeneral]
      cases access with
      | read => exact absurd rfl hwrite
      | write mask data =>
        dsimp only
        rcases hline with hfirst | hring
        · exact if_pos (by omega)
        · rw [if_neg (by omega), if_neg (by omega), if_neg (by omega)]
          rfl
    · exact if_pos hgeneral
  · exact denied_inRegion hacc htag hin (regionTreatment_denied hturns)
  · subst hread
    have htreat := readout_ofOtherSide (line := line) hlive hkind hm hother hjobs
    refine blanked_inRegion (c := .sideAndDevice) hacc htag hin
      ((congrArg (fun c => regionTreatment s c r line .read) hcls).trans htreat)
      ((congrArg countBlanked (countSideBlanked_eq (s := received tag s) hm)).trans (countBlanked_eq _))
      ⟨rfl, rfl, rfl, rfl, rfl⟩ ?_
    have hnotices : s.writer.notices ||| (if m.blanked + 1 < 4294967295 then 0#32 else 8#32) |||
        (if s.accounts.meters.blanked < 4294967295 then 0#32 else 8#32) =
        s.writer.notices ||| (if m.blanked + 1 < 4294967295 ∧ s.accounts.meters.blanked < 4294967295 then 0#32 else 8#32) := by
      rw [BitVec.or_assoc]
      by_cases hside : m.blanked + 1 < 4294967295
      · by_cases hdevice : s.accounts.meters.blanked < 4294967295
        · rw [if_pos hside, if_pos hdevice, if_pos ⟨hside, hdevice⟩]
          rfl
        · rw [if_pos hside, if_neg hdevice, if_neg fun h => hdevice h.2]
          rfl
      · by_cases hdevice : s.accounts.meters.blanked < 4294967295
        · rw [if_neg hside, if_pos hdevice, if_neg fun h => hside h.1]
          rfl
        · rw [if_neg hside, if_neg hdevice, if_neg fun h => hside h.1]
          rfl
    rw [← hnotices]
    rfl
  · subst hread
    obtain ⟨j, hj⟩ := Option.ne_none_iff_exists'.mp hj
    refine blanked_inRegion (c := .device) hacc htag hin ?_ (countBlanked_eq _) ⟨rfl, rfl, rfl, rfl, rfl⟩ rfl
    rw [regionTreatment_bound hlive hk hj, show s.classifier.sources[tag] = .readout from hcls, hkind]
    change boundReadout s _ p d = _
    unfold boundReadout
    rw [hm]
  · subst hread
    refine blanked_inRegion (c := .strict p) hacc htag hin ?_
      (congrArg (fun y : State => y.raise .unattributed) (countUnattributed_eq p _)) ⟨rfl, rfl, rfl, rfl, rfl⟩ ?_
    · rw [regionTreatment_unbound hlive hjob, show s.classifier.sources[tag] = .readout from hcls, hkind]
      change unboundReadout s p d = _
      unfold unboundReadout
      rw [hm]
      exact if_pos hstrict
    · have hnotices : s.writer.notices ||| (if s.accounts.meters.unattributed[p] < 4294967295 then 0#32 else 8#32) ||| 4#32 =
          s.writer.notices ||| (if s.accounts.meters.unattributed[p] < 4294967295 then 4#32 else 12#32) := by
        rw [BitVec.or_assoc]
        split
        · rfl
        · rfl
      rw [← hnotices]
      rfl

/-! ### Header writes (R181) -/

/-- The read index after a header write (R181). -/
def movedIndex (w : ReturnWriter) (mask : ByteMask) (v : Nat) : Nat :=
  if mask.getLsbD 2 = false ∨ mask.getLsbD 3 = false ∨ 448 ≤ v then w.readIndex
  else if (v + 448 - w.readIndex) % 448 ≤ (w.writeIndex + 448 - w.readIndex) % 448 then v else w.writeIndex

theorem offerIndex_eq (mask : ByteMask) (data : Line) (s : State) : offerIndex (.write mask data) s =
    { s with writer := { s.writer with readIndex := movedIndex s.writer mask (data.extractLsb' 16 16).toNat } } := by
  unfold offerIndex offeredIndex
  dsimp only
  by_cases hmask : mask.getLsbD 2 = true ∧ mask.getLsbD 3 = true
  · obtain ⟨h2, h3⟩ := hmask
    have hmoved : acceptedIndex s.writer (fieldAt data 2 2) = movedIndex s.writer mask (data.extractLsb' 16 16).toNat := by
      unfold movedIndex
      rw [h2, h3]
      refine if_congr ?_ rfl rfl
      exact ⟨fun h => Or.inr (Or.inr h), fun h => (h.resolve_left Bool.true_eq_false.mp).resolve_left Bool.true_eq_false.mp⟩
    rw [if_pos ⟨h2, h3⟩]
    dsimp only
    rw [hmoved]
  · have hkept : movedIndex s.writer mask (data.extractLsb' 16 16).toNat = s.writer.readIndex := by
      refine if_pos ?_
      rcases not_and_or.mp hmask with h2 | h3
      · exact Or.inl (Bool.not_eq_true _ ▸ h2)
      · exact Or.inr (Or.inl (Bool.not_eq_true _ ▸ h3))
    rw [if_neg hmask, hkept]

/-- Settles O18. -/
theorem headerWriteMovesTheReadIndex : Obligations.HeaderWriteMovesTheReadIndex := by
  intro tag mask data s hacc hgeneral hmask hmem hfree v old new
  have hplace : s.placeOf (s.classifier.controlBase + 1) = .control 1 := by
    rw [placeOf_control (by omega) (by omega) (by omega), Nat.add_sub_cancel_left]
  have htreat : s.treatmentOf s.classifier.sources[tag] (.control 1) (s.classifier.controlBase + 1) (.write mask data) =
      .headerWrite := by
    rw [hgeneral]
    rfl
  have hx : handleRequest (arrivedRequest s tag (s.classifier.controlBase + 1) (.control 1) .headerWrite (.write mask data))
      (received tag s) = issueUpstream [arrivedRequest s tag (s.classifier.controlBase + 1) (.control 1) .headerWrite
        (.write mask data)] { received tag s with writer := { s.writer with readIndex := new } } := by
    have hstores : storesNothing (.write mask data) = false := decide_eq_false hmask
    rw [handleRequest_of_stores (r := arrivedRequest s tag (s.classifier.controlBase + 1) (.control 1) .headerWrite
      (.write mask data)) rfl hstores]
    refine (congrArg (towardPort _) (offerIndex_eq mask data (received tag s))).trans ?_
    exact towardPort_of_free (r := arrivedRequest s tag (s.classifier.controlBase + 1) (.control 1) .headerWrite
      (.write mask data)) (s := { received tag s with writer := { s.writer with readIndex := new } }) hfree
  obtain ⟨t, ht, hends, hledger⟩ := arrival_ends hacc (classify_eq hplace htreat) hx (noWait_of_accepting hacc) rfl
  refine ⟨t, ht, hledger, hends.port.upstream.trans ?_⟩
  unfold arrivedRequest
  rw [hgeneral]
  rfl

end Sys2Proof.Machine
end

section

/-! PROOFS. Order-take writes: taken, held, and taken later (R51, R165, R166). -/

namespace Sys2Proof.Machine

variable {s x : State} {tag : Fin 64} {line : Nat} {r : Req}

/-! ### A write that is taken, or waits -/

theorem takeOrder_of_write {mask : ByteMask} {data : Line} {n : Nat} (haccess : r.access = .write mask data)
    (hplace : r.place = .control n) : takeOrder r s =
      towardPort r { s with orders := { s.orders with queue := s.orders.queue ++ [entryOfLine n data] } } := by
  unfold takeOrder
  rw [haccess, hplace]

/-- What the event of an order-take write leaves, by what its arrival does. -/
theorem orderTake_ends {w : Nat} {data : Line} (hacc : s.accepting = true)
    (hclass : classify { tag, line := s.classifier.controlBase + w, access := .write fullMask data } s = r)
    (hx : handleRequest r (received tag s) = x) (horders : x.orders.resetWait = none) (hcart : x.cartridges = s.cartridges) :
    ∃ t, exec (.orderTake tag w data) s = .next t ∧ EventEnds x t ∧ t.ledger = x.ledger :=
  arrival_ends hacc hclass hx horders hcart

/-- A GENERAL full-line write to the order window whose kind byte is not 0 arrives as an order-take write (R165). -/
theorem orderWrite_arrives {w : Nat} {data : Line}
    (hgeneral : s.classifier.sources[tag] = .general) (hlow : 2 ≤ w) (hhigh : w ≤ 63) (hkind : data.extractLsb' 0 8 ≠ 0#8)
    (hmem : s.classifier.controlBase + 512 ≤ s.classifier.memLines) :
    classify { tag, line := s.classifier.controlBase + w, access := .write fullMask data } s =
      { id := s.channel.nextId, tag, cls := .general, line := s.classifier.controlBase + w,
        access := .write (BitVec.allOnes 64) data, place := .control w, treatment := .orderTake } := by
  have hplace : s.placeOf (s.classifier.controlBase + w) = .control w := by
    rw [placeOf_control (by omega) (by omega) (by omega), Nat.add_sub_cancel_left]
  have htreat : s.treatmentOf s.classifier.sources[tag] (.control w) (s.classifier.controlBase + w) (.write fullMask data) =
      .orderTake := by
    rw [hgeneral]
    change (if w = 0 then Treatment.refuse else if w = 1 then Treatment.headerWrite else if w ≤ 63 then
      (if fullMask = fullMask ∧ byteAt data 0 ≠ 0 then Treatment.orderTake else Treatment.pass) else Treatment.refuse) = _
    rw [if_neg (by omega), if_neg (by omega), if_pos hhigh]
    exact if_pos ⟨rfl, hkind⟩
  rw [classify_eq hplace htreat]
  unfold arrivedRequest
  rw [hgeneral]
  rfl

/-! ### The oldest waiting write (R51, R166) -/

/-- Requests of a line without a claim join the upstream stream. -/
theorem foldl_towardPort_of_free (l : List Req) (hline : ∀ q ∈ l, q.line = line) (s : State)
    (hfree : ∀ q ∈ s.protection.queues, q.line ≠ line) :
    l.foldl (fun s q => towardPort q s) s = issueUpstream l s := by
  induction l generalizing s with
  | nil =>
    unfold issueUpstream
    rw [List.append_nil]
    rfl
  | cons q l ih =>
    obtain ⟨hq, hrest⟩ := List.forall_mem_cons.mp hline
    rw [List.foldl_cons, towardPort_of_free (by rw [hq]; exact hfree), ih hrest (issueUpstream [q] s) hfree]
    unfold issueUpstream
    dsimp only
    rw [List.append_assoc, List.singleton_append]

/-- The writes that go with an order are those to its line up to the next order of the line (R51). -/
theorem writesBehind_eq (line : Nat) (later : List Req) :
    let next := later.findIdx fun q => decide (q.line = line) && decide (q.treatment = .orderTake)
    writesBehind line later = ((later.take next).filter fun q => decide (q.line = line),
      ((later.take next).filter fun q => decide (q.line ≠ line)) ++ later.drop next) := by
  induction later with
  | nil => rfl
  | cons q later ih =>
    intro next
    unfold writesBehind
    dsimp only at ih ⊢
    rw [ih]
    by_cases hline : q.line = line
    · by_cases horder : q.treatment = .orderTake
      · have hnext : next = 0 := by simp [next, List.findIdx_cons, hline, horder]
        rw [if_pos hline, if_pos horder, hnext]
        rfl
      · have hnext : next = later.findIdx (fun q => decide (q.line = line) && decide (q.treatment = .orderTake)) + 1 := by
          simp [next, List.findIdx_cons, horder]
        rw [if_pos hline, if_neg horder, hnext]
        simp [hline]
    · have hnext : next = later.findIdx (fun q => decide (q.line = line) && decide (q.treatment = .orderTake)) + 1 := by
        simp [next, List.findIdx_cons, hline]
      rw [if_neg hline, hnext]
      simp [hline]

/-- The oldest waiting write is taken, and the writes behind it follow it (R51, R166). -/
theorem takeHeld_of_room {later : List Req} {mask : ByteMask} {data : Line} {w : Nat}
    (hheld : s.channel.heldOrders = r :: later) (hroom : s.orders.queue.length < 8) (haccess : r.access = .write mask data)
    (hplace : r.place = .control w) (hfree : ∀ q ∈ s.protection.queues, q.line ≠ r.line) :
    takeHeld s = { s with
      channel := { s.channel with heldOrders := (writesBehind r.line later).2 }
      orders := { s.orders with queue := s.orders.queue ++ [entryOfLine w data] }
      port := { s.port with upstream := s.port.upstream ++ [r] ++ (writesBehind r.line later).1 } } := by
  have hlines : ∀ q ∈ (writesBehind r.line later).1, q.line = r.line := fun q hq => by
    rw [writesBehind_eq] at hq
    exact of_decide_eq_true (List.mem_filter.mp hq).2
  unfold takeHeld
  rw [hheld]
  dsimp only
  rw [if_pos (show s.queueHasRoom = true from decide_eq_true hroom), takeOrder_of_write haccess hplace,
    towardPort_of_free (by exact hfree)]
  refine (foldl_towardPort_of_free _ hlines _ ?_).trans rfl
  exact hfree

/-- Settles O17. The statement's last conjunct, on the writes that still wait, stands inside the predicate of its filter;
it holds (`hstays`), so that the predicate is the test of the line alone. -/
theorem orderWriteIsTakenOrHeld : Obligations.OrderWriteIsTakenOrHeld := by
  refine ⟨fun tag w data s hacc hgeneral hlow hhigh hkind hmem hfree => ?_,
    fun s e rest r later mask data w h hunknown hroom hheld haccess hplace hfree => ?_⟩
  · intro r
    have hclass : classify { tag, line := s.classifier.controlBase + w, access := .write fullMask data } s = r :=
      orderWrite_arrives hgeneral hlow hhigh hkind hmem
    have hadmit : handleRequest r (received tag s) = if s.queueHasRoom then takeOrder r (received tag s)
        else holdWrite r (received tag s) := handleRequest_of_stores (r := r) (s := received tag s) rfl rfl
    by_cases hqueue : s.orders.queue.length < 8
    · have hx : handleRequest r (received tag s) = issueUpstream [r] { received tag s with
          orders := { s.orders with queue := s.orders.queue ++ [entryOfLine w data] } } := by
        rw [hadmit, if_pos (show s.queueHasRoom = true from decide_eq_true hqueue), takeOrder_of_write (r := r) rfl rfl]
        exact towardPort_of_free (r := r) (s := { received tag s with
          orders := { s.orders with queue := s.orders.queue ++ [entryOfLine w data] } }) hfree
      obtain ⟨t, ht, hends, hledger⟩ := orderTake_ends hacc hclass hx (noWait_of_accepting hacc) rfl
      exact ⟨t, ht, hledger, (congrArg ChannelFront.returned hends.channel).trans rfl, fun _ =>
        ⟨congrArg OrderTaker.queue hends.orders, hends.port.upstream, (congrArg ChannelFront.heldOrders hends.channel).trans rfl⟩,
        fun hfull => absurd hqueue (Nat.not_lt.mpr hfull)⟩
    · have hx : handleRequest r (received tag s) = holdWrite r (received tag s) := by
        rw [hadmit, if_neg (by rw [show s.queueHasRoom = false from decide_eq_false hqueue]; decide)]
      obtain ⟨t, ht, hends, hledger⟩ := orderTake_ends hacc hclass hx (noWait_of_accepting hacc) rfl
      exact ⟨t, ht, hledger, (congrArg ChannelFront.returned hends.channel).trans rfl, fun hlt => absurd hlt hqueue, fun _ =>
        ⟨(congrArg OrderTaker.queue hends.orders).trans rfl, hends.port.upstream,
          congrArg ChannelFront.heldOrders hends.channel⟩⟩
  · intro next ahead
    obtain ⟨t, ht, hanswered, hledger⟩ := refusedBy_of_accepts (c := .badOrder) h rfl (decide_eq_true hunknown) rfl
    have hpop := takeHeld_of_room (s := { s with orders := { s.orders with queue := rest } }) hheld hroom haccess hplace hfree
    rw [writesBehind_eq] at hpop
    have hrun := exec_of_body (c := .badOrder) (body := refuseKind) h rfl (decide_eq_true hunknown) rfl
    obtain rfl : concludeEvent s (giveAnswer e (.refused .badOrder [], popOrder rest s)) = t :=
      Host.Outcome.next.inj (hrun.symm.trans ht)
    have hends := concludeEvent_ends s (x := giveAnswer e (.refused .badOrder [], popOrder rest s))
      ((popOrder_resetWait rest s).trans h.noWait)
    generalize concludeEvent s (giveAnswer e (.refused .badOrder [], popOrder rest s)) = t at ht hanswered hledger hends ⊢
    unfold popOrder at hends
    rw [hpop] at hends
    have hstays : t.channel.heldOrders = (ahead.filter fun q => decide (q.line ≠ r.line)) ++ later.drop next :=
      congrArg ChannelFront.heldOrders hends.channel
    refine ⟨t, ht, hanswered, hledger, congrArg OrderTaker.queue hends.orders, ?_⟩
    refine (hends.port.upstream.trans (List.append_assoc _ _ _)).trans ?_
    refine congrArg (fun l => s.port.upstream ++ r :: l) (List.filter_congr fun q _ => ?_)
    exact decide_eq_decide.mpr ⟨fun hline => ⟨decide_eq_true hline, hstays⟩, fun h => of_decide_eq_true h.1⟩

end Sys2Proof.Machine
end

section

/-! PROOFS. The cartridge line at the end of an event (R147). -/

namespace Sys2Proof.Machine

variable {s t x : State} {p q : Plane}

/-! ### The arbiter reads the slots and the line alone -/

theorem testEstimates_writer (b s : State) : ∃ w, testEstimates b s = { s with writer := w } := by
  have hraise : ∀ (s : State) (c : Bool) (n : Notice), ∃ w, s.raiseIf c n = { s with writer := w } := fun s c n =>
    ⟨_, raiseIf_eq s c n⟩
  have hone : ∀ (p : Plane) (s : State), ∃ w, testEstimate b p s = { s with writer := w } := fun p s => by
    rw [testEstimate_eq]
    obtain ⟨v, hv⟩ := hraise s (lowTest b s p) (.tonerLow p)
    obtain ⟨w, hw⟩ := hraise (s.raiseIf (lowTest b s p) (.tonerLow p)) (outTest b s p) (.tonerOut p)
    exact ⟨w, by rw [hw, hv]⟩
  have hall : ∀ (l : List Plane) (s : State), ∃ w, l.foldl (fun s p => testEstimate b p s) s = { s with writer := w } := by
    intro l
    induction l with
    | nil => exact fun s => ⟨_, rfl⟩
    | cons p l ih =>
      intro s
      obtain ⟨v, hv⟩ := hone p s
      obtain ⟨w, hw⟩ := ih (testEstimate b p s)
      exact ⟨w, by rw [List.foldl_cons, hw, hv]⟩
  exact hall allPlanes s

theorem arbitrate_writer (s : State) (w : ReturnWriter) :
    arbitrate { s with writer := w } = { arbitrate s with writer := w } := by
  unfold arbitrate
  by_cases hline : s.cartridges.line.isSome = true
  · rw [if_pos hline, if_pos hline]
  · rw [if_neg hline, if_neg hline]
    have hprobe : chooseProbe { s with writer := w } = chooseProbe s := rfl
    have hdebit : chooseDebit { s with writer := w } = chooseDebit s := rfl
    rw [hprobe, hdebit]
    cases chooseProbe s with
    | some p => rfl
    | none => cases chooseDebit s <;> rfl

/-- Outside a reset wait, an event ends with the arbitration of the line. -/
theorem concludeEvent_arbitrates (b : State) (h : x.orders.resetWait = none) :
    (concludeEvent b x).cartridges = (arbitrate x).cartridges := by
  obtain ⟨w, hw⟩ := testEstimates_writer b x
  rw [concludeEvent_cartridges b h, hw, arbitrate_writer]

theorem issueHeader_draws (b s : State) : (issueHeader b s).draws = s.draws := by
  unfold issueHeader
  split
  · rfl
  · split <;> rfl

theorem issueSummary_draws (b s : State) : (issueSummary b s).draws = s.draws := by
  unfold issueSummary
  split
  · rfl
  · split <;> rfl

theorem issueReturn_draws (s : State) : (issueReturn s).draws = s.draws := by
  unfold issueReturn
  split
  · rfl
  · split <;> rfl

theorem concludeEvent_draws (b : State) (h : x.orders.resetWait = none) :
    (concludeEvent b x).draws = (arbitrate x).draws := by
  obtain ⟨w, hw⟩ := testEstimates_writer b x
  have hlast (s : State) : (evaluateAttention s).draws = s.draws := rfl
  have hmove (s : State) : (moveCompleted s).draws = s.draws := rfl
  unfold concludeEvent
  rw [noteDrain_of_no_wait x h, tryReset_of_no_wait x h, hlast, issueSummary_draws, issueHeader_draws, issueReturn_draws,
    hmove, hw, arbitrate_writer]

/-! ### What the arbiter changes -/

/-- A slot is idle and has work due (R147). -/
def CartridgeSlot.isDue (c : CartridgeSlot) : Prop := c.exchange = .idle ∧ (c.probePending = true ∨ c.debitPending = true)

theorem chooseProbe_some (h : chooseProbe s = some p) : s.cartridges.slots[p].isDue := by
  have htest := List.find?_some h
  rw [Bool.and_eq_true] at htest
  exact ⟨of_decide_eq_true htest.1, Or.inl htest.2⟩

theorem chooseDebit_some (h : chooseDebit s = some p) : s.cartridges.slots[p].isDue := by
  have htest := List.find?_some h
  rw [Bool.and_eq_true] at htest
  exact ⟨of_decide_eq_true htest.1, Or.inr htest.2⟩

/-- What the arbitration of a state leaves: the slot that is given the line moves on, and nothing else. -/
structure Arbitrates (k m : Cartridges) : Prop where
  pins : m.pins = k.pins
  absent : m.absent = k.absent
  totals : m.totals = k.totals
  policy : m.policy = k.policy
  rest : ∀ q : Plane, ¬k.slots[q].isDue → m.slots[q] = k.slots[q]
  standing : ∀ q : Plane, m.slots[q].standing = k.slots[q].standing
  probe : ∀ q : Plane, k.slots[q].probePending = true → m.slots[q].probePending = true ∨ m.slots[q].exchange = .probe
  line : ∀ y ∈ m.line, k.line = some y ∨ k.slots[y.slot].isDue
  taken : ∀ y, k.line = some y → m = k

theorem Arbitrates.refl (k : Cartridges) : Arbitrates k k :=
  ⟨rfl, rfl, rfl, rfl, fun _ _ => rfl, fun _ => rfl, fun _ h => Or.inl h, fun _ h => Or.inl h, fun _ _ => rfl⟩

/-- The line is given to a slot with work due, whose record keeps what stands in it. -/
theorem arbitrates_given {k : Cartridges} {c : CartridgeSlot} {y : LineExchange} (hline : k.line = none) (hy : y.slot = p)
    (hdue : k.slots[p].isDue) (hstanding : c.standing = k.slots[p].standing)
    (hprobe : k.slots[p].probePending = true → c.probePending = true ∨ c.exchange = .probe) :
    Arbitrates k { k with slots := put k.slots p c, line := some y, position := p } where
  pins := rfl
  absent := rfl
  totals := rfl
  policy := rfl
  rest q hq := put_other _ _ _ _ fun hpq => hq (hpq ▸ hdue)
  standing q := by
    by_cases hq : p = q
    · subst hq
      exact (congrArg CartridgeSlot.standing (put_same k.slots p c)).trans hstanding
    · exact congrArg CartridgeSlot.standing (put_other k.slots p q c hq)
  probe q hpending := by
    by_cases hq : p = q
    · subst hq
      dsimp only
      rw [put_same]
      exact hprobe hpending
    · dsimp only
      rw [put_other _ _ _ _ hq]
      exact Or.inl hpending
  line z hz := by
    subst hy
    obtain rfl : y = z := Option.some.inj hz
    exact Or.inr hdue
  taken z hz := absurd (hline.symm.trans hz) nofun

theorem arbitrate_arbitrates (s : State) : Arbitrates s.cartridges (arbitrate s).cartridges := by
  unfold arbitrate
  by_cases hline : s.cartridges.line.isSome = true
  · rw [if_pos hline]
    exact .refl _
  · rw [if_neg hline]
    have hnone : s.cartridges.line = none := Option.not_isSome_iff_eq_none.mp hline
    cases hprobe : chooseProbe s with
    | some p => exact arbitrates_given hnone rfl (chooseProbe_some hprobe) rfl fun _ => Or.inr rfl
    | none =>
      cases hdebit : chooseDebit s with
      | none => exact .refl _
      | some p => exact arbitrates_given hnone rfl (chooseDebit_some hdebit) rfl fun h => Or.inl h

/-- The cartridges at the end of an event. -/
theorem concludeEvent_cartridgesEnd (b : State) (h : x.orders.resetWait = none) :
    Arbitrates x.cartridges (concludeEvent b x).cartridges := by
  rw [concludeEvent_arbitrates b h]
  exact arbitrate_arbitrates x

/-- The event of a command, by the state its effect leaves: the tables, the orders, and the cartridges. -/
theorem event_ends {c : Instr} (hrun : exec c s = .next (concludeEvent s x)) (h : x.orders.resetWait = none) :
    ∃ t, exec c s = .next t ∧ EventEnds x t ∧ Arbitrates x.cartridges t.cartridges :=
  ⟨_, hrun, concludeEvent_ends s h, concludeEvent_cartridgesEnd s h⟩

end Sys2Proof.Machine
end

section

/-! PROOFS. The end of a proof attempt (R145, R151, R160): the slot's record, the verdict's notice, and a parked probe. -/

namespace Sys2Proof.Machine

variable {s t x y : State} {p q : Plane} {o : ProofOutcome}

/-! ### Verdicts (R145) -/

theorem changeVerdict_cartridges (p : Plane) (v : Verdict) (s : State) : (changeVerdict p v s).cartridges =
    { s.cartridges with slots := put s.cartridges.slots p (s.cartridges.slots[p].judged v) } := by
  unfold changeVerdict CartridgeSlot.judged
  by_cases hv : s.cartridges.slots[p].verdict = v
  · subst hv
    rw [if_pos rfl, decide_eq_true rfl, Bool.true_or, Bool.and_true]
    exact (congrArg (fun l => { s.cartridges with slots := l }) (put_self s.cartridges.slots p)).symm
  · rw [if_neg hv, decide_eq_false hv, Bool.false_or]
    rfl

theorem changeVerdict_notice {v : Verdict} (h : s.cartridges.slots[p].verdict ≠ v) :
    (changeVerdict p v s).writer.notices.getLsbD (16 + p.val) = true := by
  unfold changeVerdict
  rw [if_neg h]
  change (s.writer.notices ||| (1#32 <<< (16 + p.val))).getLsbD (16 + p.val) = true
  have hp := p.isLt
  rw [BitVec.getLsbD_or, BitVec.getLsbD_shiftLeft]
  simp
  omega

theorem changeVerdict_orders (p : Plane) (v : Verdict) (s : State) : (changeVerdict p v s).orders = s.orders := by
  unfold changeVerdict
  split <;> rfl

/-! ### The record of a slot whose attempt ends (R145, R149, R151) -/

/-- The history, the flags and the timer of a slot whose attempt ends. -/
def CartridgeSlot.attempted (o : ProofOutcome) (c : CartridgeSlot) : CartridgeSlot :=
  { c with
    history := (decide (o = .pass) :: c.history).take 8
    everFailed := c.everFailed || decide (o = .fail) || decide (o = .rejected)
    everSilent := c.everSilent || decide (o = .silent)
    answerTimer := none }

/-- The slot waits for its next attempt (R151). -/
def CartridgeSlot.retrying (c : CartridgeSlot) : CartridgeSlot := { c with exchange := .retryWait, retryTimer := some 100 }

/-- The slot's proof has ended. -/
def CartridgeSlot.rested (c : CartridgeSlot) : CartridgeSlot := { c with exchange := .idle, attempts := 0 }

/-- The verdict that ends a proof with an outcome. -/
def verdictOf : ProofOutcome → Verdict
  | .pass => .genuine
  | .rejected => .rejected
  | .fail | .silent => .unproven

theorem freeLine_onSlot_cartridges (s : State) (p : Plane) (f : CartridgeSlot → CartridgeSlot) :
    (freeLine (s.onSlot p f)).cartridges =
      { s.cartridges with line := none, slots := put s.cartridges.slots p (f s.cartridges.slots[p]) } := rfl

/-- A first or second attempt that ends FAIL or SILENT makes the slot DOUBTFUL and waits for the next one (R151). -/
theorem endAttempt_retries (ho : o = .fail ∨ o = .silent) (hn : s.cartridges.slots[p].attempts < 3) :
    ∃ y, endAttempt p o s = changeVerdict p .doubtful y ∧ y.orders = s.orders ∧ y.draws = s.draws ∧
      y.writer = s.writer ∧ y.cartridges = { s.cartridges with
        line := none
        slots := put s.cartridges.slots p (s.cartridges.slots[p].attempted o).retrying } := by
  have hstate : endAttempt p o s = changeVerdict p .doubtful
      ((freeLine (s.onSlot p (CartridgeSlot.attempted o))).onSlot p CartridgeSlot.retrying) := by
    rcases ho with rfl | rfl
    · exact if_pos hn
    · exact if_pos hn
  refine ⟨_, hstate, rfl, rfl, rfl, ?_⟩
  unfold State.onSlot freeLine
  dsimp only
  rw [put_same, put_put]

/-- Every other end of an attempt ends the proof, with its verdict, and answers a parked CARTRIDGE PROBE (R151, R160). -/
theorem endAttempt_ends (ho : o = .pass ∨ o = .rejected ∨ 3 ≤ s.cartridges.slots[p].attempts) :
    ∃ y, endAttempt p o s = completeProbe p o s.cartridges.slots[p].attempts
        (if o = .pass then thresholdTest p (changeVerdict p .genuine y) else changeVerdict p (verdictOf o) y) ∧
      y.orders = s.orders ∧ y.writer = s.writer ∧ y.cartridges = { s.cartridges with
        line := none
        slots := put s.cartridges.slots p (s.cartridges.slots[p].attempted o).rested } := by
  refine ⟨(freeLine (s.onSlot p (CartridgeSlot.attempted o))).onSlot p CartridgeSlot.rested, ?_, rfl, rfl, ?_⟩
  · cases o with
    | pass => rfl
    | rejected => rfl
    | fail | silent =>
      have hn : ¬s.cartridges.slots[p].attempts < 3 :=
        Nat.not_lt.mpr ((ho.resolve_left nofun).resolve_left nofun)
      exact if_neg hn
  · unfold State.onSlot freeLine
    dsimp only
    rw [put_same, put_put]

/-! ### A parked probe (R160) -/

theorem isCartridge_iff {o : ParkObject} : o.isCartridge p = true ↔ o = .cartridge p := by
  cases o with
  | cartridge q =>
    refine decide_eq_true_iff.trans ⟨fun h => by rw [h], fun h => ?_⟩
    cases h
    rfl
  | region | job | switch | snapshot => exact ⟨nofun, nofun⟩

theorem isCartridge_false {o : ParkObject} (h : o ≠ .cartridge p) : o.isCartridge p = false := by
  rw [← Bool.not_eq_true]
  exact fun hc => h (isCartridge_iff.mp hc)

/-- The answer to a parked CARTRIDGE PROBE at the end of a proof (R160). -/
theorem probeAnswered_of_completed {n : Nat} (hx : x = completeProbe p o n y) (hy : y.orders = s.orders)
    (hn : n = s.cartridges.slots[p].attempts) (ht : t.orders = x.orders.moved)
    (hserial : t.cartridges.slots[p].serial = y.cartridges.slots[p].serial)
    (hremaining : t.cartridges.slots[p].remaining = y.cartridges.slots[p].remaining)
    (howed : t.cartridges.slots[p].owed = y.cartridges.slots[p].owed) :
    ProbeAnswered s t p o.code y.cartridges.slots[p].verdict.code := by
  intro parked before after hparked hobject hfirst hcompleted hroom d optional
  have hdone : x.orders = { s.orders with
      parked := before ++ after
      completed := [parked.result none (probeVals p o n y.cartridges.slots[p])] } := by
    rw [hx]
    unfold completeProbe
    rw [completeParked_of_first none _ (hy ▸ hparked) (isCartridge_iff.mpr hobject)
      fun q hq => isCartridge_false (hfirst q hq)]
    rw [hy, hcompleted]
    rfl
  rw [hdone] at ht
  replace ht := ht.trans (OrderTaker.moved_of_one (r := parked.result none (probeVals p o n y.cartridges.slots[p])) rfl hroom)
  refine ⟨(congrArg OrderTaker.parked ht).trans rfl, (congrArg OrderTaker.holding ht).trans ?_⟩
  have hvals : probeVals p o n y.cartridges.slots[p] = [u8 p.val, u8 o.code, u8 y.cartridges.slots[p].verdict.code,
      u8 s.cartridges.slots[p].attempts] ++ optional 8 (d.serial.map BitVec.toNat) ++ optional 4 d.remaining ++
      [u32 d.owed] ++ optional 4 (d.remaining.map fun n => n - d.owed) := by
    change _ = [u8 p.val, u8 o.code, _, _] ++ optional 8 (t.cartridges.slots[p].serial.map BitVec.toNat) ++
      optional 4 t.cartridges.slots[p].remaining ++ [u32 t.cartridges.slots[p].owed] ++
      optional 4 (t.cartridges.slots[p].remaining.map fun n => n - t.cartridges.slots[p].owed)
    rw [hserial, hremaining, howed, ← hn]
    rfl
  rw [hvals]
  rfl

end Sys2Proof.Machine
end

section

/-! PROOFS. Seating, settling, and the line that is given in turn (R142, R143, R147, R151). -/

namespace Sys2Proof.Machine

variable {s t x y : State} {p q : Plane} {o : ProofOutcome}

theorem not_due_of_exchange {c : CartridgeSlot} (h : c.exchange ≠ .idle) : ¬c.isDue := fun hdue => h hdue.1

/-- What is left when a first or second attempt ends FAIL or SILENT. -/
theorem retries_state (ho : o = .fail ∨ o = .silent) (hn : s.cartridges.slots[p].attempts < 3) :
    (endAttempt p o s).cartridges = { s.cartridges with
      line := none
      slots := put s.cartridges.slots p ((s.cartridges.slots[p].attempted o).retrying.judged .doubtful) } ∧
    (endAttempt p o s).orders = s.orders ∧ (endAttempt p o s).draws = s.draws ∧
    (endAttempt p o s).fuses = s.fuses := by
  obtain ⟨y, hy, horders, hdraws, -, hcart⟩ := endAttempt_retries ho hn
  refine ⟨?_, ?_, ?_, endAttempt_fuses s p o⟩
  · rw [hy, changeVerdict_cartridges, hcart]
    dsimp only
    rw [put_same, put_put]
  · rw [hy, changeVerdict_orders, horders]
  · rw [hy, ← hdraws]
    unfold changeVerdict
    split <;> rfl

/-- The choice of the arbiter once the slot `p` waits for its retry: the first of the other slots in turn (R147). -/
theorem find_due_others {k : Cartridges} {due : CartridgeSlot → Bool} {c : CartridgeSlot} (hc : c.exchange ≠ .idle)
    (l : List Plane) :
    (l.find? fun q => decide ((put k.slots p c)[q].exchange = .idle) && due (put k.slots p c)[q]) =
      l.find? fun q => decide (q ≠ p) && decide (k.slots[q].exchange = .idle) && due k.slots[q] := by
  induction l with
  | nil => rfl
  | cons q l ih =>
    rw [List.find?_cons, List.find?_cons, ih]
    by_cases hq : q = p
    · subst hq
      rw [put_same, decide_eq_false hc, decide_eq_false (not_not_intro rfl)]
      rfl
    · rw [put_other _ _ _ _ (Ne.symm hq), decide_eq_true (show q ≠ p from hq), Bool.true_and]

theorem beginProof_line (q : Plane) (s : State) : (beginProof q s).cartridges.line = some
    { slot := q, address := 0x28 + q.val, message := .challenge (Config.randomBits s.draws), phase := .write } := rfl

theorem beginProof_slot (q : Plane) (s : State) : (beginProof q s).cartridges.slots[q] = { s.cartridges.slots[q] with
    exchange := .probe, probePending := false, attempts := s.cartridges.slots[q].attempts + 1 } := put_same _ _ _

theorem beginDebit_line (q : Plane) (s : State) : (beginDebit q s).cartridges.line = some
    { slot := q
      address := 0x28 + q.val
      message := .debit s.cartridges.slots[q].owed (Config.randomBits s.draws) (amountTag s.fuses.familySecret
        (s.cartridges.slots[q].serial.getD 0) s.cartridges.slots[q].owed (Config.randomBits s.draws))
      phase := .write } := rfl

theorem beginDebit_slot (q : Plane) (s : State) : (beginDebit q s).cartridges.slots[q] = { s.cartridges.slots[q] with
    exchange := .debit, debitPending := false } := put_same _ _ _

/-- The state in which a cartridge has been seated. -/
def seatedState (p : Plane) (s : State) : State := seatCartridge p (setPin p true s)

theorem seatedState_slot (p : Plane) (s : State) : (seatedState p s).cartridges.slots[p] =
    { s.cartridges.slots[p] with seated := true, exchange := .settling, settlingTimer := some 500 } := put_same _ _ _

theorem seatedState_other (s : State) (hq : q ≠ p) : (seatedState p s).cartridges.slots[q] = s.cartridges.slots[q] :=
  put_other _ _ _ _ (Ne.symm hq)

theorem seatedState_wait (p : Plane) (s : State) : (seatedState p s).orders.resetWait = s.orders.resetWait := rfl

theorem seatedState_policy (p : Plane) (s : State) : (seatedState p s).cartridges.policy = s.cartridges.policy := rfl

theorem seatedState_pins (p : Plane) (s : State) :
    (seatedState p s).cartridges.pins = put s.cartridges.pins p true := rfl

theorem seatedState_ledger (p : Plane) (s : State) : (seatedState p s).ledger = { s.ledger with
    pins := (seatedState p s).cartridges.pins, slots := (seatedState p s).ledger.slots
    notices := s.writer.notices ||| (1#32 <<< (20 + p.val)) } := rfl

/-- What is the same in a slot before and after it is seated. -/
theorem seatedState_same {α : Type} (f : CartridgeSlot → α) (p : Plane) (s : State)
    (hf : f { s.cartridges.slots[p] with seated := true, exchange := .settling, settlingTimer := some 500 } =
      f s.cartridges.slots[p]) (q : Plane) : f s.cartridges.slots[q] = f (seatedState p s).cartridges.slots[q] := by
  by_cases hq : q = p
  · subst hq
    rw [seatedState_slot, hf]
  · rw [seatedState_other s hq]

theorem presenceAssert_run (h : s.cartridges.slots[p].seated = false) :
    exec (.presenceAssert p) s = .next (concludeEvent s (seatedState p s)) := by
  change Host.Outcome.next (concludeEvent s
    (if s.cartridges.slots[p].seated then setPin p true s else seatCartridge p (setPin p true s))) = _
  rw [if_neg (by rw [h]; decide)]
  rfl

theorem presenceAssert_seats (hwait : s.orders.resetWait = none) (hempty : s.cartridges.slots[p].seated = false) :
    ∃ t, exec (.presenceAssert p) s = .next t ∧
      t.cartridges.slots[p] =
        { s.cartridges.slots[p] with seated := true, exchange := .settling, settlingTimer := some 500 } ∧
      t.cartridges.pins = put s.cartridges.pins p true ∧
      t.ledger = { s.ledger with
        pins := t.cartridges.pins, slots := t.ledger.slots
        notices := s.writer.notices ||| (1#32 <<< (20 + p.val)) } ∧
      ∀ q : Plane, q ≠ p → t.cartridges.slots[q].standing = s.cartridges.slots[q].standing := by
  have hw := (seatedState_wait p s).trans hwait
  have hquiet := concludeEvent_ledger_same s (seatedState p s) hw (seatedState_same CartridgeSlot.serial p s rfl)
    (seatedState_same CartridgeSlot.estimate p s rfl) (congrArg TonerPolicy.lowMark (seatedState_policy p s)).symm
  have harb := concludeEvent_cartridgesEnd s hw
  refine ⟨_, presenceAssert_run hempty, ?_, harb.pins, ?_, fun q hq => ?_⟩
  · refine (harb.rest p (not_due_of_exchange ?_)).trans (seatedState_slot p s)
    rw [seatedState_slot]
    exact nofun
  · rw [hquiet, harb.pins]
    exact seatedState_ledger p s
  · exact (harb.standing q).trans (congrArg CartridgeSlot.standing (seatedState_other s hq))

/-- Settles O28. -/
theorem seatedSlotsSettleAndAreProbed : Obligations.SeatedSlotsSettleAndAreProbed := by
  refine ⟨fun p s hwait hempty => ?_, fun p s x hwait hline => ⟨fun n htimer => ?_, fun n htimer => ?_⟩,
    fun s x nonce hwait hline hmessage hphase hattempts => ?_⟩
  · exact presenceAssert_seats hwait hempty
  · have hrun : exec (.settlingTimerExpiry p) s = .next (concludeEvent s (s.onSlot p fun c =>
        { c with exchange := .idle, attempts := 0, probePending := true, settlingTimer := none })) := by
      change eventIf _ _ s = _
      rw [htimer]
      rfl
    obtain ⟨t, ht, -, harb⟩ := event_ends hrun hwait
    exact ⟨t, ht, harb.taken x hline⟩
  · have hrun : exec (.retryTimerExpiry p) s = .next (concludeEvent s (s.onSlot p fun c =>
        { c with exchange := .idle, probePending := true, retryTimer := none })) := by
      change eventIf _ _ s = _
      rw [htimer]
      rfl
    obtain ⟨t, ht, -, harb⟩ := event_ends hrun hwait
    exact ⟨t, ht, harb.taken x hline⟩
  · intro last chosen fresh
    obtain ⟨hcart, horders, hdraws, hfuses⟩ := retries_state (s := s) (p := x.slot) (Or.inr rfl) hattempts
    have hrun : exec .answerWaitExpiry s = .next (concludeEvent s (endAttempt x.slot .silent s)) := by
      change onExchange _ _ s = _
      unfold onExchange
      rw [hline]
      dsimp only
      unfold eventIf endSilent
      rw [hphase, hmessage]
      rfl
    have hidle : ((s.cartridges.slots[x.slot].attempted .silent).retrying.judged .doubtful).exchange ≠ .idle := nofun
    generalize endAttempt x.slot .silent s = z at hcart horders hdraws hfuses hrun
    have hzwait : z.orders.resetWait = none := by rw [horders]; exact hwait
    have hprobe : chooseProbe z = chosen CartridgeSlot.probePending := by
      unfold chooseProbe arbiterOrder
      rw [hcart]
      exact find_due_others (due := CartridgeSlot.probePending) hidle _
    have hdebit : chooseDebit z = chosen CartridgeSlot.debitPending := by
      unfold chooseDebit arbiterOrder
      rw [hcart]
      exact find_due_others (due := CartridgeSlot.debitPending) hidle _
    have hfree : ¬z.cartridges.line.isSome = true := by rw [hcart]; exact Bool.false_ne_true
    have hslot : ∀ due q, chosen due = some q → z.cartridges.slots[q] = s.cartridges.slots[q] := fun due q hq => by
      have htest := List.find?_some hq
      rw [Bool.and_eq_true, Bool.and_eq_true] at htest
      rw [hcart]
      exact put_other _ _ _ _ (Ne.symm (of_decide_eq_true htest.1.1))
    refine ⟨_, hrun, ?_⟩
    rw [concludeEvent_arbitrates s hzwait, concludeEvent_draws s hzwait]
    unfold arbitrate
    rw [if_neg hfree, hprobe, hdebit]
    refine ⟨fun q hq => ?_, fun q hnone hq => ?_, fun hnone hnone' => ?_⟩
    · intro c
      rw [hq]
      refine ⟨?_, rfl, congrArg (· + 1) hdraws, ?_⟩
      · rw [beginProof_line, hdraws]
      · rw [beginProof_slot, hslot _ q hq]
    · intro c
      rw [hnone, hq]
      refine ⟨?_, rfl, congrArg (· + 1) hdraws, ?_⟩
      · rw [beginDebit_line, hdraws, hfuses, hslot _ q hq]
      · rw [beginDebit_slot, hslot _ q hq]
    · rw [hnone, hnone']
      refine ⟨?_, ?_, hdraws⟩
      · rw [hcart]
      · rw [hcart]

end Sys2Proof.Machine
end

section

/-! PROOFS. The phases of an exchange and its SILENT endings (R148, R151, R153). -/

namespace Sys2Proof.Machine

variable {s t x : State} {p q : Plane} {o : ProofOutcome} {k m : Cartridges} {e : LineExchange} {cmd : Instr}

/-! ### The record of a slot whose attempt has ended -/

theorem attempted_pass (c : CartridgeSlot) : c.attempted .pass =
    { c with history := (true :: c.history).take 8, answerTimer := none } := by
  simp [CartridgeSlot.attempted]

theorem attempted_fail (c : CartridgeSlot) : c.attempted .fail =
    { c with history := (false :: c.history).take 8, everFailed := true, answerTimer := none } := by
  simp [CartridgeSlot.attempted]

theorem attempted_rejected (c : CartridgeSlot) : c.attempted .rejected =
    { c with history := (false :: c.history).take 8, everFailed := true, answerTimer := none } := by
  simp [CartridgeSlot.attempted]

theorem attempted_silent (c : CartridgeSlot) : c.attempted .silent =
    { c with history := (false :: c.history).take 8, everSilent := true, answerTimer := none } := by
  simp [CartridgeSlot.attempted]

theorem judged_of_noDebit {c : CartridgeSlot} (v : Verdict) (h : c.debitPending = false) :
    c.judged v = { c with verdict := v } := by
  unfold CartridgeSlot.judged
  rw [h, Bool.false_and, ← h]

theorem not_due_of_none {c : CartridgeSlot} (hprobe : c.probePending = false) (hdebit : c.debitPending = false) :
    ¬c.isDue := fun ⟨_, hdue⟩ => by
  rw [hprobe, hdebit] at hdue
  exact hdue.elim nofun nofun

/-- The line goes to another slot than one without work due. -/
theorem Arbitrates.line_elsewhere (h : Arbitrates k m) (hnone : k.line = none) (hrest : ¬k.slots[p].isDue) :
    ∀ y ∈ m.line, y.slot ≠ p := by
  rintro y hy rfl
  exact (h.line y hy).elim (fun hline => nomatch hnone.symm.trans hline) hrest

/-! ### The phases (R148, R153) -/

/-- An event of the exchange on the line. -/
theorem onExchange_run {test : LineExchange → Bool} {body : LineExchange → State → State}
    (hc : exec cmd s = onExchange test body s) (hline : s.cartridges.line = some e) (htest : test e = true) :
    exec cmd s = .next (concludeEvent s (body e s)) := by
  rw [hc]
  unfold onExchange
  rw [hline]
  dsimp only
  unfold eventIf
  rw [htest]
  rfl

/-- An event that moves the exchange on changes nothing else of the cartridges. -/
theorem phase_ends {ph : ExchangePhase} {f : CartridgeSlot → CartridgeSlot} (hwait : s.orders.resetWait = none)
    (hline : s.cartridges.line = some e)
    (hrun : exec cmd s = .next (concludeEvent s (setPhase ph (s.onSlot e.slot f)))) :
    ∃ t, exec cmd s = .next t ∧ t.cartridges = { s.cartridges with
      line := some { e with phase := ph }
      slots := put s.cartridges.slots e.slot (f s.cartridges.slots[e.slot]) } := by
  have hphase : (setPhase ph (s.onSlot e.slot f)).cartridges = { s.cartridges with
      line := some { e with phase := ph }
      slots := put s.cartridges.slots e.slot (f s.cartridges.slots[e.slot]) } := by
    unfold setPhase State.onSlot
    dsimp only
    rw [hline]
    rfl
  obtain ⟨t, ht, -, harb⟩ := event_ends hrun hwait
  exact ⟨t, ht, (harb.taken _ (congrArg Cartridges.line hphase)).trans hphase⟩

/-- The command ends the exchange SILENT (R148, R153). -/
theorem endsSilent_run (hline : s.cartridges.line = some e) (h : endsSilent e cmd) :
    exec cmd s = .next (concludeEvent s (endSilent e s)) := by
  unfold endsSilent at h
  cases hmessage : e.message with
  | challenge nonce =>
    rw [hmessage] at h
    have htest : ∀ ph, e.phase = ph → isChallenge ph e = true := fun ph hph => by
      unfold isChallenge
      rw [hmessage]
      exact decide_eq_true hph
    rcases h with ⟨rfl, hph⟩ | ⟨rfl, hph⟩ | ⟨rfl, hph⟩
    · exact onExchange_run (body := fun x s => if false then startWait x.slot s else endSilent x s) rfl hline (htest _ hph)
    · exact onExchange_run (body := endSilent) rfl hline (decide_eq_true hph)
    · refine (onExchange_run rfl hline (htest _ hph)).trans ?_
      rw [hmessage]
  | debit amount nonce tag =>
    rw [hmessage] at h
    have htest : ∀ ph, e.phase = ph → isDebit ph e = true := fun ph hph => by
      unfold isDebit
      rw [hmessage]
      exact decide_eq_true hph
    rcases h with ⟨rfl, hph⟩ | ⟨rfl, hph⟩ | ⟨rfl, hph⟩
    · exact onExchange_run (body := fun x s => if false then startWait x.slot s else endSilent x s) rfl hline (htest _ hph)
    · exact onExchange_run (body := endSilent) rfl hline (decide_eq_true hph)
    · refine (onExchange_run rfl hline (htest _ hph)).trans ?_
      rw [hmessage]

/-! ### What is left when an attempt ends -/

/-- The answer to a parked order leaves the cartridges, the writer and the reset wait. -/
theorem completeParked_leaves (f : ParkObject → Bool) (r : Option Reason) (v : List Val) (y : State) :
    (y.completeParked f r v).cartridges = y.cartridges ∧ (y.completeParked f r v).writer = y.writer ∧
      (y.completeParked f r v).orders.resetWait = y.orders.resetWait := by
  unfold State.completeParked
  split
  · exact ⟨rfl, rfl, rfl⟩
  · exact ⟨rfl, rfl, rfl⟩

/-- The answer to a parked CARTRIDGE PROBE changes the order taker alone. -/
theorem completeParked_proverState {n : Nat} (y : State) :
    (completeProbe p o n y).cartridges = y.cartridges ∧ (completeProbe p o n y).writer = y.writer ∧
      (completeProbe p o n y).orders.resetWait = y.orders.resetWait := completeParked_leaves _ _ _ y

/-- What is left when an attempt for slot `p` ends in state `z`: the slot's record `c`, and the verdict's notice. -/
structure AttemptEnds (z t : State) (p : Plane) (c : CartridgeSlot) (v : Verdict) : Prop where
  slot : t.cartridges.slots[p] = c
  totals : t.cartridges.totals = z.cartridges.totals
  absent : t.cartridges.absent = z.cartridges.absent
  line : ∀ y ∈ t.cartridges.line, y.slot ≠ p
  notice : z.cartridges.slots[p].verdict ≠ v → t.writer.notices.getLsbD (16 + p.val) = true
  notices : ∀ i, z.writer.notices.getLsbD i = true → t.writer.notices.getLsbD i = true

theorem changeVerdict_grows (p : Plane) (v : Verdict) (s : State) : NoticesGrow s (changeVerdict p v s) := by
  unfold changeVerdict
  split
  · exact fun _ => id
  · exact raise_grow _ _

section Ends
variable {y z : State} {c : CartridgeSlot} {v : Verdict}

/-- The end of the event in which an attempt ended with a verdict, and left the slot without work due. -/
theorem attemptEnds_of_verdict (harb : Arbitrates x.cartridges t.cartridges) (hgrows : NoticesGrow x t)
    (hx : x.cartridges = (changeVerdict p v y).cartridges) (hxw : x.writer = (changeVerdict p v y).writer)
    (hwriter : y.writer = z.writer)
    (hcart : y.cartridges = { z.cartridges with line := none, slots := put z.cartridges.slots p c })
    (hverdict : c.verdict = z.cartridges.slots[p].verdict) (hrest : ¬(c.judged v).isDue) :
    AttemptEnds z t p (c.judged v) v := by
  rw [changeVerdict_cartridges, hcart] at hx
  dsimp only at hx
  rw [put_same, put_put] at hx
  have hslot : x.cartridges.slots[p] = c.judged v := by
    rw [hx]
    exact put_same _ _ _
  have hrest' : ¬x.cartridges.slots[p].isDue := by
    rw [hslot]
    exact hrest
  have hkept : ∀ i, (changeVerdict p v y).writer.notices.getLsbD i = true → t.writer.notices.getLsbD i = true :=
    fun i hi => hgrows i (by rw [hxw]; exact hi)
  refine ⟨(harb.rest p hrest').trans hslot, ?_, ?_, harb.line_elsewhere (by rw [hx]) hrest', fun hv => ?_, fun i hi => ?_⟩
  · rw [harb.totals, hx]
  · rw [harb.absent, hx]
  · refine hkept _ (changeVerdict_notice ?_)
    rw [hcart]
    dsimp only
    rw [put_same, hverdict]
    exact hv
  · exact hkept i (changeVerdict_grows p v y i (by rw [hwriter]; exact hi))

/-- A first or second attempt that ends FAIL or SILENT (R151). -/
theorem attempt_retries (hrun : exec cmd s = .next (concludeEvent s (endAttempt p o z))) (hwait : z.orders.resetWait = none)
    (ho : o = .fail ∨ o = .silent) (hn : z.cartridges.slots[p].attempts < 3) :
    ∃ t, exec cmd s = .next t ∧
      AttemptEnds z t p ((z.cartridges.slots[p].attempted o).retrying.judged .doubtful) .doubtful := by
  obtain ⟨y, hy, horders, -, hwriter, hcart⟩ := endAttempt_retries ho hn
  rw [hy] at hrun
  obtain ⟨t, ht, hends, harb⟩ := event_ends hrun (by rw [changeVerdict_orders, horders]; exact hwait)
  exact ⟨t, ht, attemptEnds_of_verdict harb hends.grows.2 rfl rfl hwriter hcart rfl (not_due_of_exchange nofun)⟩

theorem thresholdTest_below (h : y.cartridges.slots[p].owed < y.cartridges.policy.threshold) : thresholdTest p y = y :=
  if_neg fun ⟨_, _, _, _, hreached⟩ => absurd hreached (Nat.not_le.mpr h)

/-- An attempt that ends the proof (R151, R160). -/
theorem attempt_ends (hrun : exec cmd s = .next (concludeEvent s (endAttempt p o z))) (hwait : s.orders.resetWait = none)
    (hz : z.orders = s.orders) (ho : o = .pass ∨ o = .rejected ∨ 3 ≤ z.cartridges.slots[p].attempts)
    (hn : z.cartridges.slots[p].attempts = s.cartridges.slots[p].attempts)
    (hbelow : o = .pass → z.cartridges.slots[p].owed < z.cartridges.policy.threshold)
    (hprobe : z.cartridges.slots[p].probePending = false) (hdebit : z.cartridges.slots[p].debitPending = false) :
    ∃ t, exec cmd s = .next t ∧ ProbeAnswered s t p o.code (verdictOf o).code ∧
      AttemptEnds z t p ((z.cartridges.slots[p].attempted o).rested.judged (verdictOf o)) (verdictOf o) := by
  obtain ⟨y, hy, horders, hwriter, hcart⟩ := endAttempt_ends (s := z) (p := p) (o := o) ho
  have hjudged : (if o = .pass then thresholdTest p (changeVerdict p .genuine y) else changeVerdict p (verdictOf o) y) =
      changeVerdict p (verdictOf o) y := by
    by_cases hpass : o = .pass
    · subst hpass
      refine (if_pos rfl).trans (thresholdTest_below ?_)
      rw [changeVerdict_cartridges, hcart]
      dsimp only
      rw [put_same, put_same]
      exact hbelow rfl
    · exact if_neg hpass
  rw [hjudged] at hy
  have hverdict : ((changeVerdict p (verdictOf o) y).cartridges.slots[p]) =
      (z.cartridges.slots[p].attempted o).rested.judged (verdictOf o) := by
    rw [changeVerdict_slot, hcart]
    exact congrArg (CartridgeSlot.judged (verdictOf o)) (put_same _ _ _)
  have hrest : ¬((z.cartridges.slots[p].attempted o).rested.judged (verdictOf o)).isDue := by
    refine not_due_of_none hprobe ?_
    unfold CartridgeSlot.judged
    rw [show (z.cartridges.slots[p].attempted o).rested.debitPending = false from hdebit, Bool.false_and]
  have hcompleted := completeParked_proverState (p := p) (o := o) (n := z.cartridges.slots[p].attempts)
    (changeVerdict p (verdictOf o) y)
  rw [hy] at hrun
  obtain ⟨t, ht, hends, harb⟩ := event_ends hrun (by
    rw [hcompleted.2.2, changeVerdict_orders, horders, hz]
    exact hwait)
  have hattempt := attemptEnds_of_verdict (v := verdictOf o) harb hends.grows.2 hcompleted.1 hcompleted.2.1 hwriter hcart
    rfl hrest
  refine ⟨t, ht, ?_, hattempt⟩
  have hprobed := probeAnswered_of_completed (s := s) (t := t) rfl (by rw [changeVerdict_orders, horders, hz]) hn hends.orders
    (by rw [hattempt.slot, hverdict]) (by rw [hattempt.slot, hverdict]) (by rw [hattempt.slot, hverdict])
  rw [hverdict] at hprobed
  exact hprobed

end Ends

/-- Settles O30. -/
theorem exchangesRunThroughTheirPhases : Obligations.ExchangesRunThroughTheirPhases := by
  refine ⟨fun s x hwait hline => ⟨fun nonce hmessage hphase => ?_, fun amount nonce tag hmessage hphase => ?_,
    fun hphase => ?_⟩, fun s x nonce cmd => ?_⟩
  · refine phase_ends hwait hline (onExchange_run (body := fun x s => if true then startWait x.slot s else endSilent x s)
      rfl hline ?_)
    unfold isChallenge
    rw [hmessage]
    exact decide_eq_true hphase
  · refine phase_ends hwait hline (onExchange_run (body := fun x s => if true then startWait x.slot s else endSilent x s)
      rfl hline ?_)
    unfold isDebit
    rw [hmessage]
    exact decide_eq_true hphase
  · exact phase_ends hwait hline (onExchange_run (body := fun x s =>
      setPhase .read (s.onSlot x.slot fun c => { c with answerTimer := none })) rfl hline (decide_eq_true hphase))
  · intro c hwait hline hmessage hsilent
    have hrun := endsSilent_run hline hsilent
    rw [show endSilent x s = endAttempt x.slot .silent s by unfold endSilent; rw [hmessage]] at hrun
    refine ⟨fun hn => ?_, fun hn hprobe hdebit => ?_⟩
    · obtain ⟨t, ht, hends⟩ := attempt_retries hrun hwait (Or.inr rfl) hn
      refine ⟨t, ht, ?_⟩
      intro d
      have hslot := hends.slot
      rw [attempted_silent] at hslot
      rw [show d = _ from hslot]
      exact ⟨rfl, rfl, rfl, rfl, rfl, rfl, rfl, rfl, rfl, rfl, rfl, rfl, hends.totals, hends.absent, hends.line, hends.notice⟩
    · obtain ⟨t, ht, hanswered, hends⟩ := attempt_ends hrun hwait rfl (Or.inr (Or.inr hn)) rfl nofun hprobe hdebit
      refine ⟨t, ht, ?_, hends.totals, hends.absent, hends.line, hanswered, hends.notice⟩
      rw [hends.slot, attempted_silent]
      exact judged_of_noDebit _ hdebit

end Sys2Proof.Machine
end

section

/-! PROOFS. What leaves a slot for the absent list, and the judgement of a known serial (R149, R150, R154). -/

namespace Sys2Proof.Machine

variable {s t x y z : State} {p q : Plane} {o : ProofOutcome} {cmd : Instr}

/-! ### The absent list (R154) -/

/-- The entry in which the serial state of slot `p` leaves it. -/
def leavingEntry (p : Plane) (c : CartridgeSlot) : AbsentEntry :=
  { serial := c.serial.getD 0, plane := p, owed := c.owed, remaining := c.remaining, uncertain := c.uncertain }

/-- The absent list once the serial state of slot `p` has joined it: an entry when there is owed draw, and the oldest
entry of a full list dropped. -/
def joinedAbsent (p : Plane) (c : CartridgeSlot) (list : List AbsentEntry) : List AbsentEntry :=
  if c.owed = 0 then list else (if list.length < 8 then list else list.tail) ++ [leavingEntry p c]

/-- The oldest entry is dropped. -/
def dropsOldest (c : CartridgeSlot) (list : List AbsentEntry) : Bool := decide (0 < c.owed) && decide (8 ≤ list.length)

/-- The draw totals once the oldest entry of a list, if it is dropped, is lost. -/
def lostOldest (drops : Bool) (totals : Vector DrawTotals 4) (list : List AbsentEntry) : Vector DrawTotals 4 :=
  match list with
  | old :: _ => if drops then put totals old.plane
      { totals[old.plane] with lost := totals[old.plane].lost + BitVec.ofNat 64 old.owed } else totals
  | [] => totals

theorem lostOldest_false (totals : Vector DrawTotals 4) (list : List AbsentEntry) :
    lostOldest false totals list = totals := by
  cases list <;> rfl

/-- What the joining of the absent list leaves of the state. -/
structure Joined (s t : State) (list : List AbsentEntry) (totals : Vector DrawTotals 4) (drops : Bool) : Prop where
  absent : t.cartridges.absent = list
  totals : t.cartridges.totals = totals
  drops : drops = true → t.writer.notices.getLsbD 4 = true
  grows : NoticesGrow s t
  orders : t.orders = s.orders
  policy : t.cartridges.policy = s.cartridges.policy

theorem joinAbsent_joined (a : AbsentEntry) (s : State) : Joined s (joinAbsent a s)
    ((if s.cartridges.absent.length < 8 then s.cartridges.absent else s.cartridges.absent.tail) ++ [a])
    (lostOldest (decide (8 ≤ s.cartridges.absent.length)) s.cartridges.totals s.cartridges.absent)
    (decide (8 ≤ s.cartridges.absent.length)) := by
  unfold joinAbsent
  cases hlist : s.cartridges.absent with
  | nil => exact ⟨rfl, rfl, nofun, fun _ => id, rfl, rfl⟩
  | cons old rest =>
    by_cases hfull : 8 ≤ (old :: rest).length
    · dsimp only
      rw [if_pos hfull, if_neg (Nat.not_lt.mpr hfull), decide_eq_true hfull]
      refine ⟨rfl, rfl, fun _ => ?_, raise_grow _ _, rfl, rfl⟩
      change (s.writer.notices ||| (1#32 <<< 4)).getLsbD 4 = true
      rw [BitVec.getLsbD_or]
      exact Bool.or_true _
    · dsimp only
      rw [if_neg hfull, if_pos (Nat.lt_of_not_le hfull), decide_eq_false hfull]
      exact ⟨rfl, rfl, nofun, fun _ => id, rfl, rfl⟩

/-- The serial state of a slot leaves it (R144, R149, R150). -/
theorem stashSlot_joined (p : Plane) (s : State) : Joined s (stashSlot p s)
    (joinedAbsent p s.cartridges.slots[p] s.cartridges.absent)
    (lostOldest (dropsOldest s.cartridges.slots[p] s.cartridges.absent) s.cartridges.totals s.cartridges.absent)
    (dropsOldest s.cartridges.slots[p] s.cartridges.absent) := by
  unfold stashSlot joinedAbsent dropsOldest
  dsimp only
  by_cases howed : 0 < s.cartridges.slots[p].owed
  · rw [if_pos howed, if_neg (Nat.pos_iff_ne_zero.mp howed), decide_eq_true howed, Bool.true_and]
    have hjoined := joinAbsent_joined (leavingEntry p s.cartridges.slots[p])
      (s.onSlot p fun c => { c with owed := 0, uncertain := none })
    exact ⟨hjoined.absent, hjoined.totals, hjoined.drops, hjoined.grows, hjoined.orders, hjoined.policy⟩
  · rw [if_neg howed, if_pos (Nat.eq_zero_of_not_pos howed), decide_eq_false howed, Bool.false_and]
    exact ⟨rfl, (lostOldest_false _ _).symm, nofun, fun _ => id, rfl, rfl⟩

/-! ### What every end of an attempt keeps -/

theorem thresholdTest_absent (p : Plane) (s : State) : (thresholdTest p s).cartridges.absent = s.cartridges.absent := by
  rw [thresholdTest_eq]
  rfl

theorem changeVerdict_absent (p : Plane) (v : Verdict) (s : State) :
    (changeVerdict p v s).cartridges.absent = s.cartridges.absent := by
  rw [changeVerdict_cartridges]

/-- An attempt that ends leaves the absent list and the notices. -/
theorem endAttempt_keeps (p : Plane) (o : ProofOutcome) (s : State) :
    (endAttempt p o s).cartridges.absent = s.cartridges.absent ∧ NoticesGrow s (endAttempt p o s) := by
  by_cases ho : (o = .fail ∨ o = .silent) ∧ s.cartridges.slots[p].attempts < 3
  · obtain ⟨y, hy, -, -, hwriter, hcart⟩ := endAttempt_retries ho.1 ho.2
    rw [hy]
    refine ⟨by rw [changeVerdict_absent, hcart], fun i hi => changeVerdict_grows p _ y i (by rw [hwriter]; exact hi)⟩
  · have hends : o = .pass ∨ o = .rejected ∨ 3 ≤ s.cartridges.slots[p].attempts := by
      cases o with
      | pass => exact Or.inl rfl
      | rejected => exact Or.inr (Or.inl rfl)
      | fail => exact Or.inr (Or.inr (Nat.not_lt.mp fun hn => ho ⟨Or.inl rfl, hn⟩))
      | silent => exact Or.inr (Or.inr (Nat.not_lt.mp fun hn => ho ⟨Or.inr rfl, hn⟩))
    obtain ⟨y, hy, -, hwriter, hcart⟩ := endAttempt_ends hends
    have hdone := completeParked_proverState (p := p) (o := o) (n := s.cartridges.slots[p].attempts)
      (if o = .pass then thresholdTest p (changeVerdict p .genuine y) else changeVerdict p (verdictOf o) y)
    rw [hy]
    refine ⟨?_, fun i hi => ?_⟩
    · rw [hdone.1]
      split
      · rw [thresholdTest_absent, changeVerdict_absent, hcart]
      · rw [changeVerdict_absent, hcart]
    · rw [hdone.2.1]
      split
      · rw [thresholdTest_writer]
        exact changeVerdict_grows p _ y i (by rw [hwriter]; exact hi)
      · exact changeVerdict_grows p _ y i (by rw [hwriter]; exact hi)

theorem endAttempt_wait (p : Plane) (o : ProofOutcome) (s : State) :
    (endAttempt p o s).orders.resetWait = s.orders.resetWait := by
  have hclosed : (closeAttempt p o s).orders = s.orders := by
    obtain ⟨_, _, _, h⟩ := closeAttempt_proverOnly p o s
    rw [h]
  rw [endAttempt_eq]
  split
  · rw [hclosed]
  · rw [(completeParked_proverState _).2.2, hclosed]

/-! ### A known serial (R150) -/

/-- The state in which an answered count has settled a slot's uncertain debit as not applied. -/
def countSettledAs (p : Plane) (n : Nat) (s : State) : State :=
  s.onSlot p fun c => { c with remaining := some n, uncertain := none }

/-- The state in which an answered count has settled a slot's uncertain debit as applied. -/
def debitApplied (p : Plane) (n u : Nat) (s : State) : State :=
  addConfirmed p u ((countSettledAs p n s).onSlot p fun c => { c with owed := c.owed - u })

section Known
variable {n last : Nat}

theorem evaluateKnown_rollback (h : s.cartridges.slots[p].remaining = some last) (hlt : last < n) :
    evaluateKnown p n s = endAttempt p .rejected s := by
  unfold evaluateKnown
  dsimp only
  rw [h]
  exact if_pos hlt

theorem evaluateKnown_applied {u : Nat} (h : s.cartridges.slots[p].remaining = some last)
    (hu : s.cartridges.slots[p].uncertain = some u) (heq : n + u = last) :
    evaluateKnown p n s = endAttempt p .pass (debitApplied p n u s) := by
  unfold evaluateKnown
  dsimp only
  rw [h]
  dsimp only
  rw [if_neg (by omega), hu]
  exact if_pos heq

theorem evaluateKnown_settled (h : s.cartridges.slots[p].remaining = some last) (hle : n ≤ last)
    (hu : ∀ u, s.cartridges.slots[p].uncertain = some u → n + u ≠ last) :
    evaluateKnown p n s = endAttempt p .pass (countSettledAs p n s) := by
  unfold evaluateKnown
  dsimp only
  rw [h]
  dsimp only
  rw [if_neg (Nat.not_lt.mpr hle)]
  cases huncertain : s.cartridges.slots[p].uncertain with
  | none => rfl
  | some u => exact if_neg (hu u huncertain)

/-- A known serial's judgement leaves the absent list and the notices. -/
theorem evaluateKnown_keeps (p : Plane) (n : Nat) (s : State) :
    (evaluateKnown p n s).cartridges.absent = s.cartridges.absent ∧ NoticesGrow s (evaluateKnown p n s) ∧
      (evaluateKnown p n s).orders.resetWait = s.orders.resetWait := by
  have hends : ∀ (o : ProofOutcome) (y : State), y.cartridges.absent = s.cartridges.absent → y.writer = s.writer →
      y.orders = s.orders → (endAttempt p o y).cartridges.absent = s.cartridges.absent ∧
        NoticesGrow s (endAttempt p o y) ∧ (endAttempt p o y).orders.resetWait = s.orders.resetWait := by
    intro o y habsent hwriter horders
    obtain ⟨hkept, hgrows⟩ := endAttempt_keeps p o y
    refine ⟨hkept.trans habsent, fun i hi => hgrows i (by rw [hwriter]; exact hi), ?_⟩
    rw [endAttempt_wait, horders]
  unfold evaluateKnown
  dsimp only
  split
  · exact hends _ _ rfl rfl rfl
  · split
    · exact hends _ _ rfl rfl rfl
    · split
      · exact hends _ _ rfl rfl rfl
      · split
        · exact hends _ _ rfl rfl rfl
        · exact hends _ _ rfl rfl rfl

end Known

end Sys2Proof.Machine
end

section

/-! PROOFS. The judgement of a proof answer (R149, R150). -/

namespace Sys2Proof.Machine

variable {s t x y z : State} {p q : Plane} {o : ProofOutcome} {cmd : Instr} {nonce : Nonce} {a : ProofAnswer}

/-! ### The order of the judgement (R149) -/

/-- The answer's tag checks. -/
def answerChecks (s : State) (nonce : Nonce) (a : ProofAnswer) : Prop :=
  a.tag = answerTag s.fuses.familySecret nonce a.serial a.plane a.remaining.toNat

theorem evaluateAnswer_bad (h : ¬answerChecks s nonce a) : evaluateAnswer p nonce a s = endAttempt p .fail s := if_pos h

theorem evaluateAnswer_plane (h : answerChecks s nonce a) (hp : a.plane ≠ p) :
    evaluateAnswer p nonce a s = endAttempt p .rejected s :=
  (if_neg (not_not_intro h)).trans (if_pos hp)

theorem evaluateAnswer_known (h : answerChecks s nonce a) (hp : a.plane = p)
    (hserial : s.cartridges.slots[p].serial = some a.serial) :
    evaluateAnswer p nonce a s = evaluateKnown p a.remaining.toNat s :=
  (if_neg (not_not_intro h)).trans ((if_neg (not_not_intro hp)).trans (if_pos hserial))

theorem evaluateAnswer_absent {e : AbsentEntry} (h : answerChecks s nonce a) (hp : a.plane = p)
    (hserial : s.cartridges.slots[p].serial ≠ some a.serial) (he : s.absentEntry a.serial p = some e) :
    evaluateAnswer p nonce a s = evaluateKnown p a.remaining.toNat (claimEntry p e s) := by
  refine (if_neg (not_not_intro h)).trans ((if_neg (not_not_intro hp)).trans ((if_neg hserial).trans ?_))
  rw [he]

theorem evaluateAnswer_new (h : answerChecks s nonce a) (hp : a.plane = p)
    (hserial : s.cartridges.slots[p].serial ≠ some a.serial) (hnone : s.absentEntry a.serial p = none) :
    evaluateAnswer p nonce a s = endAttempt p .pass (adoptSerial p a s) := by
  refine (if_neg (not_not_intro h)).trans ((if_neg (not_not_intro hp)).trans ((if_neg hserial).trans ?_))
  rw [hnone]

/-! ### A known serial (R150) -/

/-- The record of a slot whose proof has passed with a count. -/
def CartridgeSlot.passed (n : Nat) (c : CartridgeSlot) : CartridgeSlot :=
  { c with
    remaining := some n, verdict := .genuine, exchange := .idle, attempts := 0, answerTimer := none
    history := (true :: c.history).take 8 }

/-- The record of a slot whose proof has failed, but for the verdict. -/
def CartridgeSlot.failed (c : CartridgeSlot) : CartridgeSlot :=
  { c with
    exchange := .idle, attempts := 0, answerTimer := none, history := (false :: c.history).take 8, everFailed := true }

/-- What the judgement of a known serial leaves, by the state `y` in which the slot holds it. -/
structure KnownJudged (s y t : State) (p : Plane) (n last : Nat) : Prop where
  absent : t.cartridges.absent = y.cartridges.absent
  grows : NoticesGrow y t
  rollback : last < n → t.cartridges.totals = y.cartridges.totals ∧
    t.cartridges.slots[p] = { y.cartridges.slots[p].failed with verdict := .rejected } ∧ ProbeAnswered s t p 3 4
  applied : ∀ u, y.cartridges.slots[p].uncertain = some u → n + u = last →
    y.cartridges.slots[p].owed - u < y.cartridges.policy.threshold →
    t.cartridges.slots[p] = { y.cartridges.slots[p].passed n with
      owed := y.cartridges.slots[p].owed - u, uncertain := none } ∧ ProbeAnswered s t p 0 1 ∧
    t.cartridges.totals = put y.cartridges.totals p { y.cartridges.totals[p] with
      confirmed := y.cartridges.totals[p].confirmed + BitVec.ofNat 64 u }
  settled : n ≤ last → (∀ u, y.cartridges.slots[p].uncertain = some u → n + u ≠ last) →
    y.cartridges.slots[p].owed < y.cartridges.policy.threshold →
    t.cartridges.slots[p] = { y.cartridges.slots[p].passed n with uncertain := none } ∧
      t.cartridges.totals = y.cartridges.totals ∧ ProbeAnswered s t p 0 1

theorem knownJudged {n last : Nat} (hrun : exec cmd s = .next (concludeEvent s (evaluateKnown p n y)))
    (hwait : s.orders.resetWait = none) (hy : y.orders = s.orders)
    (hn : y.cartridges.slots[p].attempts = s.cartridges.slots[p].attempts)
    (hprobe : y.cartridges.slots[p].probePending = false) (hdebit : y.cartridges.slots[p].debitPending = false)
    (hlast : y.cartridges.slots[p].remaining = some last) (ht : exec cmd s = .next t) : KnownJudged s y t p n last := by
  have hsame : ∀ {t' : State}, exec cmd s = .next t' → t' = t := fun h => Host.Outcome.next.inj (h.symm.trans ht)
  obtain ⟨habsent, hgrows, hw⟩ := evaluateKnown_keeps p n y
  refine ⟨?_, ?_, fun hlt => ?_, fun u hu heq hbelow => ?_, fun hle hu hbelow => ?_⟩
  · obtain ⟨t', ht', -, harb⟩ := event_ends hrun (by rw [hw, hy]; exact hwait)
    rw [← hsame ht', harb.absent, habsent]
  · obtain ⟨t', ht', hends, -⟩ := event_ends hrun (by rw [hw, hy]; exact hwait)
    rw [← hsame ht']
    exact hgrows.trans hends.grows.2
  · rw [evaluateKnown_rollback hlast hlt] at hrun
    obtain ⟨t', ht', hanswered, hends⟩ := attempt_ends hrun hwait hy (Or.inr (Or.inl rfl)) hn nofun hprobe hdebit
    obtain rfl := hsame ht'
    refine ⟨hends.totals, ?_, hanswered⟩
    rw [hends.slot, attempted_rejected]
    exact judged_of_noDebit _ hdebit
  · rw [evaluateKnown_applied hlast hu heq] at hrun
    have hslot : (debitApplied p n u y).cartridges.slots[p] = { y.cartridges.slots[p] with
        remaining := some n, uncertain := none, owed := y.cartridges.slots[p].owed - u } := by
      unfold debitApplied countSettledAs
      rw [addConfirmed_slots, onSlot_slot, onSlot_slot]
    obtain ⟨t', ht', hanswered, hends⟩ := attempt_ends hrun hwait hy (Or.inl rfl) (by rw [hslot]; exact hn)
      (fun _ => by rw [hslot]; exact hbelow) (by rw [hslot]; exact hprobe) (by rw [hslot]; exact hdebit)
    obtain rfl := hsame ht'
    refine ⟨?_, hanswered, hends.totals⟩
    rw [hends.slot, hslot, attempted_pass]
    exact judged_of_noDebit _ hdebit
  · rw [evaluateKnown_settled hlast hle hu] at hrun
    have hslot : (countSettledAs p n y).cartridges.slots[p] = { y.cartridges.slots[p] with
        remaining := some n, uncertain := none } := onSlot_slot _ _ _
    obtain ⟨t', ht', hanswered, hends⟩ := attempt_ends hrun hwait hy (Or.inl rfl) (by rw [hslot]; exact hn)
      (fun _ => by rw [hslot]; exact hbelow) (by rw [hslot]; exact hprobe) (by rw [hslot]; exact hdebit)
    obtain rfl := hsame ht'
    refine ⟨?_, hends.totals, hanswered⟩
    rw [hends.slot, hslot, attempted_pass]
    exact judged_of_noDebit _ hdebit

/-! ### A serial of the absent list, or new to the part (R149, R150) -/

theorem adoptSerial_slot (p : Plane) (a : ProofAnswer) (s : State) : (adoptSerial p a s).cartridges.slots[p] =
    { s.cartridges.slots[p] with
      owed := 0, uncertain := none, serial := some a.serial, remaining := some a.remaining.toNat } := by
  unfold adoptSerial
  rw [onSlot_slot, stashSlot_slot]

theorem absentEntry_none (h : ∀ e ∈ s.cartridges.absent, e.serial ≠ a.serial) : s.absentEntry a.serial p = none :=
  List.find?_eq_none.mpr fun e he hmatch => h e he (of_decide_eq_true (Bool.and_eq_true_iff.mp hmatch).1)

/-- The first entry of a serial and plane, and the list without it. -/
theorem absentEntry_first {e : AbsentEntry} {before after : List AbsentEntry} (hlist : s.cartridges.absent = before ++ e :: after)
    (hserial : e.serial = a.serial) (hplane : e.plane = p) (hfirst : ∀ b ∈ before, b.serial ≠ a.serial) :
    s.absentEntry a.serial p = some e ∧ (s.cartridges.absent.eraseP fun x =>
      decide (x.serial = e.serial) && decide (x.plane = e.plane)) = before ++ after := by
  have htest : (decide (e.serial = a.serial) && decide (e.plane = p)) = true := by
    rw [decide_eq_true hserial, decide_eq_true hplane]
    rfl
  have hnone : ∀ b ∈ before, (decide (b.serial = a.serial) && decide (b.plane = p)) = false := fun b hb => by
    rw [decide_eq_false (hfirst b hb), Bool.false_and]
  refine ⟨?_, ?_⟩
  · unfold State.absentEntry
    rw [hlist]
    exact find?_first (f := fun b : AbsentEntry => decide (b.serial = a.serial) && decide (b.plane = p)) htest hnone
  · rw [hlist, hserial, hplane, List.eraseP_append_right _ fun b hb => by rw [hnone b hb]; decide,
      List.eraseP_cons_of_pos (p := fun x : AbsentEntry => decide (x.serial = a.serial) && decide (x.plane = p)) htest]

end Sys2Proof.Machine
end

section

/-! PROOFS. The law of every proof answer (R149, R150, R151). -/

namespace Sys2Proof.Machine

variable {s t x y z : State} {p q : Plane} {cmd : Instr} {nonce : Nonce} {a : ProofAnswer}

/-- What the claim of an absent entry leaves: the entry's state in the slot, and the slot's own in the list (R150). -/
theorem claimEntry_joined {e : AbsentEntry} {others : List AbsentEntry}
    (hothers : (s.cartridges.absent.eraseP fun x => decide (x.serial = e.serial) && decide (x.plane = e.plane)) = others) :
    Joined s (claimEntry p e s) (joinedAbsent p s.cartridges.slots[p] others)
      (lostOldest (dropsOldest s.cartridges.slots[p] others) s.cartridges.totals others)
      (dropsOldest s.cartridges.slots[p] others) := by
  unfold claimEntry
  rw [hothers]
  obtain ⟨habsent, htotals, hdrops, hgrows, horders, hpolicy⟩ :=
    stashSlot_joined p { s with cartridges := { s.cartridges with absent := others } }
  exact ⟨habsent, htotals, hdrops, hgrows, horders, hpolicy⟩

theorem adoptSerial_joined : Joined s (adoptSerial p a s)
    (joinedAbsent p s.cartridges.slots[p] s.cartridges.absent)
    (lostOldest (dropsOldest s.cartridges.slots[p] s.cartridges.absent) s.cartridges.totals s.cartridges.absent)
    (dropsOldest s.cartridges.slots[p] s.cartridges.absent) := by
  obtain ⟨habsent, htotals, hdrops, hgrows, horders, hpolicy⟩ := stashSlot_joined p s
  exact ⟨habsent, htotals, hdrops, hgrows, horders, hpolicy⟩

/-- Settles O31. -/
theorem proofAnswersAreJudged : Obligations.ProofAnswersAreJudged := by
  intro s x nonce a c count good
  refine ⟨fun secret other serial plane n htag => ?_, fun hwait hline hmessage hphase hprobe hdebit => ?_⟩
  · have hgood : good ↔ answerTag secret other serial plane n =
        answerTag s.fuses.familySecret nonce a.serial a.plane count := by
      rw [← htag]
    rw [hgood, answerTag_eq_iff]
    exact ⟨fun ⟨h1, h2, h3, h4, h5⟩ => ⟨h1, h2, h3.symm, h4.symm, h5.symm⟩,
      fun ⟨h1, h2, h3, h4, h5⟩ => ⟨h1, h2, h3.symm, h4.symm, h5.symm⟩⟩
  · have hrun : exec (.answerReadEnd (some a)) s = .next (concludeEvent s (evaluateAnswer x.slot nonce a s)) := by
      have htest : isChallenge .read x = true := by
        unfold isChallenge
        rw [hmessage]
        exact decide_eq_true hphase
      refine (onExchange_run rfl hline htest).trans ?_
      rw [hmessage]
    have hexec := hrun
    generalize concludeEvent s (evaluateAnswer x.slot nonce a s) = t at hexec
    have hsame : ∀ {t' : State}, exec (.answerReadEnd (some a)) s = .next t' → t' = t :=
      fun h => Host.Outcome.next.inj (h.symm.trans hexec)
    refine ⟨t, hexec, ?_⟩
    intro d passed failed kept passes leaves joined lostFrom
    refine ⟨fun hbad hn => ?_, fun hbad hn => ?_, fun hgood hplane => ?_, fun hgood hplane hnew _ hnone hthreshold => ?_,
      fun last hgood hplane hserial hlast => ?_,
      fun e last before after hgood hplane hnew _ hlist heserial heplane hfirst hlast => ?_⟩
    · rw [evaluateAnswer_bad hbad] at hrun
      obtain ⟨t', ht', hends⟩ := attempt_retries hrun hwait (Or.inl rfl) hn
      obtain rfl := hsame ht'
      refine ⟨?_, hends.totals, hends.absent⟩
      rw [show d = _ from hends.slot, attempted_fail]
      exact judged_of_noDebit _ hdebit
    · rw [evaluateAnswer_bad hbad] at hrun
      obtain ⟨t', ht', hanswered, hends⟩ := attempt_ends hrun hwait rfl (Or.inr (Or.inr hn)) rfl nofun hprobe hdebit
      obtain rfl := hsame ht'
      refine ⟨?_, ⟨hends.totals, hends.absent⟩, hanswered⟩
      rw [show d = _ from hends.slot, attempted_fail]
      exact judged_of_noDebit _ hdebit
    · rw [evaluateAnswer_plane hgood hplane] at hrun
      obtain ⟨t', ht', hanswered, hends⟩ := attempt_ends hrun hwait rfl (Or.inr (Or.inl rfl)) rfl nofun hprobe hdebit
      obtain rfl := hsame ht'
      refine ⟨?_, ⟨hends.totals, hends.absent⟩, hanswered⟩
      rw [show d = _ from hends.slot, attempted_rejected]
      exact judged_of_noDebit _ hdebit
    · have hz := adoptSerial_slot x.slot a s
      have hjoined := adoptSerial_joined (s := s) (p := x.slot) (a := a)
      rw [evaluateAnswer_new hgood hplane hnew (absentEntry_none hnone)] at hrun
      obtain ⟨t', ht', hanswered, hends⟩ := attempt_ends hrun hwait hjoined.orders (Or.inl rfl) (by rw [hz])
        (fun _ => by rw [hz, hjoined.policy]; exact hthreshold) (by rw [hz]; exact hprobe) (by rw [hz]; exact hdebit)
      obtain rfl := hsame ht'
      refine ⟨?_, hanswered, hends.absent.trans hjoined.absent, hends.totals.trans hjoined.totals,
        fun hdrops => hends.notices 4 (hjoined.drops hdrops)⟩
      rw [show d = _ from hends.slot, hz, attempted_pass]
      exact judged_of_noDebit _ hdebit
    · rw [evaluateAnswer_known hgood hplane hserial] at hrun
      have hjudged := knownJudged hrun hwait rfl rfl hprobe hdebit hlast hexec
      have hpassed : c.passed count = passed := by
        unfold CartridgeSlot.passed
        rw [hserial]
      refine ⟨fun hlt => ?_, fun u hu heq hbelow => ?_, fun hle hu hbelow => ?_⟩
      · obtain ⟨htotals, hslot, hanswered⟩ := hjudged.rollback hlt
        exact ⟨⟨htotals, hjudged.absent⟩, hslot, hanswered⟩
      · obtain ⟨hslot, hanswered, htotals⟩ := hjudged.applied u hu heq hbelow
        rw [← hpassed]
        exact ⟨hslot, hanswered, hjudged.absent, htotals⟩
      · obtain ⟨hslot, htotals, hanswered⟩ := hjudged.settled hle hu hbelow
        rw [← hpassed]
        exact ⟨hslot, ⟨htotals, hjudged.absent⟩, hanswered⟩
    · intro others totals
      obtain ⟨hentry, hothers⟩ := absentEntry_first hlist heserial heplane hfirst
      have hz := claimEntry_slot x.slot e s
      have hjoined := claimEntry_joined (p := x.slot) hothers
      rw [evaluateAnswer_absent hgood hplane hnew hentry] at hrun
      have hjudged := knownJudged hrun hwait hjoined.orders (by rw [hz]) (by rw [hz]; exact hprobe) (by rw [hz]; exact hdebit)
        (by rw [hz]; exact hlast) hexec
      refine ⟨hjudged.absent.trans hjoined.absent, fun hdrops => hjudged.grows 4 (hjoined.drops hdrops), fun hlt => ?_,
        fun u hu heq hbelow => ?_, fun hle hu hbelow => ?_⟩
      · obtain ⟨htotals, hslot, hanswered⟩ := hjudged.rollback hlt
        refine ⟨?_, htotals.trans hjoined.totals, hanswered⟩
        rw [show d = _ from hslot, hz, heserial, hlast]
        rfl
      · obtain ⟨hslot, hanswered, htotals⟩ := hjudged.applied u (by rw [hz]; exact hu) heq
          (by rw [hz, hjoined.policy]; exact hbelow)
        refine ⟨?_, hanswered, ?_⟩
        · rw [show d = _ from hslot, hz, heserial]
          rfl
        · rw [htotals, hjoined.totals]
          rfl
      · obtain ⟨hslot, htotals, hanswered⟩ := hjudged.settled hle (by rw [hz]; exact hu)
          (by rw [hz, hjoined.policy]; exact hbelow)
        refine ⟨?_, hanswered, htotals.trans hjoined.totals⟩
        rw [show d = _ from hslot, hz, heserial]
        rfl

end Sys2Proof.Machine
end

section

/-! PROOFS. The confirmation of a debit, and the bad endings of a debit (R153). -/

namespace Sys2Proof.Machine

variable {s t x y z : State} {p q : Plane} {cmd : Instr} {amount : Nat} {silent : Bool}

/-! ### What a request for a probe and the threshold test leave (R146, R152) -/

/-- From one state to the other no more than the work due changes in the cartridges. -/
structure OnlyDue (s t : State) : Prop where
  standing : ∀ q : Plane, t.cartridges.slots[q].standing = s.cartridges.slots[q].standing
  exchange : ∀ q : Plane, t.cartridges.slots[q].exchange = s.cartridges.slots[q].exchange
  probe : ∀ q : Plane, s.cartridges.slots[q].probePending = true → t.cartridges.slots[q].probePending = true
  totals : t.cartridges.totals = s.cartridges.totals
  absent : t.cartridges.absent = s.cartridges.absent
  writer : t.writer = s.writer
  orders : t.orders = s.orders

theorem OnlyDue.refl (s : State) : OnlyDue s s := ⟨fun _ => rfl, fun _ => rfl, fun _ h => h, rfl, rfl, rfl, rfl⟩

theorem OnlyDue.trans (hst : OnlyDue s t) (htx : OnlyDue t x) : OnlyDue s x :=
  ⟨fun q => (htx.standing q).trans (hst.standing q), fun q => (htx.exchange q).trans (hst.exchange q),
    fun q h => htx.probe q (hst.probe q h), htx.totals.trans hst.totals, htx.absent.trans hst.absent,
    htx.writer.trans hst.writer, htx.orders.trans hst.orders⟩

theorem onSlot_onlyDue {f : CartridgeSlot → CartridgeSlot} (s : State) (p : Plane) (hf : ∀ c, (f c).standing = c.standing)
    (hexchange : ∀ c, (f c).exchange = c.exchange) (hprobe : ∀ c, c.probePending = true → (f c).probePending = true) :
    OnlyDue s (s.onSlot p f) := by
  have hslot : ∀ q : Plane, (s.onSlot p f).cartridges.slots[q] =
      if q = p then f s.cartridges.slots[q] else s.cartridges.slots[q] := by
    intro q
    by_cases hq : q = p
    · subst hq
      rw [if_pos rfl, onSlot_slot]
    · rw [if_neg hq]
      exact put_other _ _ _ _ (Ne.symm hq)
  refine ⟨fun q => ?_, fun q => ?_, fun q h => ?_, rfl, rfl, rfl, rfl⟩
  all_goals rw [hslot q]
  · split
    · exact hf _
    · rfl
  · split
    · exact hexchange _
    · rfl
  · split
    · exact hprobe _ h
    · exact h

theorem requestProbe_onlyDue (p : Plane) (s : State) : OnlyDue s (requestProbe p s) := by
  unfold requestProbe
  dsimp only
  split
  · exact onSlot_onlyDue s p (fun _ => rfl) (fun _ => rfl) fun _ _ => rfl
  · exact .refl s

theorem thresholdTest_onlyDue (p : Plane) (s : State) : OnlyDue s (thresholdTest p s) := by
  unfold thresholdTest
  dsimp only
  split
  · exact onSlot_onlyDue s p (fun _ => rfl) (fun _ => rfl) fun _ h => h
  · exact .refl s

/-- What stands in a slot's record at the end of an event. -/
theorem standing_at_end (hdue : OnlyDue y x) (harb : Arbitrates x.cartridges t.cartridges) {α : Type}
    (f : CartridgeSlot → α) (hf : ∀ c, f c.standing = f c) (q : Plane) :
    f t.cartridges.slots[q] = f y.cartridges.slots[q] := by
  rw [← hf t.cartridges.slots[q], harb.standing q, hdue.standing q, hf]

/-! ### A good confirmation (R153) -/

/-- The state in which a debit is confirmed, before the threshold is tested. -/
def debitConfirmed (p : Plane) (amount n : Nat) (s : State) : State :=
  freeLine (addConfirmed p amount (s.onSlot p fun c =>
    { c with owed := c.owed - amount, remaining := some n, exchange := .idle, answerTimer := none }))

theorem debitConfirmed_slot (p : Plane) (amount n : Nat) (s : State) : (debitConfirmed p amount n s).cartridges.slots[p] =
    { s.cartridges.slots[p] with
      owed := s.cartridges.slots[p].owed - amount, remaining := some n, exchange := .idle, answerTimer := none } := by
  unfold debitConfirmed
  rw [freeLine_slots, addConfirmed_slots, onSlot_slot]

theorem debitConfirmed_ends {n : Nat} (hrun : exec cmd s = .next (concludeEvent s (confirmDebit p amount n s)))
    (hwait : s.orders.resetWait = none) :
    ∃ t, exec cmd s = .next t ∧
      t.cartridges.slots[p].owed = s.cartridges.slots[p].owed - amount ∧
      t.cartridges.slots[p].remaining = some n ∧
      t.cartridges.slots[p].verdict = s.cartridges.slots[p].verdict ∧
      t.cartridges.slots[p].uncertain = s.cartridges.slots[p].uncertain ∧
      t.cartridges.slots[p].serial = s.cartridges.slots[p].serial ∧
      t.cartridges.slots[p].history = s.cartridges.slots[p].history ∧
      t.cartridges.absent = s.cartridges.absent ∧
      t.cartridges.totals = put s.cartridges.totals p
        { s.cartridges.totals[p] with confirmed := s.cartridges.totals[p].confirmed + BitVec.ofNat 64 amount } ∧
      (s.cartridges.slots[p].probePending = false → s.cartridges.slots[p].debitPending = false →
        s.cartridges.slots[p].owed - amount < s.cartridges.policy.threshold → t.cartridges.slots[p].exchange = .idle) := by
  have hstate : confirmDebit p amount n s = thresholdTest p (debitConfirmed p amount n s) := rfl
  have hslot := debitConfirmed_slot p amount n s
  have hdue := thresholdTest_onlyDue p (debitConfirmed p amount n s)
  rw [hstate] at hrun
  obtain ⟨t, ht, -, harb⟩ := event_ends hrun (by rw [hdue.orders]; exact hwait)
  have hfield : ∀ {α : Type} (f : CartridgeSlot → α), (∀ c, f c.standing = f c) →
      f t.cartridges.slots[p] = f (debitConfirmed p amount n s).cartridges.slots[p] :=
    fun f hf => standing_at_end hdue harb f hf p
  refine ⟨t, ht, ?_, ?_, ?_, ?_, ?_, ?_, ?_, ?_, fun hprobe hdebit hbelow => ?_⟩
  · rw [hfield CartridgeSlot.owed fun _ => rfl, hslot]
  · rw [hfield CartridgeSlot.remaining fun _ => rfl, hslot]
  · rw [hfield CartridgeSlot.verdict fun _ => rfl, hslot]
  · rw [hfield CartridgeSlot.uncertain fun _ => rfl, hslot]
  · rw [hfield CartridgeSlot.serial fun _ => rfl, hslot]
  · rw [hfield CartridgeSlot.history fun _ => rfl, hslot]
  · rw [harb.absent, hdue.absent]
    rfl
  · rw [harb.totals, hdue.totals]
    rfl
  · have hkeeps : thresholdTest p (debitConfirmed p amount n s) = debitConfirmed p amount n s :=
      thresholdTest_below (by rw [hslot]; exact hbelow)
    rw [hkeeps] at harb
    rw [harb.rest p (by rw [hslot]; exact not_due_of_none hprobe hdebit), hslot]

/-! ### A bad ending (R153) -/

/-- The state in which a debit has ended badly, before the slot's verdict changes. -/
def debitUncertain (p : Plane) (amount : Nat) (silent : Bool) (s : State) : State :=
  freeLine (s.onSlot p fun c =>
    { c with
      exchange := .idle
      answerTimer := none
      uncertain := if amount = 0 then none else some amount
      everFailed := c.everFailed || !silent
      everSilent := c.everSilent || silent })

theorem debitUncertain_slot (p : Plane) (amount : Nat) (silent : Bool) (s : State) :
    (debitUncertain p amount silent s).cartridges.slots[p] = { s.cartridges.slots[p] with
      exchange := .idle
      answerTimer := none
      uncertain := if amount = 0 then none else some amount
      everFailed := s.cartridges.slots[p].everFailed || !silent
      everSilent := s.cartridges.slots[p].everSilent || silent } := by
  unfold debitUncertain
  rw [freeLine_slots, onSlot_slot]

/-- What is left when a debit ends badly. -/
structure DebitEndsBadly (s t : State) (p : Plane) (amount : Nat) (silent : Bool) : Prop where
  owed : t.cartridges.slots[p].owed = s.cartridges.slots[p].owed
  uncertain : t.cartridges.slots[p].uncertain = some amount
  verdict : t.cartridges.slots[p].verdict = .doubtful
  remaining : t.cartridges.slots[p].remaining = s.cartridges.slots[p].remaining
  serial : t.cartridges.slots[p].serial = s.cartridges.slots[p].serial
  history : t.cartridges.slots[p].history = s.cartridges.slots[p].history
  totals : t.cartridges.totals = s.cartridges.totals
  absent : t.cartridges.absent = s.cartridges.absent
  probe : s.cartridges.slots[p].seated = true →
    t.cartridges.slots[p].probePending = true ∨ t.cartridges.slots[p].exchange = .probe
  notice : s.cartridges.slots[p].verdict ≠ .doubtful → t.writer.notices.getLsbD (16 + p.val) = true
  failed : t.cartridges.slots[p].everFailed = (s.cartridges.slots[p].everFailed || !silent)
  wasSilent : t.cartridges.slots[p].everSilent = (s.cartridges.slots[p].everSilent || silent)

theorem requestProbe_makesDue (hseated : s.cartridges.slots[p].seated = true)
    (hverdict : s.cartridges.slots[p].verdict ≠ .rejected) (hidle : s.cartridges.slots[p].exchange = .idle) :
    (requestProbe p s).cartridges.slots[p].probePending = true := by
  unfold requestProbe
  dsimp only
  rw [if_pos ⟨hseated, hverdict, Or.inl hidle⟩, onSlot_slot]

theorem debitEndsBadly (hrun : exec cmd s = .next (concludeEvent s (endDebitBadly p amount silent s)))
    (hwait : s.orders.resetWait = none) (hamount : 0 < amount) :
    ∃ t, exec cmd s = .next t ∧ DebitEndsBadly s t p amount silent := by
  obtain ⟨y, hy⟩ : ∃ y, y = changeVerdict p .doubtful (debitUncertain p amount silent s) := ⟨_, rfl⟩
  have hstate : endDebitBadly p amount silent s = thresholdTest p (requestProbe p y) := by rw [hy]; rfl
  have hdue : OnlyDue y (endDebitBadly p amount silent s) := by
    rw [hstate]
    exact (requestProbe_onlyDue p y).trans (thresholdTest_onlyDue p _)
  have hslot : y.cartridges.slots[p] = (debitUncertain p amount silent s).cartridges.slots[p].judged .doubtful := by
    rw [hy, changeVerdict_slot]
  rw [debitUncertain_slot, if_neg (Nat.pos_iff_ne_zero.mp hamount)] at hslot
  have htotals : y.cartridges.totals = s.cartridges.totals ∧ y.cartridges.absent = s.cartridges.absent := by
    rw [hy, changeVerdict_cartridges]
    exact ⟨rfl, rfl⟩
  have horders : y.orders = s.orders := by
    rw [hy, changeVerdict_orders]
    rfl
  obtain ⟨t, ht, hends, harb⟩ := event_ends hrun (by rw [hdue.orders, horders]; exact hwait)
  have hfield : ∀ {α : Type} (f : CartridgeSlot → α), (∀ c, f c.standing = f c) →
      f t.cartridges.slots[p] = f y.cartridges.slots[p] := fun f hf => standing_at_end hdue harb f hf p
  have hprobe : s.cartridges.slots[p].seated = true →
      (endDebitBadly p amount silent s).cartridges.slots[p].probePending = true := by
    intro hseated
    rw [hstate]
    refine (thresholdTest_onlyDue p _).probe p (requestProbe_makesDue ?_ ?_ ?_)
    · rw [hslot]; exact hseated
    · rw [hslot]; exact nofun
    · rw [hslot]; rfl
  refine ⟨t, ht, ?_, ?_, ?_, ?_, ?_, ?_, ?_, ?_, fun hseated => harb.probe p (hprobe hseated), fun hv => ?_, ?_, ?_⟩
  · rw [hfield CartridgeSlot.owed fun _ => rfl, hslot]; rfl
  · rw [hfield CartridgeSlot.uncertain fun _ => rfl, hslot]; rfl
  · rw [hfield CartridgeSlot.verdict fun _ => rfl, hslot]; rfl
  · rw [hfield CartridgeSlot.remaining fun _ => rfl, hslot]; rfl
  · rw [hfield CartridgeSlot.serial fun _ => rfl, hslot]; rfl
  · rw [hfield CartridgeSlot.history fun _ => rfl, hslot]; rfl
  · rw [harb.totals, hdue.totals, htotals.1]
  · rw [harb.absent, hdue.absent, htotals.2]
  · refine hends.grows.2 _ ?_
    rw [hdue.writer, hy]
    refine changeVerdict_notice ?_
    rw [debitUncertain_slot]
    exact hv
  · rw [hfield CartridgeSlot.everFailed fun _ => rfl, hslot]; rfl
  · rw [hfield CartridgeSlot.everSilent fun _ => rfl, hslot]; rfl

/-- Settles O32. -/
theorem confirmationSettlesTheDebit : Obligations.ConfirmationSettlesTheDebit := by
  intro s x amount nonce tag c hwait hline hmessage hamount howed endsBadly
  have hbadly : ∀ {silent t}, DebitEndsBadly s t x.slot amount silent → endsBadly t := fun h =>
    ⟨h.owed, h.uncertain, h.verdict, h.remaining, h.serial, h.history, h.totals, h.absent, h.probe, h.notice⟩
  refine ⟨fun k hphase => ?_, fun cmd hsilent => ?_⟩
  · intro good
    have htest : isDebit .read x = true := by
      unfold isDebit
      rw [hmessage]
      exact decide_eq_true hphase
    have hrun := onExchange_run (cmd := .confirmationReadEnd (some k)) rfl hline htest
    rw [hmessage] at hrun
    dsimp only at hrun
    have hgood : goodConfirmation x.slot amount nonce k s = true ↔ good := by
      unfold goodConfirmation
      rw [Bool.and_eq_true, decide_eq_true_iff, decide_eq_true_iff]
    by_cases hg : good
    · rw [if_pos (hgood.mpr hg)] at hrun
      obtain ⟨t, ht, hconfirmed⟩ := debitConfirmed_ends hrun hwait
      exact ⟨t, ht, fun _ => hconfirmed, fun hn => absurd hg hn⟩
    · rw [if_neg fun h => hg (hgood.mp h)] at hrun
      obtain ⟨t, ht, hends⟩ := debitEndsBadly hrun hwait hamount
      refine ⟨t, ht, fun h => absurd h hg, fun _ => ⟨hbadly hends, ?_, ?_⟩⟩
      · rw [hends.failed]
        exact Bool.or_true _
      · rw [hends.wasSilent]
        exact Bool.or_false _
  · have hrun := endsSilent_run hline hsilent
    rw [show endSilent x s = endDebitBadly x.slot amount true s by unfold endSilent; rw [hmessage]] at hrun
    obtain ⟨t, ht, hends⟩ := debitEndsBadly hrun hwait hamount
    refine ⟨t, ht, hbadly hends, ?_, ?_⟩
    · rw [hends.wasSilent, Bool.or_true]
    · rw [hends.failed]
      exact Bool.or_false _

end Sys2Proof.Machine
end

section

/-! PROOFS. The removal of a cartridge (R144). -/

namespace Sys2Proof.Machine

variable {s t x y z : State} {p q : Plane} {e : LineExchange}

/-! ### The exchange that a removal abandons -/

/-- The amount of the debit on the line that a removal of slot `p` abandons. -/
def abandonedDebit (p : Plane) (line : Option LineExchange) : Option Nat :=
  line.bind fun x => match x.message with
    | .debit amount _ _ => if x.slot = p then some amount else none
    | .challenge _ => none

theorem debitOnLine_eq (p : Plane) (s : State) : debitOnLine p s = abandonedDebit p s.cartridges.line := by
  unfold debitOnLine abandonedDebit
  cases s.cartridges.line with
  | none => rfl
  | some e =>
    obtain ⟨q, address, message, phase⟩ := e
    cases message with
    | challenge nonce => rfl
    | debit amount nonce tag => rfl

/-- The uncertain debit of a slot whose debit of an amount, if there is one, is abandoned (R144 step 3). -/
def uncertainAfter (abandoned before : Option Nat) : Option Nat :=
  match abandoned with
  | some amount => if amount = 0 then none else some amount
  | none => before

/-- A slot's exchange is abandoned (R144): an uncertain debit at most is left in the slot's record. -/
structure Abandons (p : Plane) (s t : State) : Prop where
  slot : t.cartridges.slots[p] = { s.cartridges.slots[p] with
    uncertain := uncertainAfter (abandonedDebit p s.cartridges.line) s.cartridges.slots[p].uncertain }
  other : ∀ q : Plane, q ≠ p → t.cartridges.slots[q] = s.cartridges.slots[q]
  elsewhere : ∀ e, s.cartridges.line = some e → e.slot ≠ p → t.cartridges.line = some e
  own : ∀ e, s.cartridges.line = some e → e.slot = p → t.cartridges.line = none
  pins : t.cartridges.pins = s.cartridges.pins
  absent : t.cartridges.absent = s.cartridges.absent
  totals : t.cartridges.totals = s.cartridges.totals
  orders : t.orders = s.orders

theorem keepUncertain_slots (p : Plane) (s : State) : (keepUncertain p s).cartridges = { s.cartridges with
    slots := put s.cartridges.slots p { s.cartridges.slots[p] with
      uncertain := uncertainAfter (abandonedDebit p s.cartridges.line) s.cartridges.slots[p].uncertain } } := by
  unfold keepUncertain
  rw [debitOnLine_eq]
  cases abandonedDebit p s.cartridges.line with
  | none => exact congrArg (fun v => { s.cartridges with slots := v }) (put_self s.cartridges.slots p).symm
  | some amount => rfl

theorem keepUncertain_orders (p : Plane) (s : State) : (keepUncertain p s).orders = s.orders := by
  unfold keepUncertain
  split <;> rfl

theorem dropExchange_cartridges (p : Plane) (s : State) : (dropExchange p s).cartridges = { s.cartridges with
    line := s.cartridges.line.filter fun e => decide (e.slot ≠ p) } := by
  unfold dropExchange
  cases hline : s.cartridges.line with
  | none =>
    change s.cartridges = { s.cartridges with line := none }
    rw [← hline]
  | some e =>
    dsimp only
    by_cases he : e.slot = p
    · rw [if_pos he, Option.filter_some, decide_eq_false (not_not_intro he)]
      rfl
    · rw [if_neg he, Option.filter_some, decide_eq_true he, if_pos rfl, ← hline]

theorem dropExchange_orders (p : Plane) (s : State) : (dropExchange p s).orders = s.orders := by
  unfold dropExchange
  split
  · split <;> rfl
  · rfl

theorem abandons (p : Plane) (s : State) : Abandons p s (dropExchange p (keepUncertain p s)) := by
  have hcart := dropExchange_cartridges p (keepUncertain p s)
  rw [keepUncertain_slots] at hcart
  refine ⟨?_, fun q hq => ?_, fun e he hslot => ?_, fun e he hslot => ?_, ?_, ?_, ?_, ?_⟩
  · rw [hcart]
    exact put_same _ _ _
  · rw [hcart]
    exact put_other _ _ _ _ (Ne.symm hq)
  · rw [hcart, he]
    exact if_pos (decide_eq_true hslot)
  · rw [hcart, he]
    exact if_neg fun h => absurd hslot (of_decide_eq_true h)
  · rw [hcart]
  · rw [hcart]
  · rw [hcart]
  · rw [dropExchange_orders, keepUncertain_orders]

/-! ### The state after a removal -/

/-- The state in which slot `p` is empty and its serial state has left it. -/
def emptied (p : Plane) (s : State) : State :=
  ((stashSlot p (dropExchange p (keepUncertain p s))).completeParked (ParkObject.isCartridge p) (some .removed) []).onSlot p
    fun _ => CartridgeSlot.empty

/-- The uncertain debit and the record with which slot `p` is left. -/
def leftRecord (p : Plane) (k : Cartridges) : CartridgeSlot :=
  { k.slots[p] with uncertain := uncertainAfter (abandonedDebit p k.line) k.slots[p].uncertain }

/-- What an emptied slot leaves of the part. -/
structure Emptied (p : Plane) (s t : State) : Prop where
  slot : t.cartridges.slots[p] = CartridgeSlot.empty
  other : ∀ q : Plane, q ≠ p → t.cartridges.slots[q] = s.cartridges.slots[q]
  elsewhere : ∀ e, s.cartridges.line = some e → e.slot ≠ p → t.cartridges.line = some e
  own : ∀ e, s.cartridges.line = some e → e.slot = p → t.cartridges.line = none
  pins : t.cartridges.pins = s.cartridges.pins
  absent : t.cartridges.absent = joinedAbsent p (leftRecord p s.cartridges) s.cartridges.absent
  totals : t.cartridges.totals = lostOldest (dropsOldest (leftRecord p s.cartridges) s.cartridges.absent)
    s.cartridges.totals s.cartridges.absent
  drops : dropsOldest (leftRecord p s.cartridges) s.cartridges.absent = true → t.writer.notices.getLsbD 4 = true
  wait : t.orders.resetWait = s.orders.resetWait
  answer : ∀ (o : ParkedOrder) (before after : List ParkedOrder), s.orders.parked = before ++ o :: after →
    o.object = .cartridge p → (∀ q ∈ before, q.object ≠ .cartridge p) →
    t.orders = { s.orders with
      parked := before ++ after, completed := s.orders.completed ++ [o.result (some .removed) []] }

theorem stashSlot_pins (p : Plane) (s : State) : (stashSlot p s).cartridges.pins = s.cartridges.pins := by
  unfold stashSlot joinAbsent
  dsimp only
  split
  · split
    · rfl
    · split <;> rfl
  · rfl

theorem emptied_leaves (p : Plane) (s : State) : Emptied p s (emptied p s) := by
  have habandons := abandons p s
  have hjoined := stashSlot_joined p (dropExchange p (keepUncertain p s))
  have hkept := completeParked_leaves (ParkObject.isCartridge p) (some .removed) []
    (stashSlot p (dropExchange p (keepUncertain p s)))
  have hleft : (dropExchange p (keepUncertain p s)).cartridges.slots[p] = leftRecord p s.cartridges := habandons.slot
  rw [hleft, habandons.absent, habandons.totals] at hjoined
  have hline : (emptied p s).cartridges.line = (dropExchange p (keepUncertain p s)).cartridges.line := by
    unfold emptied
    rw [State.onSlot, hkept.1]
    exact stashSlot_line p _
  refine ⟨onSlot_slot .., fun q hq => ?_, fun e he hslot => hline.trans (habandons.elsewhere e he hslot),
    fun e he hslot => hline.trans (habandons.own e he hslot), ?_, ?_, ?_, fun h => ?_, ?_,
    fun o before after hparked ho hfirst => ?_⟩
  · refine (put_other _ _ _ _ (Ne.symm hq)).trans ?_
    rw [hkept.1, stashSlot_slots]
    exact (put_other _ _ _ _ (Ne.symm hq)).trans (habandons.other q hq)
  · exact (congrArg Cartridges.pins hkept.1).trans ((stashSlot_pins p _).trans habandons.pins)
  · exact (congrArg Cartridges.absent hkept.1).trans hjoined.absent
  · exact (congrArg Cartridges.totals hkept.1).trans hjoined.totals
  · exact (congrArg (fun w : ReturnWriter => w.notices.getLsbD 4) hkept.2.1).trans (hjoined.drops h)
  · exact hkept.2.2.trans ((congrArg OrderTaker.resetWait hjoined.orders).trans (congrArg OrderTaker.resetWait habandons.orders))
  · have horders : (stashSlot p (dropExchange p (keepUncertain p s))).orders = s.orders :=
      hjoined.orders.trans habandons.orders
    have hanswered := completeParked_of_first (s := stashSlot p (dropExchange p (keepUncertain p s))) (some .removed) []
      (horders ▸ hparked) (isCartridge_iff.mpr ho) fun q hq => isCartridge_false (hfirst q hq)
    refine (congrArg State.orders hanswered).trans ?_
    rw [horders]

end Sys2Proof.Machine
end

section

/-! PROOFS. What a removal leaves at the end of its event (R144). -/

namespace Sys2Proof.Machine

variable {s t x y z : State} {p q : Plane}

/-- The state in which a cartridge has been removed. -/
def removedState (p : Plane) (s : State) : State := removeCartridge p (setPin p false s)

theorem removedState_eq (p : Plane) (s : State) : removedState p s = ((emptied p (setPin p false s)).raise (.presence p)).raiseIf
    (decide (s.cartridges.slots[p].verdict ≠ .unknown)) (.verdict p) := rfl

theorem raiseIf_keeps (s : State) (b : Bool) (n : Notice) :
    (s.raiseIf b n).cartridges = s.cartridges ∧ (s.raiseIf b n).orders = s.orders := by
  cases b with
  | false => exact ⟨rfl, rfl⟩
  | true => exact ⟨rfl, rfl⟩

theorem removedState_cartridges (p : Plane) (s : State) :
    (removedState p s).cartridges = (emptied p (setPin p false s)).cartridges := (raiseIf_keeps _ _ _).1

theorem removedState_orders (p : Plane) (s : State) :
    (removedState p s).orders = (emptied p (setPin p false s)).orders := (raiseIf_keeps _ _ _).2

theorem raise_sets (s : State) (n : Notice) (h : n.bit < 32) : (s.raise n).writer.notices.getLsbD n.bit = true := by
  change (s.writer.notices ||| (1#32 <<< n.bit)).getLsbD n.bit = true
  rw [BitVec.getLsbD_or, BitVec.getLsbD_shiftLeft]
  simp [h]

theorem removedState_presence (p : Plane) (s : State) :
    (removedState p s).writer.notices.getLsbD (20 + p.val) = true := by
  have hp := p.isLt
  rw [removedState_eq]
  exact raiseIf_grow _ _ _ _ (raise_sets _ (.presence p) (by change 20 + p.val < 32; omega))

theorem removedState_verdict (h : s.cartridges.slots[p].verdict ≠ .unknown) :
    (removedState p s).writer.notices.getLsbD (16 + p.val) = true := by
  have hp := p.isLt
  rw [removedState_eq, decide_eq_true h]
  exact raise_sets _ (.verdict p) (by change 16 + p.val < 32; omega)

theorem removedState_drops
    (h : dropsOldest (leftRecord p s.cartridges) s.cartridges.absent = true) :
    (removedState p s).writer.notices.getLsbD 4 = true := by
  rw [removedState_eq]
  exact raiseIf_grow _ _ _ _ (raise_grow _ _ _ ((emptied_leaves p (setPin p false s)).drops h))

theorem presenceDeassert_run (h : s.cartridges.slots[p].seated = true) :
    exec (.presenceDeassert p) s = .next (concludeEvent s (removedState p s)) := by
  change Host.Outcome.next (concludeEvent s
    (if s.cartridges.slots[p].seated then removeCartridge p (setPin p false s) else setPin p false s)) = _
  rw [if_pos h]
  rfl

/-- The end of a removal's event. -/
theorem removal_ends (hwait : s.orders.resetWait = none) (hseated : s.cartridges.slots[p].seated = true) :
    ∃ t, exec (.presenceDeassert p) s = .next t ∧ t.orders = (removedState p s).orders.moved ∧
      (∀ i, (removedState p s).writer.notices.getLsbD i = true → t.writer.notices.getLsbD i = true) ∧
      Arbitrates (emptied p (setPin p false s)).cartridges t.cartridges := by
  have hw : (removedState p s).orders.resetWait = none := by
    rw [removedState_orders]
    exact (emptied_leaves p (setPin p false s)).wait.trans hwait
  obtain ⟨t, ht, hends, harb⟩ := event_ends (presenceDeassert_run hseated) hw
  rw [removedState_cartridges] at harb
  exact ⟨t, ht, hends.orders, hends.grows.2, harb⟩

/-- The absent list after a slot with owed draw has joined one with room. -/
theorem joinedAbsent_room {c : CartridgeSlot} {list : List AbsentEntry} (howed : 0 < c.owed) (hroom : list.length < 8) :
    joinedAbsent p c list = list ++ [leavingEntry p c] ∧ dropsOldest c list = false := by
  unfold joinedAbsent dropsOldest
  rw [if_neg (Nat.pos_iff_ne_zero.mp howed), if_pos hroom, decide_eq_false (Nat.not_le.mpr hroom), Bool.and_false]
  exact ⟨rfl, rfl⟩

/-- The absent list after a slot with owed draw has joined a full one. -/
theorem joinedAbsent_full {c : CartridgeSlot} {old : AbsentEntry} {rest : List AbsentEntry} (howed : 0 < c.owed)
    (hfull : 8 ≤ (old :: rest).length) :
    joinedAbsent p c (old :: rest) = rest ++ [leavingEntry p c] ∧ dropsOldest c (old :: rest) = true := by
  unfold joinedAbsent dropsOldest
  rw [if_neg (Nat.pos_iff_ne_zero.mp howed), if_neg (Nat.not_lt.mpr hfull), decide_eq_true howed, decide_eq_true hfull]
  exact ⟨rfl, rfl⟩

/-- Nothing joins the absent list from a slot without owed draw. -/
theorem joinedAbsent_none {c : CartridgeSlot} {list : List AbsentEntry} (howed : c.owed = 0) :
    joinedAbsent p c list = list ∧ dropsOldest c list = false := by
  unfold joinedAbsent dropsOldest
  rw [if_pos howed, howed]
  exact ⟨rfl, rfl⟩

/-- Settles O29. -/
theorem removalMovesOwedDrawToTheAbsentList : Obligations.RemovalMovesOwedDrawToTheAbsentList := by
  intro p s c hwait hseated
  obtain ⟨t, ht, horders, hgrows, harb⟩ := removal_ends hwait hseated
  have hemptied := emptied_leaves p (setPin p false s)
  have hrest : ¬(emptied p (setPin p false s)).cartridges.slots[p].isDue := by
    rw [hemptied.slot]
    exact not_due_of_none rfl rfl
  have habsent := harb.absent.trans hemptied.absent
  have htotals := harb.totals.trans hemptied.totals
  refine ⟨t, ht, (harb.rest p hrest).trans hemptied.slot, harb.pins.trans hemptied.pins, fun q hq => ?_,
    hgrows _ (removedState_presence p s), fun h => hgrows _ (removedState_verdict h),
    fun e he => ⟨fun hslot => ?_, fun hslot => ?_⟩,
    fun o before after hparked ho hfirst hcompleted hroom => ?_, ?_⟩
  · exact (harb.standing q).trans (congrArg CartridgeSlot.standing (hemptied.other q hq))
  · have hline := hemptied.elsewhere e he hslot
    rw [harb.taken e hline]
    exact hline
  · exact harb.line_elsewhere (hemptied.own e he hslot) hrest
  · have hanswered := hemptied.answer o before after hparked ho hfirst
    rw [removedState_orders, hanswered] at horders
    replace horders := horders.trans (OrderTaker.moved_of_one (r := o.result (some .removed) [])
      (congrArg (· ++ [o.result (some .removed) []]) hcompleted) hroom)
    exact ⟨(congrArg OrderTaker.parked horders).trans rfl, (congrArg OrderTaker.holding horders).trans rfl⟩
  · intro abandoned entry
    refine ⟨fun howed => ?_, fun howed hroom => ?_, fun old rest howed hlist hfull => ?_⟩
    · obtain ⟨hjoined, hdrops⟩ := joinedAbsent_none (p := p) (c := leftRecord p s.cartridges) (list := s.cartridges.absent) howed
      refine ⟨habsent.trans hjoined, htotals.trans ?_⟩
      exact (congrArg (lostOldest · _ _) hdrops).trans (lostOldest_false _ _)
    · obtain ⟨hjoined, hdrops⟩ := joinedAbsent_room (p := p) (c := leftRecord p s.cartridges) howed hroom
      refine ⟨habsent.trans hjoined, htotals.trans ?_⟩
      exact (congrArg (lostOldest · _ _) hdrops).trans (lostOldest_false _ _)
    · rw [hlist] at hfull
      obtain ⟨hjoined, hdrops⟩ := joinedAbsent_full (p := p) (c := leftRecord p s.cartridges) howed hfull
      rw [← hlist] at hjoined hdrops
      refine ⟨habsent.trans hjoined, hgrows _ (removedState_drops hdrops), htotals.trans ?_⟩
      refine (congrArg (lostOldest · _ _) hdrops).trans ?_
      change lostOldest true s.cartridges.totals s.cartridges.absent = _
      rw [hlist]
      rfl

end Sys2Proof.Machine
end

section

/-! PROOFS. What the first steps of the reset event leave: the exchange on the line is abandoned, the records are
gathered and converted (R164, R175, R80). -/

namespace Sys2Proof.Machine

variable {s t x y z : State} {p q : Plane} {e : LineExchange}

/-! ### The exchange on the line is abandoned (R164) -/

/-- The record with which the reset event leaves a slot whose exchange, if it is on the line, is abandoned. -/
def abandonedSlot (k : Cartridges) (p : Plane) : CartridgeSlot :=
  match k.line with
  | none => k.slots[p]
  | some e =>
    if e.slot = p then match e.message with
      | .challenge _ => { k.slots[p] with answerTimer := none }
      | .debit amount _ _ =>
        { k.slots[p] with
          answerTimer := none
          verdict := .doubtful
          uncertain := if amount = 0 then none else some amount }
    else k.slots[p]

/-- What the abandoning of the exchange on the line leaves of the part. -/
structure LineAbandoned (s t : State) : Prop where
  only : ProverOnly s t
  grows : NoticesGrow s t
  line : t.cartridges.line = none
  slot : ∀ p : Plane, t.cartridges.slots[p].standing = (abandonedSlot s.cartridges p).standing
  pins : t.cartridges.pins = s.cartridges.pins
  absent : t.cartridges.absent = s.cartridges.absent
  totals : t.cartridges.totals = s.cartridges.totals
  policy : t.cartridges.policy = s.cartridges.policy

/-- The exchange on the line ends idle in the record `c`. -/
theorem lineAbandoned_of_slot {c : CartridgeSlot} (honly : ProverOnly s t) (hgrows : NoticesGrow s t)
    (hcart : t.cartridges = { s.cartridges with line := none, slots := put s.cartridges.slots e.slot c })
    (hline : s.cartridges.line = some e) (hc : c.standing = (abandonedSlot s.cartridges e.slot).standing) :
    LineAbandoned s t where
  only := honly
  grows := hgrows
  line := congrArg Cartridges.line hcart
  slot p := by
    rw [hcart]
    by_cases hp : e.slot = p
    · subst hp
      exact (congrArg CartridgeSlot.standing (put_same _ _ _)).trans hc
    · refine (congrArg CartridgeSlot.standing (put_other _ _ _ _ hp)).trans ?_
      unfold abandonedSlot
      rw [hline]
      exact congrArg CartridgeSlot.standing (if_neg hp).symm
  pins := (congrArg Cartridges.pins hcart).trans rfl
  absent := (congrArg Cartridges.absent hcart).trans rfl
  totals := (congrArg Cartridges.totals hcart).trans rfl
  policy := (congrArg Cartridges.policy hcart).trans rfl

theorem abandonedSlot_challenge {nonce : Nonce} (hline : s.cartridges.line = some e) (hm : e.message = .challenge nonce) :
    abandonedSlot s.cartridges e.slot = { s.cartridges.slots[e.slot] with answerTimer := none } := by
  unfold abandonedSlot
  rw [hline]
  dsimp only
  rw [if_pos rfl, hm]

theorem abandonedSlot_debit {amount : Nat} {nonce : Nonce} {tag : LineTag} (hline : s.cartridges.line = some e)
    (hm : e.message = .debit amount nonce tag) :
    abandonedSlot s.cartridges e.slot = { s.cartridges.slots[e.slot] with
      answerTimer := none, verdict := .doubtful, uncertain := if amount = 0 then none else some amount } := by
  unfold abandonedSlot
  rw [hline]
  dsimp only
  rw [if_pos rfl, hm]

/-- The state in which a slot's exchange has left the line. -/
def idled (p : Plane) (f : CartridgeSlot → CartridgeSlot) (s : State) : State :=
  (freeLine (s.onSlot p fun c => { c with exchange := .idle, answerTimer := none })).onSlot p f

theorem idled_cartridges (p : Plane) (f : CartridgeSlot → CartridgeSlot) (s : State) : (idled p f s).cartridges =
    { s.cartridges with
      line := none
      slots := put s.cartridges.slots p (f { s.cartridges.slots[p] with exchange := .idle, answerTimer := none }) } := by
  unfold idled State.onSlot freeLine
  dsimp only
  rw [put_same, put_put]

/-- A debit on the line is abandoned: the slot becomes DOUBTFUL and a probe is asked for. -/
theorem abandonExchange_debit {amount : Nat} {nonce : Nonce} {tag : LineTag} (hline : s.cartridges.line = some e)
    (hm : e.message = .debit amount nonce tag) :
    ∃ y, abandonExchange s = requestProbe e.slot (changeVerdict e.slot .doubtful y) ∧ y.writer = s.writer ∧
      y.cartridges = { s.cartridges with
        line := none
        slots := put s.cartridges.slots e.slot { s.cartridges.slots[e.slot] with
          exchange := .idle, answerTimer := none, uncertain := if amount = 0 then none else some amount } } := by
  refine ⟨idled e.slot (fun c => { c with uncertain := if amount = 0 then none else some amount }) s, ?_, rfl,
    idled_cartridges _ _ s⟩
  unfold abandonExchange
  rw [hline]
  dsimp only
  rw [hm]
  rfl

theorem abandonExchange_leaves (s : State) : LineAbandoned s (abandonExchange s) := by
  have honly := abandonExchange_proverOnly s
  cases hline : s.cartridges.line with
  | none =>
    have hsame : abandonExchange s = s := by
      unfold abandonExchange
      rw [hline]
    rw [hsame]
    refine ⟨.refl s, fun _ => id, hline, fun p => ?_, rfl, rfl, rfl, rfl⟩
    unfold abandonedSlot
    rw [hline]
  | some e =>
    cases hm : e.message with
    | challenge nonce =>
      have hstate : abandonExchange s = idled e.slot (fun c => { c with attempts := 0, probePending := true }) s := by
        unfold abandonExchange
        rw [hline]
        dsimp only
        rw [hm]
        rfl
      rw [hstate] at honly ⊢
      refine lineAbandoned_of_slot honly (fun _ => id) (idled_cartridges _ _ s) hline ?_
      rw [abandonedSlot_challenge hline hm]
      rfl
    | debit amount nonce tag =>
      obtain ⟨y, hstate, hwriter, hcart⟩ := abandonExchange_debit hline hm
      obtain ⟨probePending, hprobe⟩ := requestProbe_cartridges e.slot (changeVerdict e.slot .doubtful y)
      rw [changeVerdict_slot, changeVerdict_cartridges, hcart] at hprobe
      dsimp only at hprobe
      rw [put_same, put_put, put_put] at hprobe
      rw [hstate] at honly ⊢
      refine lineAbandoned_of_slot honly (fun i hi => ?_) hprobe hline ?_
      · rw [requestProbe_writer]
        exact changeVerdict_grows _ _ y i (hwriter ▸ hi)
      · rw [abandonedSlot_debit hline hm]
        rfl

end Sys2Proof.Machine
end

section

/-! PROOFS. The sides leave, and the records are gathered and converted (R75, R80, R119). -/

namespace Sys2Proof.Machine

variable {s t x y z : State} {p q : Plane} {r : Side} {v : Vector Unattributed 4}

/-! ### The weight of the METERING side (R80) -/

/-- An unattributed record once a metering of a side has joined it (R80). -/
def Unattributed.joined (u : Unattributed) : Option PlaneMeter → Unattributed
  | some m => { u with
      sum := (addSat maxSum u.sum m.sum).1, saturated := u.saturated || (addSat maxSum u.sum m.sum).2 }
  | none => u

/-- What a side, if there is one, has metered of a plane. -/
def meteredOf (m : Option Side) (p : Plane) : Option PlaneMeter :=
  (m.bind Side.context).bind fun c => c.planes[p]

theorem Unattributed.joined_sum (u : Unattributed) (m : Option PlaneMeter) : (u.joined m).sum = match m with
    | some m => min 1099511627775 (u.sum + m.sum)
    | none => u.sum := by
  cases m with
  | none => rfl
  | some m => exact congrArg Prod.fst (addSat_eq _ _ _)

theorem raiseIf_only (s : State) (b : Bool) (n : Notice) :
    ∃ notices, s.raiseIf b n = { s with writer := { s.writer with notices } } := by
  unfold State.raiseIf
  split
  · exact ⟨_, rfl⟩
  · exact ⟨_, rfl⟩

theorem releaseContext_eq (r : Side) (s : State) (p : Plane) : ∃ notices, releaseContext r s p = { s with
      unattributed := put s.unattributed p (s.unattributed[p].joined (meteredOf (some r) p))
      writer := { s.writer with notices } } ∧ NoticesGrow s (releaseContext r s p) := by
  have hmetered : meteredOf (some r) p = r.context.bind fun c => c.planes[p] := rfl
  unfold releaseContext
  rw [hmetered]
  cases r.context.bind fun c => c.planes[p] with
  | none => exact ⟨_, congrArg (fun v => { s with unattributed := v }) (put_self _ p).symm, fun _ => id⟩
  | some m =>
    dsimp only
    unfold addUnattributedWeight Unattributed.joined
    dsimp only
    generalize addSat maxSum s.unattributed[p].sum m.sum = a
    obtain ⟨notices, hraise⟩ := raiseIf_only { s with unattributed := put s.unattributed p { s.unattributed[p] with
      sum := a.1, saturated := s.unattributed[p].saturated || a.2 } } a.2 .saturation
    exact ⟨notices, hraise, fun i hi => raiseIf_grow _ a.2 .saturation i hi⟩

/-- The records and the notices alone differ, and the notices only grow. -/
structure Gathers (s t : State) (records : Vector Unattributed 4) : Prop where
  only : ∃ notices, t = { s with unattributed := records, writer := { s.writer with notices } }
  grows : NoticesGrow s t

theorem Gathers.refl (s : State) : Gathers s s s.unattributed := ⟨⟨_, rfl⟩, fun _ => id⟩

theorem Gathers.release (h : Gathers s t v) (r : Side) (p : Plane) :
    Gathers s (releaseContext r t p) (put v p (v[p].joined (meteredOf (some r) p))) := by
  obtain ⟨⟨_, rfl⟩, hgrows⟩ := h
  obtain ⟨notices, hnext, hmore⟩ := releaseContext_eq r _ p
  exact ⟨⟨notices, hnext⟩, hgrows.trans hmore⟩

/-- The state once the weight of a side, if there is one, has joined the unattributed records. -/
def gathered (m : Option Side) (s : State) : State :=
  match m with
  | some r => allPlanes.foldl (releaseContext r) s
  | none => s

theorem gatherAndConvert_eq (m : Option Side) (s : State) :
    gatherAndConvert m s = convertUnattributed (gathered m s) := rfl

theorem gathered_eq (m : Option Side) (s : State) : ∃ records, Gathers s (gathered m s) records ∧
      ∀ p : Plane, records[p] = s.unattributed[p].joined (meteredOf m p) := by
  cases m with
  | none => exact ⟨_, .refl s, fun _ => rfl⟩
  | some r =>
    refine ⟨_, (((((Gathers.refl s).release r 0).release r 1).release r 2).release r 3), fun p => ?_⟩
    unfold put
    fin_cases p <;> simp

/-! ### The conversion raises notices and clears none -/

theorem oweSlot_noticesGrow (p : Plane) (d : Nat) (s : State) : NoticesGrow s (oweSlot p d s) := fun i hi => by
  unfold oweSlot
  rw [thresholdTest_writer]
  unfold loseExcess
  split
  · exact raise_grow _ _ i hi
  · exact hi

theorem convertPlane_grows (s : State) (p : Plane) : NoticesGrow s (convertPlane s p) := fun i hi => by
  unfold convertPlane routeUnattributed
  dsimp only
  split
  · exact oweSlot_noticesGrow _ _ _ i hi
  · exact hi

theorem convertUnattributed_grows (s : State) : NoticesGrow s (convertUnattributed s) :=
  (((convertPlane_grows s 0).trans (convertPlane_grows _ 1)).trans (convertPlane_grows _ 2)).trans
    (convertPlane_grows _ 3)

/-! ### What one conversion leaves of the cartridges -/

/-- The draw of plane `p` in a conversion that gathers the metering side's weight too. -/
def gatheredDraw (s : State) (p : Plane) : Nat :=
  drawOf (s.unattributed[p].joined (meteredOf s.meteringSide p)).sum s.store.live.factors[p]

/-- One draw of each plane, sent where unattributed draw goes. -/
def convertedDraws (s : State) (d : Plane → Nat) : Draws := fun p => [(unattributedPlace s p, d p)]

theorem convertedDraws_sent {d : Plane → Nat} (w : DrawPlace) :
    (convertedDraws s d).sent p w = if unattributedPlace s p = w then [d p] else [] := by
  unfold Draws.sent convertedDraws
  rw [List.filter_singleton]
  by_cases hw : unattributedPlace s p = w
  · rw [if_pos hw, decide_eq_true hw]
    rfl
  · rw [if_neg hw, decide_eq_false hw]
    rfl

theorem unattributedPlace_entry (s : State) (p : Plane) (k : Nat) : unattributedPlace s p ≠ .entry k := by
  unfold unattributedPlace
  dsimp only
  split
  · exact nofun
  · exact nofun

theorem convertedDraws_excess {d : Plane → Nat} : (convertedDraws s d).excess s p =
    if unattributedPlace s p = .slot then s.cartridges.slots[p].owed + d p - 4294967295 else 0 := by
  have hentries : (s.cartridges.absent.zipIdx.map fun x =>
      lostOver x.1.owed ((convertedDraws s d).sent p (.entry x.2))).sum = 0 := by
    refine List.sum_eq_zero fun n hn => ?_
    obtain ⟨x, -, rfl⟩ := List.mem_map.mp hn
    rw [convertedDraws_sent, if_neg (unattributedPlace_entry s p x.2)]
    rfl
  unfold Draws.excess
  rw [hentries, convertedDraws_sent]
  split
  · unfold lostOver
    rw [if_neg (List.cons_ne_nil _ _), List.sum_singleton, Nat.add_zero]
  · rfl

/-- What a conversion leaves of a plane's slot and totals, and of the absent list. -/
theorem converted_leaves {d : Plane → Nat} (h : Routing s (convertedDraws s d) (fun _ => false) t) :
    t.cartridges.absent = s.cartridges.absent ∧ ∀ p : Plane,
      t.cartridges.slots[p].standing = CartridgeSlot.standing { s.cartridges.slots[p] with
        owed := if unattributedPlace s p = .slot then min 4294967295 (s.cartridges.slots[p].owed + d p)
          else s.cartridges.slots[p].owed } ∧
      t.cartridges.totals[p] =
        { drawn := s.cartridges.totals[p].drawn + BitVec.ofNat 64 (d p)
          confirmed := s.cartridges.totals[p].confirmed
          unproven := if unattributedPlace s p = .slot then s.cartridges.totals[p].unproven
            else s.cartridges.totals[p].unproven + BitVec.ofNat 64 (d p)
          lost := if unattributedPlace s p = .slot
            then s.cartridges.totals[p].lost + BitVec.ofNat 64 (s.cartridges.slots[p].owed + d p - 4294967295)
            else s.cartridges.totals[p].lost } := by
  refine ⟨List.ext_getElem? fun k => ?_, fun p => ⟨?_, ?_⟩⟩
  · cases hk : s.cartridges.absent[k]? with
    | none =>
      rw [List.getElem?_eq_none_iff] at hk ⊢
      exact h.length.trans_le hk
    | some a =>
      rw [h.entry k a hk, convertedDraws_sent, if_neg (unattributedPlace_entry s a.plane k)]
      rfl
  · obtain ⟨probePending, debitPending, hslot⟩ := h.slot p
    rw [hslot, convertedDraws_sent]
    split
    · unfold owedAfter
      rw [if_neg (List.cons_ne_nil _ _), List.sum_singleton]
      rfl
    · rfl
  · have hother : unattributedPlace s p = .unproven ↔ ¬unattributedPlace s p = .slot := by
      unfold unattributedPlace
      dsimp only
      split
      · exact ⟨nofun, fun hn => absurd rfl hn⟩
      · exact ⟨fun _ => nofun, fun _ => rfl⟩
    rw [h.totals p, convertedDraws_excess, convertedDraws_sent, if_congr hother rfl rfl, ite_not]
    have hdrawn : ((convertedDraws s d p).map Prod.snd).sum = d p := List.sum_singleton
    rw [hdrawn]
    split
    · rw [List.sum_nil, BitVec.add_zero]
    · rw [BitVec.add_zero, List.sum_singleton]

end Sys2Proof.Machine
end

section

/-! PROOFS. The state that the eight steps of the reset event leave (R175). -/

namespace Sys2Proof.Machine

variable {s t x y z : State} {p q : Plane} {w : ResetWait} {k : Cartridges} {notices : BitVec 32} {map : BitVec 64}
  {users : Vector (Option User) 64} {draws : Nat}

/-- The state of a part whose working state is empty, with a reset sequence. -/
def emptiedPart (sequence : List Result) (draws : Nat) (k : Cartridges) (notices : BitVec 32)
    (users : Vector (Option User) 64) (map : BitVec 64) (s : State) : State :=
  { s with
    draws
    cartridges := k
    jobs := Vector.replicate 16 none
    classifier := { s.classifier with regions := Vector.replicate 32 none }
    store := { s.store with pending := none }
    sides := { s.sides with records := [], settledOrder := [] }
    unattributed := Vector.replicate 4 .reset
    accounts := { s.accounts with restore := none, users }
    orders := { queue := [], parked := [], completed := [], holding := [], resetWait := none, resetSequence := sequence }
    writer := { s.writer with
      notices
      userMap := map
      writeIndex := 0
      readIndex := 0
      epoch := (s.writer.epoch + 1) % 65536
      position := .snapshots }
    port := { s.port with last := .upstream, own := s.port.own ++ [.header, .summary] } }

/-- The sides of the list that are not SETTLED. -/
def State.liveSides (s : State) : List Side := s.sides.records.filter fun r => decide (r.state ≠ .settled)

/-- The slot to which a conversion of the reset event sends the draw of its plane. -/
def CartridgeSlot.proven (c : CartridgeSlot) : Bool := c.seated && c.serial.isSome && decide (c.verdict = .genuine)

/-- The record of a slot to which the draw of a conversion goes, if it is GENUINE. -/
def CartridgeSlot.converted (d : Nat) (c : CartridgeSlot) : CartridgeSlot :=
  { c with owed := if c.proven then min 4294967295 (c.owed + d) else c.owed }

theorem CartridgeSlot.converted_standing {c e : CartridgeSlot} (d : Nat) (h : c.standing = e.standing) :
    (c.converted d).standing = (e.converted d).standing := congrArg (CartridgeSlot.converted d) h

/-- The totals of a plane whose draw a conversion sends to the slot with the record `c`, or to the unproven total. -/
def DrawTotals.converted (d : Nat) (c : CartridgeSlot) (t : DrawTotals) : DrawTotals :=
  { drawn := t.drawn + BitVec.ofNat 64 d
    confirmed := t.confirmed
    unproven := if c.proven then t.unproven else t.unproven + BitVec.ofNat 64 d
    lost := if c.proven then t.lost + BitVec.ofNat 64 (c.owed + d - 4294967295) else t.lost }

theorem DrawTotals.converted_standing {c e : CartridgeSlot} (d : Nat) (t : DrawTotals) (h : c.standing = e.standing) :
    t.converted d c = t.converted d e := by
  have hsame : ∀ c : CartridgeSlot, t.converted d c.standing = t.converted d c := fun _ => rfl
  rw [← hsame c, h, hsame]

/-- What the reset event leaves of the cartridges. -/
structure CartridgesReset (s : State) (k : Cartridges) : Prop where
  line : k.line = none
  pins : k.pins = s.cartridges.pins
  policy : k.policy = s.cartridges.policy
  absent : k.absent = s.cartridges.absent
  slot : ∀ p : Plane,
    k.slots[p].standing = ((abandonedSlot s.cartridges p).converted (gatheredDraw s p)).standing
  totals : ∀ p : Plane,
    k.totals[p] = s.cartridges.totals[p].converted (gatheredDraw s p) (abandonedSlot s.cartridges p)

/-- Where unattributed draw goes. -/
theorem unattributedPlace_iff (s : State) (p : Plane) :
    unattributedPlace s p = .slot ↔ s.cartridges.slots[p].proven = true := by
  unfold unattributedPlace CartridgeSlot.proven
  dsimp only
  rw [Bool.and_eq_true, Bool.and_eq_true, decide_eq_true_iff, and_assoc]
  exact ⟨fun h => by_contra fun hn => (by rw [if_neg hn] at h; cases h), fun h => if_pos h⟩

/-- The draws of a conversion that follows an abandoned exchange. -/
theorem LineAbandoned.converted (h : LineAbandoned s t)
    (hrouting : Routing t (convertedDraws t (gatheredDraw s)) (fun _ => false) x) : CartridgesReset s x.cartridges := by
  obtain ⟨habsent, hplanes⟩ := converted_leaves hrouting
  refine ⟨hrouting.line.trans h.line, hrouting.pins.trans h.pins, hrouting.policy.trans h.policy, habsent.trans h.absent,
    fun p => ?_, fun p => ?_⟩
  · rw [(hplanes p).1, if_congr (unattributedPlace_iff t p) rfl rfl]
    exact CartridgeSlot.converted_standing (gatheredDraw s p) (h.slot p)
  · rw [(hplanes p).2, if_congr (unattributedPlace_iff t p) rfl rfl, if_congr (unattributedPlace_iff t p) rfl rfl, h.totals]
    exact DrawTotals.converted_standing (gatheredDraw s p) s.cartridges.totals[p] (h.slot p)

/-! ### The sides and the records -/

/-- What step 3 leaves of a part in state `s`, but for its cartridges (R119). -/
def sidesGone (draws : Nat) (k : Cartridges) (jobs : Vector (Option Job) 16) (users : Vector (Option User) 64)
    (notices : BitVec 32) (map : BitVec 64) (s : State) : State :=
  { s with
    draws
    cartridges := k
    jobs
    unattributed := Vector.replicate 4 .reset
    accounts := { s.accounts with users }
    writer := { s.writer with notices, userMap := map }
    sides := { s.sides with records := [], settledOrder := [] } }

theorem withoutSides_eq (s : State) : ∃ jobs users map, withoutSides s = { s with
      jobs
      accounts := { s.accounts with users }
      writer := { s.writer with userMap := map }
      sides := { s.sides with records := [], settledOrder := [] } } ∧
    (∀ i : Fin 64, users[i] = (s.accounts.users[i]).map (releasedUser s.liveSides i)) ∧ MapGrows s map := by
  obtain ⟨jobs, users, map, hfold, -, husers, hmap, -⟩ := foldl_resetSide s.sides.records s
  refine ⟨jobs, users, map, ?_, husers, hmap⟩
  unfold withoutSides
  rw [hfold]

theorem resetSides_leaves (s : State) : ∃ draws k jobs users notices map,
    resetSides s = sidesGone draws k jobs users notices map s ∧
    (∀ i : Fin 64, users[i] = (s.accounts.users[i]).map (releasedUser s.liveSides i)) ∧ MapGrows s map ∧
    NoticesGrow s (resetSides s) ∧ Routing s (convertedDraws s (gatheredDraw s)) (fun _ => false) (resetSides s) := by
  obtain ⟨jobs, users, map, hwithout, husers, hmap⟩ := withoutSides_eq s
  obtain ⟨records, ⟨⟨notices, hgathered⟩, hgrows⟩, hrecords⟩ := gathered_eq s.meteringSide (withoutSides s)
  obtain ⟨draws, k, notices', hconvert⟩ := convertUnattributed_only (gathered s.meteringSide (withoutSides s))
  have hroutes := convertUnattributed_routes (Routing.start (s := s) (t := gathered s.meteringSide (withoutSides s))
    (by rw [hgathered, hwithout]))
  have hdraw : ∀ p, unattributedDraw (gathered s.meteringSide (withoutSides s)) p = gatheredDraw s p := fun p => by
    unfold unattributedDraw gatheredDraw
    rw [hgathered, hwithout] at *
    dsimp only at *
    rw [hrecords]
  have hconvertGrows := convertUnattributed_grows (gathered s.meteringSide (withoutSides s))
  rw [resetSides_eq, gatherAndConvert_eq]
  refine ⟨draws, k, jobs, users, notices', map, ?_, husers, hmap, fun i hi => hconvertGrows i (hgrows i ?_), ?_⟩
  · rw [hconvert, hgathered, hwithout]
    rfl
  · rw [hwithout]
    exact hi
  · simp only [hdraw] at hroutes
    exact hroutes

/-! ### The eight steps -/

theorem resetPart_leaves (w : ResetWait) (s : State) : ∃ draws k users notices map,
    resetPart w s = emptiedPart (resetSequenceOf w s) draws k notices users map s ∧
    (∀ i : Fin 64, users[i] = (s.accounts.users[i]).map (releasedUser s.liveSides i)) ∧ MapGrows s map ∧
    (∀ i, s.writer.notices.getLsbD i = true → notices.getLsbD i = true) ∧ CartridgesReset s k := by
  obtain ⟨x, hx⟩ : ∃ x : State, x = { s with accounts := { s.accounts with restore := none } } := ⟨_, rfl⟩
  have habandon := abandonExchange_leaves x
  obtain ⟨draws, k, jobs, users, notices, map, hsides, husers, hmap, hgrows, hrouting⟩ :=
    resetSides_leaves (abandonExchange x)
  have hpart : resetPart w s = resetRing (resetTables (resetSequenceOf w s) (resetSides (abandonExchange x))) := by
    rw [hx]
    rfl
  have hgatheredDraw : gatheredDraw (abandonExchange x) = gatheredDraw x := by
    obtain ⟨_, _, _, honly⟩ := habandon.only
    rw [honly]
    rfl
  rw [hgatheredDraw] at hrouting
  have hcart := habandon.converted hrouting
  rw [hsides] at hpart hcart hgrows
  refine ⟨draws, k, users, notices, map, hpart.trans ?_, fun i => (husers i).trans ?_, ?_,
    fun i hi => hgrows i (habandon.grows i ?_), ?_⟩
  · obtain ⟨_, _, _, honly⟩ := habandon.only
    rw [honly, hx]
    rfl
  · obtain ⟨_, _, _, honly⟩ := habandon.only
    rw [honly, hx]
    rfl
  · obtain ⟨_, _, _, honly⟩ := habandon.only
    rw [honly, hx] at hmap
    exact hmap
  · rw [hx]
    exact hi
  · rw [hx] at hcart
    exact ⟨hcart.line, hcart.pins, hcart.policy, hcart.absent, hcart.slot, hcart.totals⟩

end Sys2Proof.Machine
end

section

/-! PROOFS. The waiting order-take writes are taken and the waiting requests arrive, when nothing is in their way
(R20, R58, R166, R175). -/

namespace Sys2Proof.Machine

variable {s t x y z : State} {r : Req}

/-! ### Waiting order-take writes (R166) -/

/-- The order that a waiting write brings. -/
def Req.broughtOrder (r : Req) : Option OrderEntry :=
  match r.access, r.place with
  | .write _ data, .control w => some (entryOfLine w data)
  | _, _ => none

/-- The state once the orders of waiting writes have joined the queue, and the writes the upstream stream. -/
def ordersTaken (orders : List OrderEntry) (writes waiting : List Req) (s : State) : State :=
  { s with
    channel := { s.channel with heldOrders := waiting }
    orders := { s.orders with queue := s.orders.queue ++ orders }
    port := { s.port with upstream := s.port.upstream ++ writes } }

/-- A write to a control line brings an order, and nothing else does. -/
theorem broughtOrder_cases (r : Req) (s : State) :
    (∃ mask data w, r.access = .write mask data ∧ r.place = .control w ∧ r.broughtOrder = some (entryOfLine w data)) ∨
      (r.broughtOrder = none ∧ takeOrder r s = towardPort r s) := by
  unfold Req.broughtOrder takeOrder
  cases r.access with
  | read => exact Or.inr ⟨rfl, rfl⟩
  | write mask data =>
    cases r.place with
    | control w => exact Or.inl ⟨mask, data, w, rfl, rfl, rfl⟩
    | beyond | plain | region => exact Or.inr ⟨rfl, rfl⟩

theorem takeOrder_eq (hnone : s.protection.queues = []) (r : Req) :
    takeOrder r s = ordersTaken r.broughtOrder.toList [r] s.channel.heldOrders s := by
  have hfree : ∀ x : State, x.protection = s.protection → towardPort r x = issueUpstream [r] x := fun x hx =>
    towardPort_of_free fun q hq => by
      rw [hx, hnone] at hq
      exact absurd hq List.not_mem_nil
  obtain ⟨mask, data, w, haccess, hplace, hbrought⟩ | ⟨hbrought, htoward⟩ := broughtOrder_cases r s
  · rw [takeOrder_of_write haccess hplace, hbrought]
    exact hfree _ rfl
  · rw [htoward, hfree s rfl, hbrought]
    unfold ordersTaken
    rw [Option.toList_none, List.append_nil]
    rfl

theorem writesBehind_of_orders (line : Nat) {l : List Req} (h : ∀ q ∈ l, q.treatment = .orderTake) :
    writesBehind line l = ([], l) := by
  induction l with
  | nil => rfl
  | cons q l ih =>
    obtain ⟨hq, hl⟩ := List.forall_mem_cons.mp h
    unfold writesBehind
    dsimp only
    rw [ih hl, if_pos hq]
    split <;> rfl

theorem takeHeld_eq {rest : List Req} (hnone : s.protection.queues = []) (hheld : s.channel.heldOrders = r :: rest)
    (horders : ∀ q ∈ rest, q.treatment = .orderTake) (hroom : s.orders.queue.length < 8) :
    takeHeld s = ordersTaken r.broughtOrder.toList [r] rest s := by
  unfold takeHeld
  rw [hheld]
  dsimp only
  rw [if_pos (show s.queueHasRoom = true from decide_eq_true hroom), writesBehind_of_orders r.line horders,
    takeOrder_eq (by exact hnone)]
  rfl

/-- With room for all of them, every waiting order-take write is taken. -/
theorem takeHeldUpTo_eq {n : Nat} (hnone : s.protection.queues = [])
    (horders : ∀ q ∈ s.channel.heldOrders, q.treatment = .orderTake) (hn : s.channel.heldOrders.length ≤ n)
    (hroom : s.orders.queue.length + s.channel.heldOrders.length ≤ 8) :
    takeHeldUpTo n s = ordersTaken (s.channel.heldOrders.filterMap Req.broughtOrder) s.channel.heldOrders [] s := by
  induction n generalizing s with
  | zero =>
    rw [List.length_eq_zero_iff.mp (Nat.le_zero.mp hn)]
    unfold takeHeldUpTo ordersTaken
    rw [List.filterMap_nil, List.append_nil, List.append_nil, ← List.length_eq_zero_iff.mp (Nat.le_zero.mp hn)]
  | succ n ih =>
    cases hheld : s.channel.heldOrders with
    | nil =>
      have hstays : takeHeld s = s := by
        unfold takeHeld
        rw [hheld]
      have hrest := ih hnone horders (by rw [hheld]; exact Nat.zero_le n) hroom
      rw [hheld] at hrest
      unfold takeHeldUpTo
      rw [hstays]
      exact hrest
    | cons r rest =>
      rw [hheld] at horders hn hroom
      obtain ⟨-, hlater⟩ := List.forall_mem_cons.mp horders
      rw [List.length_cons] at hn hroom
      have hone : (s.orders.queue ++ r.broughtOrder.toList).length + rest.length ≤ 8 := by
        have hbrought : r.broughtOrder.toList.length ≤ 1 := Option.length_toList_le
        rw [List.length_append]
        omega
      unfold takeHeldUpTo
      rw [takeHeld_eq hnone hheld hlater (by omega),
        ih (s := ordersTaken r.broughtOrder.toList [r] rest s) hnone hlater (Nat.le_of_succ_le_succ hn) hone]
      unfold ordersTaken
      dsimp only
      rw [List.append_assoc, List.append_assoc, List.singleton_append, List.filterMap_eq_flatMap_toList,
        List.filterMap_eq_flatMap_toList, List.flatMap_cons]

/-! ### Waiting requests (R20, R58) -/

/-- A request to a plain line as it arrives with a number. -/
def plainRequest (s : State) (x : LineReq × Nat) : Req :=
  { id := x.2, tag := x.1.tag, cls := s.classifier.sources[x.1.tag], line := x.1.line, access := x.1.access
    place := .plain, treatment := .pass }

/-- The requests that wait on the channel, as they arrive. -/
def arrivingRequests (s : State) (l : List LineReq) : List Req := (l.zipIdx s.channel.nextId).map (plainRequest s)

/-- The state once requests have arrived and joined the upstream stream. -/
def withArrived (n : Nat) (rs : List Req) (s : State) : State :=
  { s with
    channel := { s.channel with
      nextId := s.channel.nextId + n
      outstanding := s.channel.outstanding ++ rs.map fun r => { id := r.id, tag := r.tag, answer := none } }
    port := { s.port with upstream := s.port.upstream ++ rs } }

theorem withArrived_nil (s : State) : withArrived 0 [] s = s := by
  unfold withArrived
  rw [List.map_nil, List.append_nil, List.append_nil]
  rfl

theorem withArrived_append (m n : Nat) (rs qs : List Req) (s : State) :
    withArrived n qs (withArrived m rs s) = withArrived (m + n) (rs ++ qs) s := by
  unfold withArrived
  dsimp only
  rw [List.append_assoc, List.append_assoc, List.map_append, Nat.add_assoc]

/-- The state once requests to plain lines have arrived and joined the upstream stream. -/
def requestsArrived (l : List LineReq) (s : State) : State := withArrived l.length (arrivingRequests s l) s

theorem requestsArrived_nil (s : State) : requestsArrived [] s = s := withArrived_nil s

/-- A request to a plain line that stores or reads something. -/
structure ToPlainLine (q : LineReq) (c : Classifier) : Prop where
  memory : q.line < c.memLines
  noControl : ¬(c.controlBase ≤ q.line ∧ q.line < c.controlBase + 512)
  stores : ∀ data, q.access ≠ .write 0 data

theorem ToPlainLine.storesSomething {q : LineReq} {c : Classifier} (h : ToPlainLine q c) : storesNothing q.access = false := by
  cases haccess : q.access with
  | read => rfl
  | write mask data => exact decide_eq_false fun hmask => h.stores data (haccess.trans (congrArg (Access.write · data) hmask))

theorem arrive_plain {q : LineReq} (hregions : s.classifier.regions = Vector.replicate 32 none)
    (hnone : s.protection.queues = []) (hq : ToPlainLine q s.classifier) : arrive q s = requestsArrived [q] s := by
  have hplace : s.placeOf q.line = .plain := placeOf_plain hq.memory hq.noControl fun i r hr => by
    rw [hregions] at hr
    simp at hr
  have hclass : classify q s = plainRequest s (q, s.channel.nextId) :=
    classify_eq (tag := q.tag) (line := q.line) (access := q.access) hplace (treatment := .pass) rfl
  unfold arrive
  rw [hclass, handleRequest_pass rfl rfl hq.storesSomething, towardPort_of_free (by
    dsimp only
    rw [hnone]
    exact fun _ h => absurd h List.not_mem_nil)]
  rfl

theorem requestsArrived_append (q : LineReq) (l : List LineReq) (s : State) :
    requestsArrived l (requestsArrived [q] s) = requestsArrived (q :: l) s := by
  refine (withArrived_append 1 l.length (arrivingRequests s [q]) _ s).trans ?_
  rw [Nat.add_comm]
  rfl

theorem foldl_arrive_plain {l : List LineReq} (hregions : s.classifier.regions = Vector.replicate 32 none)
    (hnone : s.protection.queues = []) (hl : ∀ q ∈ l, ToPlainLine q s.classifier) :
    l.foldl (fun s q => arrive q s) s = requestsArrived l s := by
  induction l generalizing s with
  | nil => exact (requestsArrived_nil s).symm
  | cons q l ih =>
    obtain ⟨hq, hrest⟩ := List.forall_mem_cons.mp hl
    rw [List.foldl_cons, arrive_plain hregions hnone hq, ih (s := requestsArrived [q] s) hregions hnone hrest,
      requestsArrived_append]

/-- The channel front presents what waits on it, when it may. -/
theorem openChannel_eq (hregions : s.classifier.regions = Vector.replicate 32 none) (hnone : s.protection.queues = [])
    (hl : ∀ q ∈ s.channel.waiting, ToPlainLine q s.classifier) (hopen : s.channel.waiting = [] ∨ s.accepting = true) :
    openChannel s = requestsArrived s.channel.waiting { s with channel := { s.channel with waiting := [] } } := by
  obtain hempty | hacc := hopen
  · rw [openChannel_of_none hempty, hempty, requestsArrived_nil, ← hempty]
  · unfold openChannel
    rw [if_pos hacc]
    exact foldl_arrive_plain (s := { s with channel := { s.channel with waiting := [] } }) hregions hnone hl

end Sys2Proof.Machine
end

section

/-! PROOFS. The end of the event in which the reset takes place (R17, R174, R176, R185). -/

namespace Sys2Proof.Machine

variable {s t u v x y z : State} {w : ResetWait} {b : State}

/-! ### The end of the event -/

/-- An event whose end carries out the reset ends as the state after it does. -/
theorem concludeEvent_of_reset (b : State) (h : tryReset (noteDrain y) = x) (hx : x.orders.resetWait = none) :
    concludeEvent b y = concludeEvent b x := by
  unfold concludeEvent
  rw [h, noteDrain_of_no_wait x hx, tryReset_of_no_wait x hx]

theorem issueHeader_of_epoch (h : x.writer.epoch ≠ b.writer.epoch) : issueHeader b x = x := by
  unfold issueHeader
  rw [decide_eq_true h, Bool.or_true]
  rfl

theorem issueSummary_of_waiting (h : .summary ∈ x.port.own) : issueSummary b x = x := by
  have hwaiting : x.summaryWaiting = true := List.any_eq_true.mpr ⟨_, h, rfl⟩
  unfold issueSummary
  rw [hwaiting, Bool.or_true]
  rfl

/-- While a reset sequence lasts, its first result is what the owners offer (R180). -/
theorem firstOffer_of_sequence {own : Result} {more : List Result} (h : v.orders.resetSequence = own :: more) :
    firstOffer v (rotation .snapshots) = some (.orderTaker, resultLine v.writer.epoch own) := by
  have hside : offerOf v .sideList = none := by
    unfold offerOf
    rw [h]
    rfl
  have htaker : offerOf v .orderTaker = some (resultLine v.writer.epoch own) := by
    unfold offerOf resultOffer
    rw [h]
  unfold rotation firstOffer
  rw [hside]
  unfold firstOffer
  rw [htaker]

/-- What a reset event leaves of the return writer, as far as its first return depends on it. -/
structure ReadyForReset (b x : State) (own : Result) (more : List Result) : Prop where
  wait : x.orders.resetWait = none
  sequence : x.orders.resetSequence = own :: more
  epoch : x.writer.epoch ≠ b.writer.epoch
  position : x.writer.position = .snapshots
  ring : x.writer.full = false
  summary : .summary ∈ x.port.own
  noReturn : ∀ q ∈ x.port.own, q.isReturn = false

/-- The event ends with the first return of the reset sequence on its way, and no other line. -/
theorem ReadyForReset.own {own : Result} {more : List Result} (h : ReadyForReset b x own more) :
    (concludeEvent b x).port.own = x.port.own ++ [.ret .orderTaker (resultLine x.writer.epoch own)] := by
  obtain ⟨d, k, n, hstate⟩ := (testEstimates_proverOnly b x).trans (arbitrate_proverOnly (testEstimates b x))
  obtain ⟨v, hv⟩ : ∃ v, v = moveCompleted (arbitrate (testEstimates b x)) := ⟨_, rfl⟩
  have hwriter : v.writer.full = x.writer.full ∧ v.writer.position = x.writer.position ∧
      v.writer.epoch = x.writer.epoch := by
    rw [hv, hstate]
    exact ⟨rfl, rfl, rfl⟩
  have hport : v.port = x.port := by
    rw [hv, hstate]
    rfl
  have horders : v.orders.resetWait = x.orders.resetWait ∧ v.orders.resetSequence = x.orders.resetSequence := by
    rw [hv, hstate]
    exact ⟨rfl, rfl⟩
  obtain ⟨hfull, hposition, hepoch⟩ := hwriter
  have hreturn : issueReturn v = issueOwn [.ret .orderTaker (resultLine v.writer.epoch own)]
      { v with writer := { v.writer with position := .orderTaker } } := by
    rw [issueReturn_of_none (horders.1.trans h.wait) (by rw [hport]; exact h.noReturn), hfull, h.ring, hposition, h.position,
      firstOffer_of_sequence (horders.2.trans h.sequence)]
    rfl
  unfold concludeEvent
  rw [noteDrain_of_no_wait x h.wait, tryReset_of_no_wait x h.wait]
  dsimp only
  rw [← hv, hreturn, issueHeader_of_epoch (by exact hepoch ▸ h.epoch), issueSummary_of_waiting]
  · change v.port.own ++ [.ret .orderTaker (resultLine v.writer.epoch own)] = _
    rw [hport, hepoch]
  · change .summary ∈ v.port.own ++ _
    rw [hport]
    exact List.mem_append_left _ h.summary

end Sys2Proof.Machine
end

section

/-! PROOFS. The state after the reset event, and the end of its event (R175, R176). -/

namespace Sys2Proof.Machine

variable {s t u v x y z : State} {w : ResetWait} {b : State}

/-! ### The state after the reset event -/

/-- The state of a part whose working state is empty, whose waiting orders are taken and whose waiting requests have
arrived. -/
def restarted (sequence : List Result) (draws : Nat) (k : Cartridges) (notices : BitVec 32)
    (users : Vector (Option User) 64) (map : BitVec 64) (s : State) : State :=
  requestsArrived s.channel.waiting
    (ordersTaken (s.channel.heldOrders.filterMap Req.broughtOrder) s.channel.heldOrders []
      { emptiedPart sequence draws k notices users map s with channel := { s.channel with waiting := [] } })

/-- What waits outside a part, in the form in which the reset event lets all of it in. -/
structure AllMayEnter (s : State) : Prop where
  queues : s.protection.queues = []
  room : s.channel.heldOrders.length ≤ 8
  orders : ∀ q ∈ s.channel.heldOrders, q.treatment = .orderTake
  accepts : s.channel.waiting = [] ∨ (s.channel.summaryWritten = true ∧ s.channel.headerWritten = true)
  plain : ∀ q ∈ s.channel.waiting, ToPlainLine q s.classifier

theorem warmReset_leaves (w : ResetWait) (h : AllMayEnter s) : ∃ draws k users notices map,
    warmReset w s = restarted (resetSequenceOf w s) draws k notices users map s ∧
    (∀ i : Fin 64, users[i] = (s.accounts.users[i]).map (releasedUser s.liveSides i)) ∧ MapGrows s map ∧
    (∀ i, s.writer.notices.getLsbD i = true → notices.getLsbD i = true) ∧ CartridgesReset s k := by
  obtain ⟨draws, k, users, notices, map, hpart, husers, hmap, hnotices, hcart⟩ := resetPart_leaves w s
  refine ⟨draws, k, users, notices, map, ?_, husers, hmap, hnotices, hcart⟩
  have htaken := takeHeldUpTo_eq (s := emptiedPart (resetSequenceOf w s) draws k notices users map s) h.queues h.orders
    h.room ((Nat.zero_add _).trans_le h.room)
  have hpresented := openChannel_eq (s := ordersTaken (s.channel.heldOrders.filterMap Req.broughtOrder)
    s.channel.heldOrders [] (emptiedPart (resetSequenceOf w s) draws k notices users map s)) rfl h.queues
    fun q hq => ⟨(h.plain q hq).memory, (h.plain q hq).noControl, (h.plain q hq).stores⟩
  rw [warmReset_eq, hpart]
  refine (congrArg openChannel htaken).trans ((hpresented ?_).trans rfl)
  · refine h.accepts.imp id fun ⟨hsummary, hheader⟩ => ?_
    change (s.channel.summaryWritten && s.channel.headerWritten && true) = true
    rw [hsummary, hheader]
    rfl

theorem warmReset_noWait (w : ResetWait) (h : AllMayEnter s) : (warmReset w s).orders.resetWait = none := by
  obtain ⟨_, _, _, _, _, hstate, -⟩ := warmReset_leaves w h
  rw [hstate]
  rfl

/-! ### What the event leaves -/

/-- What the reset event leaves of a part in state `s`, with the first result of the reset sequence and the others. -/
structure ResetLeaves (s t : State) (own : Result) (answered : List Result) : Prop where
  jobs : t.jobs = Vector.replicate 16 none
  classifier : t.classifier = { s.classifier with regions := Vector.replicate 32 none }
  sides : t.sides = { s.sides with records := [], settledOrder := [] }
  store : t.store = { s.store with pending := none }
  mem : t.mem = s.mem
  protection : t.protection = s.protection
  channel : t.channel = { s.channel with
    heldOrders := []
    waiting := []
    nextId := s.channel.nextId + s.channel.waiting.length
    outstanding := s.channel.outstanding ++
      (arrivingRequests s s.channel.waiting).map fun r => { id := r.id, tag := r.tag, answer := none } }
  accounts : ∃ users, t.accounts = { s.accounts with restore := none, users } ∧
    ∀ i : Fin 64, users[i] = (s.accounts.users[i]).map (releasedUser s.liveSides i)
  unattributed : t.unattributed = Vector.replicate 4 .reset
  orders : t.orders =
    { queue := s.channel.heldOrders.filterMap Req.broughtOrder, parked := [], completed := [], holding := []
      resetWait := none, resetSequence := own :: answered }
  ring : t.writer.writeIndex = 0 ∧ t.writer.readIndex = 0
  epoch : t.writer.epoch = (s.writer.epoch + 1) % 65536
  enables : t.writer.enables = s.writer.enables
  notices : ∀ i, s.writer.notices.getLsbD i = true → t.writer.notices.getLsbD i = true
  userMap : MapGrows s t.writer.userMap
  upstream : t.port.upstream = s.port.upstream ++ s.channel.heldOrders ++ arrivingRequests s s.channel.waiting
  last : t.port.last = .upstream
  own : t.port.own = s.port.own ++ [.header, .summary, .ret .orderTaker (resultLine t.writer.epoch own)]
  pins : t.cartridges.pins = s.cartridges.pins
  policy : t.cartridges.policy = s.cartridges.policy
  absent : t.cartridges.absent = s.cartridges.absent
  slot : ∀ p : Plane,
    t.cartridges.slots[p].standing = ((abandonedSlot s.cartridges p).converted (gatheredDraw s p)).standing
  totals : ∀ p : Plane,
    t.cartridges.totals[p] = s.cartridges.totals[p].converted (gatheredDraw s p) (abandonedSlot s.cartridges p)

theorem epoch_advances (n : Nat) : (n + 1) % 65536 ≠ n := by omega

theorem reset_ends (w : ResetWait) (h : AllMayEnter s) (hbusy : s.writerBusy = false)
    (hepoch : b.writer.epoch = s.writer.epoch) {own : Result} {answered : List Result}
    (hsequence : resetSequenceOf w s = own :: answered) :
    ResetLeaves s (concludeEvent b (warmReset w s)) own answered := by
  obtain ⟨draws, k, users, notices, map, hstate, husers, hmap, hnotices, hcart⟩ := warmReset_leaves w h
  rw [hsequence] at hstate
  rw [hstate]
  generalize hx : restarted (own :: answered) draws k notices users map s = x
  have hwait : x.orders.resetWait = none := by rw [← hx]; rfl
  have hends := concludeEvent_ends b hwait
  have hready : ReadyForReset b x own answered := by
    rw [← hx]
    refine ⟨rfl, rfl, ?_, rfl, rfl, List.mem_append_right _ (by decide), fun q hq => ?_⟩
    · rw [hepoch]
      exact epoch_advances _
    · obtain hq | hq := List.mem_append.mp hq
      · exact noReturn_of_notBusy hbusy q hq
      · fin_cases hq <;> rfl
  have howned := hready.own
  generalize concludeEvent b x = t at hends howned ⊢
  have hfield : ∀ {α : Type} (f : Ledger → α), f t.ledger = f { x.ledger with notices := t.writer.notices } :=
    fun f => congrArg f hends.grows.1
  subst hx
  have hepochAfter : t.writer.epoch = (s.writer.epoch + 1) % 65536 := hfield Ledger.epoch
  have hmapAfter : t.writer.userMap = map := hfield Ledger.userMap
  exact {
    jobs := hfield Ledger.jobs
    classifier := hfield Ledger.classifier
    sides := hfield Ledger.sides
    store := hfield Ledger.store
    mem := hfield Ledger.mem
    protection := hends.port.protection
    channel := hends.channel
    accounts := ⟨users, hfield Ledger.accounts, husers⟩
    unattributed := hfield Ledger.unattributed
    orders := hends.orders.trans (OrderTaker.moved_of_none rfl)
    ring := ⟨hfield Ledger.writeIndex, hfield Ledger.readIndex⟩
    epoch := hepochAfter
    enables := hfield Ledger.enables
    notices := fun i hi => hends.grows.2 i (hnotices i hi)
    userMap := hmapAfter ▸ hmap
    upstream := hends.port.upstream
    last := hends.port.last
    own := by
      rw [hepochAfter]
      exact howned.trans (List.append_assoc _ _ _)
    pins := (hfield Ledger.pins).trans hcart.pins
    policy := (hfield Ledger.policy).trans hcart.policy
    absent := (hfield Ledger.absent).trans hcart.absent
    slot := fun p => (hends.grows.standing p).trans (hcart.slot p)
    totals := fun p => (congrArg (fun v => v[p]) (hfield Ledger.totals)).trans (hcart.totals p) }

end Sys2Proof.Machine
end

section

/-! PROOFS. PART RESET at once, PART RESET in a wait, and RESET_EVENT (R174). -/

namespace Sys2Proof.Machine

variable {s t u v x y z : State} {w : ResetWait} {b : State} {e : OrderEntry} {rest : List OrderEntry}

/-- The state in which the reset wait and what is left of the queue have been replaced. -/
def waitingFor (queue : List OrderEntry) (wait : Option ResetWait) (s : State) : State :=
  { s with orders := { s.orders with queue, resetWait := wait } }

theorem waitingFor_self {queue : List OrderEntry} (hqueue : s.orders.queue = queue) (hwait : s.orders.resetWait = some w) :
    waitingFor queue (some w) s = s := by
  unfold waitingFor
  rw [← hqueue, ← hwait]

/-- The wait that PART RESET enters (R174). -/
def OrderEntry.resetWait (e : OrderEntry) (drained : Bool) : ResetWait := { serial := e.serial, window := e.window, drained }

theorem partReset_run (h : s.Executes 0x62#8 e rest) :
    exec .partReset s = .next (concludeEvent s (waitingFor rest (some (e.resetWait false)) s)) := by
  have hready : (s.takerReady && isKind 0x62#8 e) = true := by
    rw [takerReady_iff.mpr ⟨h.room, h.noWait, h.noSequence⟩, h.isKind]
    rfl
  change execPartReset s = _
  unfold execPartReset
  rw [h.queue]
  dsimp only
  rw [hready]
  rfl

theorem noteDrain_entered (e : OrderEntry) (rest : List OrderEntry) (s : State) :
    noteDrain (waitingFor rest (some (e.resetWait false)) s) = waitingFor rest (some (e.resetWait s.drainComplete)) s := by
  change (if s.drainComplete = true then waitingFor rest (some (e.resetWait true)) s
    else waitingFor rest (some (e.resetWait false)) s) = _
  cases s.drainComplete <;> rfl

theorem tryReset_waiting (queue : List OrderEntry) (w : ResetWait) (s : State) : tryReset (waitingFor queue (some w) s) =
    if w.drained = true ∧ ¬s.writerBusy = true then warmReset w (waitingFor queue (some w) s)
    else waitingFor queue (some w) s := rfl

/-- An event that lasts in a reset wait, and leaves the cartridges alone. -/
theorem concludeEvent_waits (h : tryReset (noteDrain y) = x) (hk : x.cartridges = b.cartridges) :
    (concludeEvent b y).ledger = x.ledger ∧ (concludeEvent b y).orders = x.orders.moved := by
  refine ⟨?_, ?_⟩
  · rw [concludeEvent_ledger_tests, h, testEstimates_same b x (fun p => by rw [hk]) (fun p => by rw [hk]) (by rw [hk])]
  · unfold concludeEvent
    rw [h]
    simp only [evaluateAttention_orders, issueSummary_orders, issueHeader_orders, issueReturn_orders, moveCompleted_orders,
      arbitrate_orders, testEstimates_orders]

/-- PART RESET waits (R174). -/
theorem partReset_waits (h : s.Executes 0x62#8 e rest) (hn : ¬(s.drainComplete = true ∧ s.writerBusy = false)) :
    ∃ t, exec .partReset s = .next t ∧ t.ledger = s.ledger ∧ t.orders.queue = rest ∧ t.orders.parked = s.orders.parked ∧
      t.orders.resetWait = some { serial := e.serial, window := e.window, drained := s.drainComplete } := by
  have hstays : tryReset (noteDrain (waitingFor rest (some (e.resetWait false)) s)) =
      waitingFor rest (some (e.resetWait s.drainComplete)) s := by
    rw [noteDrain_entered, tryReset_waiting]
    exact if_neg fun ⟨hdrained, hbusy⟩ => hn ⟨hdrained, Bool.eq_false_iff.mpr hbusy⟩
  obtain ⟨hledger, horders⟩ := concludeEvent_waits (b := s) hstays rfl
  exact ⟨_, partReset_run h, hledger, (congrArg OrderTaker.queue horders).trans rfl,
    (congrArg OrderTaker.parked horders).trans rfl, (congrArg OrderTaker.resetWait horders).trans rfl⟩

/-- PART RESET takes its reset event at once (R174, R175). -/
theorem partReset_resets (hdrain : s.drainComplete = true) (hbusy : s.writerBusy = false) :
    tryReset (noteDrain (waitingFor rest (some (e.resetWait false)) s)) =
      warmReset (e.resetWait true) (waitingFor rest (some (e.resetWait true)) s) := by
  rw [noteDrain_entered, tryReset_waiting, hdrain]
  exact if_pos ⟨rfl, by rw [hbusy]; exact Bool.false_ne_true⟩

theorem resetEvent_run (hwait : s.orders.resetWait = some w) (hdrain : s.drainComplete = true)
    (hbusy : s.writerBusy = false) : exec .resetEvent s = .next (concludeEvent s (warmReset w s)) := by
  change execResetEvent s = _
  unfold execResetEvent
  rw [hwait]
  dsimp only
  rw [hdrain, hbusy]
  rfl

theorem queues_of_drainComplete (h : s.drainComplete = true) : s.protection.queues = [] := by
  unfold State.drainComplete at h
  simp only [Bool.and_eq_true] at h
  obtain ⟨⟨⟨-, hqueues⟩, -⟩, -⟩ := h
  exact List.isEmpty_iff.mp hqueues

end Sys2Proof.Machine
end

section

/-! PROOFS. PART RESET empties the working state (R175, R176). -/

namespace Sys2Proof.Machine

variable {s t u v x y z : State} {w : ResetWait} {b : State} {p : Plane}

/-! ### The statement's quantities -/

theorem gatheredDraw_eq (s : State) (p : Plane) : gatheredDraw s p = roundHalfEven
    ((match (s.meteringSide.bind Side.context).bind fun c => c.planes[p] with
      | some m => min 1099511627775 (s.unattributed[p].sum + m.sum)
      | none => s.unattributed[p].sum) * s.store.live.factors[p]) 16777216 := by
  exact congrArg (fun n => roundHalfEven (n * s.store.live.factors[p]) 16777216)
    (Unattributed.joined_sum s.unattributed[p] (meteredOf s.meteringSide p))

theorem notices_and {a b : BitVec 32} (h : ∀ i, a.getLsbD i = true → b.getLsbD i = true) : a &&& b = a := by
  refine BitVec.eq_of_getLsbD_eq fun i _ => ?_
  rw [BitVec.getLsbD_and]
  cases ha : a.getLsbD i with
  | false => rfl
  | true => exact h i ha

theorem resetVals_eq (s : State) (o : ParkObject) : o.resetVals s = match o with
    | .job i _ => (match s.jobs[i] with
      | some j => [u16 j.tag, u8 i.val]
      | none => [])
    | _ => [] := by
  cases o with
  | job i n => cases hjob : s.jobs[i] <;> simp only [ParkObject.resetVals, hjob, jobNames]
  | _ => rfl

theorem broughtOrder_eq (r : Req) : r.broughtOrder = match r.access, r.place with
    | .write _ data, .control w => some { window := w, kind := data.extractLsb' 0 8, serial := data.extractLsb' 8 16
                                          args := data.extractLsb' 24 488 }
    | _, _ => none := by
  unfold Req.broughtOrder
  cases r.access with
  | read => rfl
  | write mask data => cases r.place <;> rfl

/-- Settles O59. -/
theorem partResetEmptiesTheWorkingState : Obligations.PartResetEmptiesTheWorkingState := by
  intro s hheld horders haccepts hplain taken arrivals live gathered draw abandoned proven answer after
  have hall : ∀ (queue : List OrderEntry) (wait : Option ResetWait), s.drainComplete = true →
      AllMayEnter (waitingFor queue wait s) := fun queue wait hdrain =>
    ⟨queues_of_drainComplete hdrain, hheld, horders, haccepts, fun q hq =>
      let ⟨hmemory, hcontrol, hstores⟩ := hplain q hq
      ⟨hmemory, hcontrol, hstores⟩⟩
  have hafter : ∀ (w : ResetWait) (queue : List OrderEntry) (wait : Option ResetWait), s.drainComplete = true →
      s.writerBusy = false →
      after (concludeEvent s (warmReset w (waitingFor queue wait s))) w.serial w.window queue := by
    intro w queue wait hdrain hbusy
    unfold after
    intro answered own
    have hsequence : resetSequenceOf w (waitingFor queue wait s) = own :: answered := by
      have hanswered : resetFollowers (waitingFor queue wait s) = answered := by
        refine congrArg₂ (· ++ ·) (congrArg (s.orders.holding ++ s.orders.completed ++ ·)
          (List.map_congr_left fun o _ => ?_)) (List.map_congr_left fun e _ => rfl)
        exact congrArg (answer o.serial o.kind o.window) (resetVals_eq _ o.object)
      have hline : optVal 1 (s.cartridges.line.map fun x => x.slot.val) = match s.cartridges.line with
          | some x => [u8 1, u8 x.slot.val]
          | none => [u8 0, u8 0] := by
        cases s.cartridges.line <;> rfl
      unfold resetSequenceOf resetVals
      rw [hanswered, List.countP_eq_length_filter]
      exact congrArg (· :: answered) (congrArg (Result.mk _ _ _ _) (congrArg (· ++ _) (congrArg (_ ++ ·) hline)))
    have h := reset_ends (b := s) w (hall queue wait hdrain) hbusy rfl hsequence
    obtain ⟨users, haccounts, husers⟩ := h.accounts
    generalize concludeEvent s (warmReset w (waitingFor queue wait s)) = t at h haccounts ⊢
    refine ⟨fun i => ?_, h.classifier, h.sides, h.store, h.mem, h.protection, h.channel, ?_, fun p => ?_, ?_, h.ring.1, h.ring.2,
      h.epoch, h.enables, notices_and h.notices, h.userMap.1, h.userMap.2, h.upstream, h.last, h.own, h.pins, h.policy, h.absent,
      fun p => ?_⟩
    · rw [h.jobs]
      exact Vector.getElem_replicate _
    · rw [haccounts]
      refine congrArg (fun users => { s.accounts with restore := none, users := users }) (Vector.ext fun i hi => ?_)
      rw [Vector.getElem_ofFn]
      exact husers ⟨i, hi⟩
    · rw [h.unattributed]
      exact Vector.getElem_replicate _
    · rw [h.orders]
      refine congrArg (fun queue => ({ queue, parked := [], completed := [], holding := [], resetWait := none
                                       resetSequence := own :: answered } : OrderTaker)) ?_
      exact List.filterMap_congr fun q _ => broughtOrder_eq q
    · intro c old
      have hslot : t.cartridges.slots[p].standing = ((abandonedSlot s.cartridges p).converted (gatheredDraw s p)).standing :=
        h.slot p
      have htotals : t.cartridges.totals[p] =
        s.cartridges.totals[p].converted (gatheredDraw s p) (abandonedSlot s.cartridges p) := h.totals p
      have habandoned : abandonedSlot s.cartridges p = abandoned p := rfl
      have hdraw : gatheredDraw s p = draw p := gatheredDraw_eq s p
      rw [habandoned, hdraw] at hslot htotals
      exact ⟨hslot, htotals⟩
  refine ⟨fun e rest h => ⟨fun hdrain hbusy => ?_, partReset_waits h⟩, fun w hwait hdrain hbusy => ?_⟩
  · refine ⟨_, partReset_run h, ?_⟩
    rw [concludeEvent_of_reset s (partReset_resets hdrain hbusy) (warmReset_noWait _ (hall rest _ hdrain))]
    exact hafter (e.resetWait true) rest _ hdrain hbusy
  · refine ⟨_, resetEvent_run hwait hdrain hbusy, ?_⟩
    have hreset := hafter w s.orders.queue (some w) hdrain hbusy
    rw [waitingFor_self rfl hwait] at hreset
    exact hreset

end Sys2Proof.Machine
end
